-- ==== Sys2Proof/Word.lean ====
section
/-! DEFINITION. The word types of the cells: a byte and a two-byte field (01 section 1.1, "a byte is drawn with bit 7 as its most significant bit"). -/

namespace Sys2Proof

/-- One byte of a cell, and any 8-bit field: unit addresses, sequences, tags, codes. -/
abbrev Byte := BitVec 8

/-- A 16-bit count or field: frame number, plan generation, scan number, CRC, audio sample. -/
abbrev Half := BitVec 16

end Sys2Proof
end

