-- ==== Sys2Proof/Config.lean ====
section
/-! DEFINITION. What the D-312 fixes once (the capacities of 00_scope.md) and the values its manual leaves open: opaque constants, so that no proof can rest on a choice of theirs. -/

namespace Sys2Proof.Config

/-- Capacity of the D-port urgent queue and of the U-port reply queue (01 section 1.5). -/
abbrev urgentCap : Nat := 8
/-- Capacity of the U-port reply queue (01 section 1.5). -/
abbrev replyCap : Nat := 8
/-- Capacity of the D-port command queue (01 section 1.5). -/
abbrev commandCap : Nat := 16
/-- Capacity of each audio queue (01 section 1.5). -/
abbrev audioCap : Nat := 16
/-- Capacity of each forward queue (01 section 1.5). -/
abbrev forwardCap : Nat := 16
/-- Capacity of the report queue (R192). -/
abbrev reportCap : Nat := 32
/-- Places of the management request queue (R186). -/
abbrev requestCap : Nat := 4
/-- Places of the coordination request queue (R45). -/
abbrev coordCap : Nat := 8
/-- Places of that queue that filers other than the retune contexts may take (R45). -/
abbrev coordOtherCap : Nat := 4
/-- Entries of the retune queue (R85). -/
abbrev retuneCap : Nat := 16
/-- Entries of the foreign list, and detections of a segment result list (R146, R145). -/
abbrev foreignCap : Nat := 32
/-- Blocks of the talkback buffer pool (R170). -/
abbrev poolBlocks : Nat := 512
/-- Most data bytes of a MGMT_REPLY (R188). -/
abbrev replyData : Nat := 45

/-- R22 gives GLITCH's time in microseconds and no rounding. The free value says, for a time that is no whole
number of microseconds, whether it is rounded up. DESIGN CHOICE (log 7), safe. -/
opaque glitchRoundsUp : Nat → Bool

/-- R141 refuses a CONFIG write by which sweep receivers A and B would hold one address; where the write names both,
R189 does not say which of the two items is the refused one. The free value is true when it is the later.
DESIGN CHOICE (log 9), safe. -/
opaque clashAtLater : Bool

/-- R165 gives TALLY_RESUMED's count two bytes and does not say what they hold once more than 65,535 frame events have
passed. DESIGN CHOICE (log 14), safe. -/
opaque staleFramesOver : Nat → Half

/-- R68 makes the snapped flag of the result record that of the final attempt, and gives no value for a request that ended
with no attempt. DESIGN CHOICE (log 31), safe. -/
opaque noTrySnapped : Bool

/-- R148 gives SCAN_DONE's insertions and removals one byte each and does not say what they hold for a count above 255,
which a scan of 16 segments of 32 detections can reach. DESIGN CHOICE (log 35), safe. -/
opaque scanCountOver : Nat → Byte

/-- R171 puts the last sequence in a byte of an INPUT read's reply, and says by the byte after it whether it is known; it gives
no value for the byte while it is not. The free value is drawn by the request's name, so that no two reads share it by rule.
DESIGN CHOICE (log 41), safe. -/
opaque lastSeqUnknown : Nat → Byte

end Sys2Proof.Config
end

