-- ==== Sys2Proof/Syntax.lean ====
section
/-! DEFINITION. The commands of the D-312: one constructor for each row of spec/opcode_table.json, over the cell of 01 section 1.1. -/

namespace Sys2Proof

/-- The two ports (00_scope.md): the U-port faces the production side, the D-port the radio rack. -/
inductive Port where
  | u
  | d
deriving DecidableEq, Repr

/-- A cell: 54 bytes, the same layout on both ports and in both directions (01 section 1.1). Byte 3 is the toggle, the
last bit and the six bits of length; the payload is bytes 4 to 51, and the CRC bytes 52 and 53. -/
structure Cell where
  kind    : Byte
  dest    : Byte
  src     : Byte
  toggle  : Bool
  last    : Bool
  len     : BitVec 6
  payload : Vector Byte 48
  crc     : Half
deriving DecidableEq, Repr

/-- Link identifiers 0-79. -/
abbrev LinkId := Fin 80
/-- Carrier entry indices 0-95. -/
abbrev EntryId := Fin 96
/-- Transaction slots 0-15. -/
abbrev SlotId := Fin 16
/-- Retune contexts 0-3. -/
abbrev ContextId := Fin 4

/-- The commands. Arriving cells, port events, timer expiries and the part's internal steps come first; the management
requests follow, each being the agent's take of the oldest request not yet taken (R187), whose arguments stand in the
request queue (log 3). -/
inductive Instr where
  | mgmtCell (c : Cell)
  | dPortMgmtCell (c : Cell)
  | forwardedCell (p : Port) (c : Cell)
  | commandAtGuard (c : Cell)
  | transmitStart (p : Port)
  | transmitComplete (p : Port)
  | backoffAssert
  | backoffRelease
  | resetAssert
  | resetRelease
  | powerUp
  /-- A marker, and the time since the latest timed event, in units of 1/6,000,000 s (log 5). -/
  | marker (c : Cell) (elapsed : Nat)
  | flywheelExpiry
  | frameTimerExpiry
  | relockTimeout
  | coordRequestStart
  | attemptComplete
  | slotGrant
  | slotOffer (i : SlotId)
  | pairSubmit (k : ContextId)
  | answerCell (c : Cell)
  | answerDeadline (i : SlotId)
  | sweepCell (c : Cell)
  | contextTake
  | switchFrame (k : ContextId)
  | confirmDeadline (k : ContextId)
  | revertFrame (k : ContextId)
  | revertConfirmExpiry (k : ContextId)
  | telemetryCell (c : Cell)
  | telemetryTimeout (l : LinkId)
  | scanTrigger
  | tallyCell (c : Cell)
  | tallyTimeout
  | audioCell (p : Port) (c : Cell)
  | blockTimerExpiry
  | replyOffer
  | bandRead
  | bandWrite
  | carrierRead
  | block
  | unblock
  | linkRead
  | linkWrite
  | candidatesRead
  | candidatesWrite
  | profileRead
  | profileWrite
  | scanListRead
  | scanListWrite
  | tallyMapRead
  | tallyMapWrite
  | lampLineRead
  | lampLineWrite
  | inputRead
  | inputWrite
  | outputRead
  | outputWrite
  | crosspointRead
  | crosspointWrite
  | configRead
  | configFrameRate
  | configAutoRelock
  | configSwitchLead
  | configGNN
  | configGWW
  | configGNW
  | configW
  | configW3
  | configGF
  | configAnswerTimeout
  | configConfirmWindow
  | configSweepReceiverA
  | configSweepReceiverB
  | configScanMode
  | configTriggerPeriod
  | configScanLayout
  | configSegmentTimeout
  | configOccupancyThreshold
  | configMergeWidth
  | configAgeLimit
  | configTallyTimeout
  | configStaleAction
  | assign
  | retune
  | abortRetune
  | setBackup
  | release
  | undefine
  | check
  | relock
  | scanStart
  | scanStop
  | scanRelease
  | readMonitor
  | readStatus
  | clearStatus
  | reportEnable
  | unitCommand
  | quiesce
  | resume
  | warmReset
  | coldReset
  | identify
deriving DecidableEq, Repr

end Sys2Proof
end

