-- ==== Sys2Proof/WellFormed.lean ====
section
/-! DEFINITION. Which commands are events that can happen: a row for an arriving cell carries a cell of that row's kind and destination (R4, R5). -/

namespace Sys2Proof

/-- A unit address of the radio rack or of a portable unit (00_scope.md, "Unit addresses"). -/
def isUnit (a : Byte) : Bool := 1 ≤ a.toNat && a.toNat ≤ 239

/-- The cells of R4's last row: a U-port cell that no block consumes and the guard does not judge. -/
def forwardedFromU (c : Cell) : Bool :=
  !(c.kind == 8 && c.dest == 0) && c.kind != 1 && c.kind != 2 && !(c.kind == 3 && c.dest == 0)
    && !(c.kind == 5 && (isUnit c.dest || c.dest == 255))

/-- The cells of R5's last row. -/
def forwardedFromD (c : Cell) : Bool :=
  c.kind != 8 && !((c.kind == 4 || c.kind == 6 || c.kind == 7 || c.kind == 3) && c.dest == 0)

/-- Is the command an event of its row? Only the rows of arriving cells have anything to check: the indices of the
others are in range by their types. -/
def Instr.wf : Instr → Bool
  | .mgmtCell c => c.kind == 8 && c.dest == 0
  | .dPortMgmtCell c => c.kind == 8
  | .forwardedCell .u c => forwardedFromU c
  | .forwardedCell .d c => forwardedFromD c
  | .commandAtGuard c => c.kind == 5 && (isUnit c.dest || c.dest == 255)
  | .marker c _ => c.kind == 1
  | .answerCell c => c.kind == 6 && c.dest == 0
  | .sweepCell c => c.kind == 7 && c.dest == 0
  | .telemetryCell c => c.kind == 4 && c.dest == 0
  | .tallyCell c => c.kind == 2
  | .audioCell _ c => c.kind == 3 && c.dest == 0
  | .transmitStart _ | .transmitComplete _ | .backoffAssert | .backoffRelease | .resetAssert | .resetRelease
  | .powerUp | .flywheelExpiry | .frameTimerExpiry | .relockTimeout | .coordRequestStart | .attemptComplete
  | .slotGrant | .slotOffer _ | .pairSubmit _ | .answerDeadline _ | .contextTake | .switchFrame _
  | .confirmDeadline _ | .revertFrame _ | .revertConfirmExpiry _ | .telemetryTimeout _ | .scanTrigger
  | .tallyTimeout | .blockTimerExpiry | .replyOffer | .bandRead | .bandWrite | .carrierRead | .block | .unblock
  | .linkRead | .linkWrite | .candidatesRead | .candidatesWrite | .profileRead | .profileWrite | .scanListRead
  | .scanListWrite | .tallyMapRead | .tallyMapWrite | .lampLineRead | .lampLineWrite | .inputRead | .inputWrite
  | .outputRead | .outputWrite | .crosspointRead | .crosspointWrite | .configRead | .configFrameRate
  | .configAutoRelock | .configSwitchLead | .configGNN | .configGWW | .configGNW | .configW | .configW3 | .configGF
  | .configAnswerTimeout | .configConfirmWindow | .configSweepReceiverA | .configSweepReceiverB | .configScanMode
  | .configTriggerPeriod | .configScanLayout | .configSegmentTimeout | .configOccupancyThreshold
  | .configMergeWidth | .configAgeLimit | .configTallyTimeout | .configStaleAction | .assign | .retune
  | .abortRetune | .setBackup | .release | .undefine | .check | .relock | .scanStart | .scanStop | .scanRelease
  | .readMonitor | .readStatus | .clearStatus | .reportEnable | .unitCommand | .quiesce | .resume | .warmReset
  | .coldReset | .identify => true

end Sys2Proof
end

