-- ==== Sys2Proof/Decode.lean ====
section
/-! DEFINITION. Words as commands: spec/opcode_table.json gives no row any bits, so no word spells a command (log 24). -/

namespace Sys2Proof

/-- The command a word spells by the table's bits: none. -/
def decodeTableWord (_nbits _w : Nat) : Option Instr := none

end Sys2Proof
end

