-- ==== Sys2Proof/Machine/State.lean ====
section
/-! DEFINITION. The state of the D-312: every table, queue, counter, mode and pin the manual names, as plain data, and its value after a cold reset. -/

namespace Sys2Proof.Machine

/-- What stops the machine. The D-312 has no fault: it reports conditions as notices (R192), so nothing raises one. -/
inductive Fault where
deriving DecidableEq, Repr

/-- Why a command has no meaning in the model. -/
inductive Refusal where
  /-- Raised by exec for a command whose meaning is not written; no arm raises it. Safe. -/
  | notModelled (mnemonic : String)
deriving DecidableEq, Repr

/-! ### Frame timer and reference monitor (02) -/

/-- The six frame rates of section 2.1, in the order of their codes. -/
inductive FrameRate where
  | r25 | r2997 | r30 | r50 | r5994 | r60
deriving DecidableEq, Repr

/-- The reference states (section 2.3), in the order of their codes. -/
inductive RefState where
  | searching | locked | holdover | relocking
deriving DecidableEq, Repr

/-- The state RELOCKING was entered from (section 2.3). -/
inductive RelockOrigin where
  | searching | holdover
deriving DecidableEq, Repr

/-- The frame timer and reference monitor (section 2.3). Instants count units of 1/6,000,000 s (log 5). -/
structure Timing where
  frame          : Half := 0
  ref            : RefState := .searching
  flywheel       : Nat := 0
  good           : Nat := 0
  origin         : RelockOrigin := .searching
  armed          : Bool := false
  rate           : FrameRate := .r50
  rateInForce    : FrameRate := .r50
  autoRelock     : Bool := true
  windowOrigin   : Nat := 0
  lastMarker     : Nat := 0
  relockDeadline : Nat := 0
  nextExpiry     : Option Nat := none
  lastTimerEvent : Nat := 0
  now            : Nat := 0
deriving DecidableEq, Repr

/-! ### Ports (01) -/

/-- A cell of the urgent or command queue: the slot whose cell it is, the retune context whose locked pair it belongs
to, if any, and whether that pair is committed (R10, R16, R18). -/
structure UnitCell where
  cell      : Cell
  slot      : SlotId
  context   : Option ContextId := none
  committed : Bool := false
deriving DecidableEq, Repr

/-- What the D-port line carries: the FRAME cell taken from the frame slot, or the head of a queue (R9, R12). -/
inductive DLine where
  | idle
  | frame (c : Cell)
  | urgent
  | command
  | audio
  | forward
deriving DecidableEq, Repr

/-- Which queue's head the U-port line carries (R9). -/
inductive ULine where
  | idle | reply | report | audio | forward
deriving DecidableEq, Repr

/-- The D-port transmitter's queues and line (section 1.5). -/
structure DPort where
  frameSlot : Option Cell := none
  urgent    : List UnitCell := []
  command   : List UnitCell := []
  audio     : List Cell := []
  forward   : List Cell := []
  line      : DLine := .idle
deriving DecidableEq, Repr

/-- The U-port transmitter's queues and line (section 1.5). -/
structure UPort where
  reply   : List Cell := []
  report  : List Cell := []
  audio   : List Cell := []
  forward : List Cell := []
  line    : ULine := .idle
deriving DecidableEq, Repr

/-- The two input pins that are states and not events: RESET (R19) and BACKOFF (R15). -/
structure Pins where
  reset   : Bool := false
  backoff : Bool := false
deriving DecidableEq, Repr

/-! ### Carrier plan (03) -/

/-- Carrier classes (R34). -/
inductive CarrierClass where
  | n | w10 | w20
deriving DecidableEq, Repr

/-- Carrier entry states (section 3.3). -/
inductive CarrierState where
  | free | reserved | active | standby | retiring | blocked
deriving DecidableEq, Repr

/-- A band entry (section 3.1); the defaults are its cold-reset values (R50). -/
structure Band where
  valid    : Bool := false
  lower    : Nat := 0
  upper    : Nat := 0
  step     : Nat := 25
  allowN   : Bool := false
  allowW10 : Bool := false
  allowW20 : Bool := false
deriving DecidableEq, Repr

/-- A carrier entry (section 3.3); the defaults are those of an entry in FREE (R35). -/
structure Carrier where
  state   : CarrierState := .free
  freq    : Nat := 0
  cls     : CarrierClass := .n
  link    : Option LinkId := none
  margin  : Nat := 0
  suspect : Bool := false
  snapped : Bool := false
  band    : Option (Fin 4) := none
deriving DecidableEq, Repr

/-- The six coordination settings (section 3.5), with their defaults. -/
structure CoordSettings where
  gNN : Nat := 150
  gWW : Nat := 2000
  gNW : Nat := 1000
  w   : Nat := 100
  w3  : Nat := 50
  gF  : Nat := 100
deriving DecidableEq, Repr

/-- The carrier plan's tables, settings and generation number (R50). -/
structure Plan where
  bands    : Vector Band 4 := Vector.replicate 4 {}
  carriers : Vector Carrier 96 := Vector.replicate 96 {}
  gen      : Half := 0
  settings : CoordSettings := {}
deriving DecidableEq, Repr

/-! ### Coordination engine (03, 04) -/

/-- Kinds of coordination request (section 3.6). -/
inductive CoordKind where
  | admitCarrier | pickBackup | block | check
deriving DecidableEq, Repr

/-- Who filed a coordination request (R44). A management filer is named by its request's place in the agent's queue,
which holds the tag and the source. -/
inductive Filer where
  | context (k : ContextId)
  | management (id : Nat)
  | auto
deriving DecidableEq, Repr

/-- Targets of a retune or a coordination request (R85, R44). -/
inductive Target where
  | explicit (f : Nat)
  | nextCandidate
  | backup
deriving DecidableEq, Repr

/-- A request in the coordination queue (R44). -/
structure CoordRequest where
  kind   : CoordKind
  filer  : Filer
  link   : Option LinkId
  target : Target
  cls    : CarrierClass
deriving DecidableEq, Repr

/-- A counted carrier as an attempt's copy holds it (R52). -/
structure CopyCarrier where
  entry   : EntryId
  freq    : Nat
  cls     : CarrierClass
  blocked : Bool
deriving DecidableEq, Repr

/-- A check attempt in progress (R52): what it reads at its start and compares at its end. -/
structure Attempt where
  candidate : Nat
  count     : Nat
  gen       : Half
  cls       : CarrierClass
  blocked   : Bool
  bands     : Vector Band 4
  settings  : CoordSettings
  carriers  : List CopyCarrier
  foreign   : List Nat
  stale     : Bool
deriving DecidableEq, Repr

/-- The offending comparison of an attempt: member codes (an entry index, FEh for the candidate, FFh when unused), the
other frequency, the distance and the required value (R68). -/
structure Offence where
  a        : Byte := 255
  b        : Byte := 255
  c        : Byte := 255
  v        : Byte := 255
  other    : Nat := 0
  distance : Nat := 0
  required : Nat := 0
deriving DecidableEq, Repr

/-- How a try ended (R63). -/
inductive TryResult where
  | pass | fail | planBusy
deriving DecidableEq, Repr

/-- What is kept of a finished try for the result record (R68). -/
structure TryRecord where
  result    : TryResult
  stage     : Nat
  requested : Nat
  checked   : Nat
  snapped   : Bool
  margin    : Nat
  attempts  : Nat
  offence   : Offence
deriving DecidableEq, Repr

/-- The engine's working state for the request in progress (R70): the class and list copy taken at its start, the
visits still to come, the tries made, the last try, and the attempt that is running. -/
structure Run where
  cls     : CarrierClass
  list    : List Nat
  visits  : List Nat
  tries   : Nat
  lastTry : Option TryRecord
  attempt : Attempt
deriving DecidableEq, Repr

/-- The coordination engine (section 3.6): its queue, the request in progress first, and its working state. -/
structure Engine where
  queue : List CoordRequest := []
  run   : Option Run := none
deriving DecidableEq, Repr

/-! ### Links and the retune queue (05) -/

/-- Link kinds (R71). -/
inductive LinkKind where
  | camera | mic | talkback
deriving DecidableEq, Repr

/-- Link states (section 5.2). -/
inductive LinkState where
  | unused | idle | assigning | up | faded | retuning | lost
deriving DecidableEq, Repr

/-- The six link flags (R75). -/
structure LinkFlags where
  autoSwitchover : Bool := false
  autoBackup     : Bool := false
  autoAvoid      : Bool := false
  switchWhenLive : Bool := false
  alwaysLive     : Bool := false
  telemetryRelay : Bool := false
deriving DecidableEq, Repr

/-- Reasons of a retune request (R85). -/
inductive Reason where
  | operator | assign | fade | interference | foreign
deriving DecidableEq, Repr

/-- How a retune context ended (R79). -/
inductive Ending where
  | none | done | failed | cancelled | returned
deriving DecidableEq, Repr

/-- Stages as the last retune result and the notices name them (R79). -/
inductive RetuneStage where
  | none | coordinate | prepare | switch | confirm | revert
deriving DecidableEq, Repr

/-- Transaction conditions (R94). -/
inductive Condition where
  | done | refused | lengthError | retryError
deriving DecidableEq, Repr

/-- The coordination summary (R69). -/
structure CoordSummary where
  result  : Byte
  stage   : Nat
  checked : Nat
  gen     : Half
deriving DecidableEq, Repr

/-- The last retune result (R79). -/
structure RetuneResult where
  ending   : Ending := .none
  reason   : Reason := .operator
  target   : Target := .explicit 0
  stage    : RetuneStage := .none
  summary  : Option CoordSummary := none
  rack     : Option Condition := none
  portable : Option Condition := none
  frame    : Half := 0
deriving DecidableEq, Repr

/-- A link record (R71, R76); the defaults are its cold-reset values. -/
structure Link where
  kind       : LinkKind := .mic
  cls        : CarrierClass := .n
  rack       : Byte := 0
  chan       : Nat := 0
  portable   : Byte := 0
  profile    : Option (Fin 8) := none
  flags      : LinkFlags := {}
  offset     : Int := 0
  state      : LinkState := .unused
  active     : Option EntryId := none
  standby    : Option EntryId := none
  live       : Bool := false
  always     : Bool := false
  last       : RetuneResult := {}
  candidates : List Nat := []
deriving DecidableEq, Repr

/-- A retune queue entry (R85). -/
structure QueueEntry where
  link   : LinkId
  target : Target
  reason : Reason
  force  : Bool
  held   : Bool
deriving DecidableEq, Repr

/-! ### Unit channel and retune contexts (06) -/

/-- Which unit of a link a context's slot addresses. -/
inductive Side where
  | rack | portable
deriving DecidableEq, Repr

/-- The two sweep receivers. -/
inductive Receiver where
  | a | b
deriving DecidableEq, Repr

/-- Owner of a transaction (section 6.1). The tally owner carries its camera's link; a relay its request's place. -/
inductive Owner where
  | context (k : ContextId) (side : Side)
  | tally (l : LinkId)
  | scan (r : Receiver)
  | relay (id : Nat)
deriving DecidableEq, Repr

/-- Slot states (section 6.1). -/
inductive SlotState where
  | free | waiting | queued | sent | ended
deriving DecidableEq, Repr

/-- A transaction slot (section 6.1). `serial` orders allocations (R95); `turn` marks the holder of its unit's turn
(R95); `begun` that a transmission of its cell has completed (R103); `uncounted` that its next offer does not raise
the attempt count, and `again` that it is offered again at its completion (R101); `discard` is the scan's discard mark
(R145); `pair` marks a cell of a locked pair, whose other slot is `mate`. -/
structure Slot where
  state     : SlotState := .free
  owner     : Option Owner := none
  unit      : Byte := 0
  command   : List Byte := []
  toggle    : Bool := false
  attempts  : Nat := 0
  deadline  : Option Half := none
  condition : Option Condition := none
  single    : Bool := false
  pair      : Bool := false
  mate      : Option SlotId := none
  serial    : Nat := 0
  turn      : Bool := false
  begun     : Bool := false
  uncounted : Bool := false
  again     : Bool := false
  discard   : Bool := false
deriving DecidableEq, Repr

/-- A request waiting for a slot (R94). -/
structure SlotRequest where
  owner   : Owner
  unit    : Byte
  command : List Byte
  single  : Bool := false
  pair    : Bool := false
deriving DecidableEq, Repr

/-- The unit channel (R105). -/
structure UnitChannel where
  slots         : Vector Slot 16 := Vector.replicate 16 {}
  waiting       : List SlotRequest := []
  toggles       : Vector Bool 256 := Vector.replicate 256 false
  answerTimeout : Nat := 2
  serial        : Nat := 0
deriving DecidableEq, Repr

/-- Stages of a retune context (section 6.5). -/
inductive Stage where
  | free | coordinate | prepare | switch | confirm | revert | closing
deriving DecidableEq, Repr

/-- Revert cause (section 6.5). -/
inductive RevertCause where
  | none | pairLate | unconfirmed
deriving DecidableEq, Repr

/-- A retune context (section 6.5). `newFreq` keeps the new entry's frequency for the time after its release (R127);
`asked` says that the REVERT pair has been asked for, and `reverted` that frame F′ has passed (R115); `preloadRack` and
`preloadPortable` keep the unit whose PRELOAD has ended DONE, to which a CANCEL would go (R109). -/
structure Context where
  stage           : Stage := .free
  link            : LinkId := 0
  target          : Target := .explicit 0
  reason          : Reason := .operator
  force           : Bool := false
  prior           : LinkState := .idle
  newEntry        : Option EntryId := none
  newFreq         : Nat := 0
  oldEntry        : Option EntryId := none
  coordinating    : Bool := false
  summary         : Option CoordSummary := none
  rack            : Option Condition := none
  portable        : Option Condition := none
  preloadRack     : Option Byte := none
  preloadPortable : Option Byte := none
  frame           : Option Half := none
  committed       : Bool := false
  completions     : Nat := 0
  deadline        : Option Half := none
  cause           : RevertCause := .none
  asked           : Bool := false
  reverted        : Bool := false
deriving DecidableEq, Repr

/-! ### Link monitor (07) -/

/-- Direction selections (R120). -/
inductive Direction where
  | fall | rise | both | none
deriving DecidableEq, Repr

/-- A monitor profile (R120), with its cold-reset values. -/
structure Profile where
  low          : Int := -90
  high         : Int := -20
  levelCount   : Nat := 3
  qualityLimit : Nat := 40
  qualityCount : Nat := 4
  lowDir       : Direction := .fall
  highDir      : Direction := .rise
  timeout      : Nat := 25
  battery      : Nat := 20
deriving DecidableEq, Repr

/-- Sides of a corrected level (R128). -/
inductive LevelSide where
  | low | normal | high
deriving DecidableEq, Repr

/-- The monitor state of a link (R123), with its cold-reset values. -/
structure Monitor where
  side        : LevelSide := .normal
  runSide     : LevelSide := .normal
  run         : Nat := 0
  poor        : Bool := false
  qualityRun  : Nat := 0
  lockRun     : Nat := 0
  lockLost    : Bool := false
  silence     : Nat := 0
  batteryLow  : Bool := false
  lowCrossed  : Bool := false
  highCrossed : Bool := false
deriving DecidableEq, Repr

/-- The last-sample record of a link (R124); the defaults are those of an empty record. -/
structure Sample where
  raw       : Int := -128
  corrected : Int := -128
  quality   : Nat := 0
  battery   : Nat := 255
  lock      : Bool := false
  freq      : Nat := 0
  arrival   : Half := 0
  fresh     : Bool := false
deriving DecidableEq, Repr

/-! ### Scan engine (08) -/

/-- A scan segment (R140). -/
structure Segment where
  start   : Nat := 0
  stop    : Nat := 0
  step    : Nat := 25
  enabled : Bool := false
deriving DecidableEq, Repr

/-- Scan modes (R141). -/
inductive ScanMode where
  | once | loop | triggered
deriving DecidableEq, Repr

/-- The scan settings (R141). -/
structure ScanSettings where
  recvA          : Byte := 0
  recvB          : Byte := 0
  mode           : ScanMode := .once
  triggerPeriod  : Half := 0
  parallel       : Bool := false
  segmentTimeout : Nat := 100
  threshold      : Int := -90
  mergeWidth     : Nat := 100
  ageLimit       : Nat := 3
deriving DecidableEq, Repr

/-- Scan states (section 8.3). -/
inductive ScanState where
  | idle | scanning | stopped
deriving DecidableEq, Repr

/-- A detection of a segment result list (R145). -/
structure Detection where
  freq  : Nat
  level : Int
deriving DecidableEq, Repr

/-- A sweep receiver's part of the scan: its current segment, the segments of its half still to sweep, and its segment
result list (section 8.3, R142). Its transaction is the slot or waiting request that it owns. -/
structure Sweeper where
  current : Option (Fin 16) := none
  todo    : List (Fin 16) := []
  results : List Detection := []
deriving DecidableEq, Repr

/-- A foreign list entry (R148). -/
structure Foreign where
  freq     : Nat
  peak     : Int
  lastSeen : Half
  misses   : Nat
deriving DecidableEq, Repr

/-- The scan engine (section 8.3, R152). -/
structure Scan where
  segments     : Vector Segment 16 := Vector.replicate 16 {}
  settings     : ScanSettings := {}
  state        : ScanState := .idle
  number       : Half := 0
  recvA        : Sweeper := {}
  recvB        : Sweeper := {}
  failedRanges : List (Nat × Nat) := []
  done         : Nat := 0
  failed       : Nat := 0
  inserted     : Nat := 0
  removed      : Nat := 0
  foreign      : List Foreign := []
deriving DecidableEq, Repr

/-! ### Tally processor (09) -/

/-- Tally source states (section 9.1). -/
inductive TallyState where
  | off | preview | program | both
deriving DecidableEq, Repr

/-- A tally map entry (R154). -/
structure MapEntry where
  links : List LinkId := []
  lamps : BitVec 16 := 0
  mix   : Option (Fin 32) := none
deriving DecidableEq, Repr

/-- Lamp line modes (R155). -/
inductive LampMode where
  | program | preview | either
deriving DecidableEq, Repr

/-- A lamp line (R155). -/
structure Lamp where
  written  : LampMode := .program
  inEffect : LampMode := .program
  on       : Bool := false
deriving DecidableEq, Repr

/-- Camera displays (R160). -/
inductive Display where
  | off | green | red
deriving DecidableEq, Repr

/-- A camera tally record (R160): an absent target or delivered display is UNKNOWN. -/
structure Camera where
  wanted      : Display := .off
  target      : Option Display := some .off
  delivered   : Option Display := some .off
  latched     : Option Display := none
  busy        : Bool := false
  sent        : Display := .off
  unconfirmed : Bool := false
deriving DecidableEq, Repr

/-- Stale actions (R164). -/
inductive StaleAction where
  | hold | dark
deriving DecidableEq, Repr

/-- The tally processor (R167). -/
structure Tally where
  pendingSet  : Vector TallyState 64 := Vector.replicate 64 .off
  applied     : Vector TallyState 64 := Vector.replicate 64 .off
  written     : Vector MapEntry 64 := Vector.replicate 64 {}
  inEffect    : Vector MapEntry 64 := Vector.replicate 64 {}
  lamps       : Vector Lamp 16 := Vector.replicate 16 {}
  cameras     : Vector Camera 80 := Vector.replicate 80 {}
  count       : Nat := 0
  stale       : Bool := false
  staleFrames : Nat := 0
  timeout     : Nat := 50
  action      : StaleAction := .hold
deriving DecidableEq, Repr

/-! ### Talkback mixer (10) -/

/-- Input states (R169). -/
inductive InputState where
  | disabled | buffering | playing | concealing | muted
deriving DecidableEq, Repr

/-- A block: sixteen samples and the talk flag (R169). The default is silence. -/
structure Block where
  samples : Vector Half 16 := Vector.replicate 16 0
  talk    : Bool := false
deriving DecidableEq, Repr

/-- A talkback input (R169). -/
structure Input where
  enabled    : Bool := false
  port       : Port := .u
  addr       : Byte := 0
  chan       : Nat := 0
  area       : Nat := 2
  link       : Option LinkId := none
  state      : InputState := .disabled
  buffer     : List Block := []
  lastPlayed : Block := {}
  lastSeq    : Option Byte := none
  underrun   : Bool := false
  overflow   : Bool := false
  seqGap     : Bool := false
deriving DecidableEq, Repr

/-- A talkback output (R177). -/
structure Output where
  enabled : Bool := false
  port    : Port := .u
  addr    : Byte := 0
  chan    : Nat := 0
  dim     : Nat := 0
  seq     : Byte := 0
  clip    : Bool := false
deriving DecidableEq, Repr

/-- A crosspoint (R178). -/
structure Crosspoint where
  on          : Bool := false
  gain        : Nat := 0
  dimWhenLive : Bool := false
deriving DecidableEq, Repr

/-- The mixer's tables (R184); `crosspoints[i][o]` is the crosspoint from input i to output o. -/
structure Mixer where
  inputs      : Vector Input 32 := Vector.replicate 32 {}
  outputs     : Vector Output 32 := Vector.replicate 32 {}
  crosspoints : Vector (Vector Crosspoint 32) 32 := Vector.replicate 32 (Vector.replicate 32 {})
deriving DecidableEq, Repr

/-! ### Management agent (11) -/

/-- Where a request in the queue stands: waiting to be taken, taken and waiting for work in another block, or answered
with its reply not yet in the reply queue (R186, R187, R188). -/
inductive Phase where
  | arrived | deferred | answered
deriving DecidableEq, Repr

/-- A request in the management request queue (R186). `id` names its place. -/
structure Request where
  id    : Nat
  tag   : Byte
  src   : Byte
  code  : Byte
  args  : List Byte
  phase : Phase
deriving DecidableEq, Repr

/-- A reply that is ready and has not joined the reply queue: of a request, or the BUSY reply, which has no place
(R186, R188). -/
structure ReadyReply where
  id   : Option Nat
  cell : Cell
deriving DecidableEq, Repr

/-- Quiesce states (R193). -/
inductive Quiesce where
  | running | quiescing | quiesced
deriving DecidableEq, Repr

/-- The sticky flags of the eight status groups (R190). -/
structure StatusFlags where
  portU  : BitVec 7 := 0
  portD  : BitVec 7 := 0
  timing : BitVec 7 := 0
  plan   : BitVec 2 := 0
  link   : BitVec 17 := 0
  scan   : BitVec 5 := 0
  tally  : BitVec 3 := 0
  mix    : BitVec 4 := 0
  mgmt   : BitVec 2 := 0
deriving DecidableEq, Repr

/-- The management agent (R194). Bit k of `enables` is the report enable of notice code k (R192). -/
structure Agent where
  requests : List Request := []
  ready    : List ReadyReply := []
  nextId   : Nat := 0
  flags    : StatusFlags := {}
  enables  : BitVec 48 := 0
  quiesce  : Quiesce := .running
deriving DecidableEq, Repr

/-! ### The whole part -/

/-- Work of the current frame event that is a step of its own in the table of operations (log 4). -/
inductive DueStep where
  | answerDeadline (i : SlotId)
  | switchFrame (k : ContextId)
  | confirmDeadline (k : ContextId)
  | revertFrame (k : ContextId)
  | revertConfirmExpiry (k : ContextId)
  | telemetryTimeout (l : LinkId)
  | tallyTimeout
  | scanTrigger
deriving DecidableEq, Repr

/-- The state of the part. -/
structure State where
  pins           : Pins
  timing         : Timing
  dport          : DPort
  uport          : UPort
  switchLead     : Nat
  plan           : Plan
  engine         : Engine
  links          : Vector Link 80
  retuneQueue    : List QueueEntry
  unit           : UnitChannel
  contexts       : Vector Context 4
  confirmWindow  : Nat
  profiles       : Vector Profile 8
  monitors       : Vector Monitor 80
  samples        : Vector Sample 80
  scan           : Scan
  tally          : Tally
  mixer          : Mixer
  blockTimerRuns : Bool
  agent          : Agent
  due            : List DueStep
  pending        : List Instr
deriving DecidableEq, Repr

/-- The part right after the cold reset of power-up, with RESET and BACKOFF released (R194): every block at its
cold-reset values, the frame timer started with its first expiry one period of rate 50 away (120,000 units, R31) and
the block timer running (R184). -/
def State.reset : State where
  pins := {}
  timing := { nextExpiry := some 120000 }
  dport := {}
  uport := {}
  switchLead := 4
  plan := {}
  engine := {}
  links := Vector.replicate 80 {}
  retuneQueue := []
  unit := {}
  contexts := Vector.replicate 4 {}
  confirmWindow := 10
  profiles := Vector.replicate 8 {}
  monitors := Vector.replicate 80 {}
  samples := Vector.replicate 80 {}
  scan := {}
  tally := {}
  mixer := {}
  blockTimerRuns := true
  agent := {}
  due := []
  pending := []

end Sys2Proof.Machine
end

