-- ==== Sys2Proof/Machine/Operands.lean ====
section
/-! DEFINITION. How fields travel in a cell: multi-byte fields, the codes of the named words, optional indices and flag bytes (01 section 1.2), the CRC (R1), and the making of a cell (R2). -/

namespace Sys2Proof.Machine

/-! ### Bytes and multi-byte fields -/

/-- Bytes read as one unsigned number, most significant byte first. -/
def natOf (bs : List Byte) : Nat := bs.foldl (fun n b => n * 256 + b.toNat) 0

/-- Byte `i` of a field list; bytes past its end read as 0 (they are never judged, R187). -/
def byteAt (bs : List Byte) (i : Nat) : Byte := bs.getD i 0

/-- The one-byte unsigned field at offset `i`. -/
def u8At (bs : List Byte) (i : Nat) : Nat := (byteAt bs i).toNat

/-- The two-byte unsigned field at offset `i`. -/
def u16At (bs : List Byte) (i : Nat) : Nat := natOf [byteAt bs i, byteAt bs (i + 1)]

/-- The four-byte unsigned field at offset `i`. -/
def u32At (bs : List Byte) (i : Nat) : Nat :=
  natOf [byteAt bs i, byteAt bs (i + 1), byteAt bs (i + 2), byteAt bs (i + 3)]

/-- The one-byte signed field at offset `i` (levels and RF offsets are two's complement). -/
def s8At (bs : List Byte) (i : Nat) : Int := (byteAt bs i).toInt

/-- A flag byte's bit `k` at offset `i`. No rule says what a write of a flag byte's other bits does: nothing reads them. DESIGN
CHOICE (log 33). -/
def flagAt (bs : List Byte) (i k : Nat) : Bool := (byteAt bs i).getLsbD k

/-- One byte holding a number. -/
def u8 (n : Nat) : List Byte := [BitVec.ofNat 8 n]

/-- Two bytes holding a number, most significant first. -/
def u16 (n : Nat) : List Byte := [BitVec.ofNat 8 (n / 256), BitVec.ofNat 8 n]

/-- Four bytes holding a number, most significant first. -/
def u32 (n : Nat) : List Byte :=
  [BitVec.ofNat 8 (n / 16777216), BitVec.ofNat 8 (n / 65536), BitVec.ofNat 8 (n / 256), BitVec.ofNat 8 n]

/-- One byte holding a signed number. -/
def s8 (n : Int) : List Byte := [BitVec.ofInt 8 n]

/-- A 16-bit field. -/
def half (h : Half) : List Byte := u16 h.toNat

/-- One byte that is 1 when set and 0 when clear. -/
def bit (b : Bool) : List Byte := u8 b.toNat

/-- A flag byte, the first-listed flag in bit 0. -/
def flagByte (fs : List Bool) : List Byte := u8 (fs.foldr (fun b n => b.toNat + 2 * n) 0)

/-- An optional index: FFh where it is absent. -/
def indexByte {n : Nat} : Option (Fin n) → Byte
  | some i => BitVec.ofNat 8 i.val
  | none => 255

/-- An index field. -/
def index {n : Nat} (o : Option (Fin n)) : List Byte := [indexByte o]

/-- A number read as an index of a table of `n` entries, or none when out of range. -/
def indexOf? (n v : Nat) : Option (Fin n) := if h : v < n then some ⟨v, h⟩ else none

/-- A number clamped into a range. -/
def clamp (lo hi n : Nat) : Nat := max lo (min hi n)

/-- A signed number clamped into a range. -/
def clampInt (lo hi n : Int) : Int := max lo (min hi n)

/-- Frequencies, edges and band limits lie in 30,000–7,125,000 kHz (00_scope.md). -/
def freqOk (f : Nat) : Bool := 30000 ≤ f && f ≤ 7125000

/-! ### Codes of the named words (01 section 1.2, and the owning chapters) -/

/-- Kind codes of the cells (01 section 1.2). -/
def kindFrame : Byte := 1
def kindTally : Byte := 2
def kindAudio : Byte := 3
def kindTelemetry : Byte := 4
def kindCommand : Byte := 5
def kindAnswer : Byte := 6
def kindSweep : Byte := 7
def kindMgmt : Byte := 8
def kindMgmtReply : Byte := 9
def kindReport : Byte := 10

/-- Command codes (01 section 1.2). -/
def cmdPreload : Byte := 0x01
def cmdSwitch : Byte := 0x02
def cmdCancel : Byte := 0x03
def cmdRevert : Byte := 0x04
def cmdTallySet : Byte := 0x05
def cmdSweepSegment : Byte := 0x06
def cmdDirectTune : Byte := 0x40

/-- The frequency commands of the guard (R7) and of the relay's GUARDED row (R104). -/
def isFrequencyCommand (b : Byte) : Bool := b == cmdPreload || b == cmdSwitch || b == cmdRevert || b == cmdDirectTune

def FrameRate.code : FrameRate → Nat
  | .r25 => 0 | .r2997 => 1 | .r30 => 2 | .r50 => 3 | .r5994 => 4 | .r60 => 5

def FrameRate.ofCode? : Nat → Option FrameRate
  | 0 => some .r25 | 1 => some .r2997 | 2 => some .r30 | 3 => some .r50 | 4 => some .r5994 | 5 => some .r60
  | _ => none

def RefState.code : RefState → Nat
  | .searching => 0 | .locked => 1 | .holdover => 2 | .relocking => 3

def RelockOrigin.code : RelockOrigin → Nat
  | .searching => 0 | .holdover => 1

def CarrierClass.code : CarrierClass → Nat
  | .n => 0 | .w10 => 1 | .w20 => 2

def CarrierClass.ofCode? : Nat → Option CarrierClass
  | 0 => some .n | 1 => some .w10 | 2 => some .w20 | _ => none

def CarrierState.code : CarrierState → Nat
  | .free => 0 | .reserved => 1 | .active => 2 | .standby => 3 | .retiring => 4 | .blocked => 5

def CoordKind.code : CoordKind → Nat
  | .admitCarrier => 0 | .pickBackup => 1 | .block => 2 | .check => 3

/-- Target codes (R85). -/
def Target.code : Target → Nat
  | .explicit _ => 0 | .nextCandidate => 1 | .backup => 2

/-- The EXPLICIT frequency, or 0 for the other targets (R86). -/
def Target.freq : Target → Nat
  | .explicit f => f
  | .nextCandidate => 0
  | .backup => 0

/-- A target code with the frequency beside it; codes above 2 name no target (01 section 1.2). -/
def Target.ofCode? (f : Nat) : Nat → Option Target
  | 0 => some (.explicit f) | 1 => some .nextCandidate | 2 => some .backup | _ => none

def LinkKind.code : LinkKind → Nat
  | .camera => 0 | .mic => 1 | .talkback => 2

def LinkKind.ofCode? : Nat → Option LinkKind
  | 0 => some .camera | 1 => some .mic | 2 => some .talkback | _ => none

def LinkState.code : LinkState → Nat
  | .unused => 0 | .idle => 1 | .assigning => 2 | .up => 3 | .faded => 4 | .retuning => 5 | .lost => 6

def Reason.code : Reason → Nat
  | .operator => 0 | .assign => 1 | .fade => 2 | .interference => 3 | .foreign => 4

def Ending.code : Ending → Nat
  | .none => 0 | .done => 1 | .failed => 2 | .cancelled => 3 | .returned => 4

def RetuneStage.code : RetuneStage → Nat
  | .none => 0 | .coordinate => 1 | .prepare => 2 | .switch => 3 | .confirm => 4 | .revert => 5

/-- Transaction conditions: DONE 1, REFUSED 2, LENGTH_ERROR 4, RETRY_ERROR 5. -/
def Condition.code : Condition → Nat
  | .done => 1 | .refused => 2 | .lengthError => 4 | .retryError => 5

/-- A last condition, 0 when there is none (R79, R118). -/
def conditionCode : Option Condition → Nat
  | some c => c.code
  | none => 0

def RevertCause.code : RevertCause → Nat
  | .none => 0 | .pairLate => 2 | .unconfirmed => 3

def Direction.code : Direction → Nat
  | .fall => 0 | .rise => 1 | .both => 2 | .none => 3

def Direction.ofCode? : Nat → Option Direction
  | 0 => some .fall | 1 => some .rise | 2 => some .both | 3 => some .none | _ => none

def LevelSide.code : LevelSide → Nat
  | .low => 0 | .normal => 1 | .high => 2

def ScanMode.code : ScanMode → Nat
  | .once => 0 | .loop => 1 | .triggered => 2

def ScanMode.ofCode? : Nat → Option ScanMode
  | 0 => some .once | 1 => some .loop | 2 => some .triggered | _ => none

def ScanState.code : ScanState → Nat
  | .idle => 0 | .scanning => 1 | .stopped => 2

def TallyState.code : TallyState → Nat
  | .off => 0 | .preview => 1 | .program => 2 | .both => 3

/-- The two-bit source state of a TALLY cell. -/
def TallyState.ofCode (n : Nat) : TallyState :=
  match n % 4 with
  | 1 => .preview
  | 2 => .program
  | 3 => .both
  | _ => .off

def LampMode.code : LampMode → Nat
  | .program => 0 | .preview => 1 | .either => 2

def LampMode.ofCode? : Nat → Option LampMode
  | 0 => some .program | 1 => some .preview | 2 => some .either | _ => none

def Display.code : Display → Nat
  | .off => 0 | .green => 1 | .red => 2

def StaleAction.code : StaleAction → Nat
  | .hold => 0 | .dark => 1

def StaleAction.ofCode? : Nat → Option StaleAction
  | 0 => some .hold | 1 => some .dark | _ => none

/-- U-port 0, D-port 1 (R1, R169). -/
def portCode : Port → Nat
  | .u => 0 | .d => 1

def portOf? : Nat → Option Port
  | 0 => some .u | 1 => some .d | _ => none

def InputState.code : InputState → Nat
  | .disabled => 0 | .buffering => 1 | .playing => 2 | .concealing => 3 | .muted => 4

def Quiesce.code : Quiesce → Nat
  | .running => 0 | .quiescing => 1 | .quiesced => 2

def Receiver.code : Receiver → Nat
  | .a => 0 | .b => 1

/-- Management results (01 section 1.2). -/
inductive Result where
  | ok | busy | badIndex | badValue | badState | duplicate | overlap | planInUse | queueFull | noSlot | noSpace
  | noBackup | live | tooLate | notReady | guarded | pass | fail | tableFull | planBusy | noCandidate
deriving DecidableEq, Repr

def Result.code : Result → Nat
  | .ok => 0x00 | .busy => 0x01 | .badIndex => 0x02 | .badValue => 0x03 | .badState => 0x04 | .duplicate => 0x05
  | .overlap => 0x06 | .planInUse => 0x07 | .queueFull => 0x08 | .noSlot => 0x09 | .noSpace => 0x0A
  | .noBackup => 0x0B | .live => 0x0C | .tooLate => 0x0E | .notReady => 0x0F | .guarded => 0x10 | .pass => 0x11
  | .fail => 0x12 | .tableFull => 0x13 | .planBusy => 0x14 | .noCandidate => 0x15

/-! ### The cell: CRC, reading and making -/

/-- One bit of the CRC's shift with generator 1021h (R1). -/
def crcShift (r : Half) : Half := if r.msb then (r <<< 1) ^^^ 0x1021 else r <<< 1

/-- One byte of the CRC, from bit 7 down to bit 0 (R1). -/
def crcByte (r : Half) (b : Byte) : Half :=
  crcShift (crcShift (crcShift (crcShift (crcShift (crcShift (crcShift (crcShift (r ^^^ (b.setWidth 16 <<< 8)))))))))

/-- The CRC of a list of bytes: the register starts at FFFFh, no reflection, no final inversion (R1). -/
def crc16 (bs : List Byte) : Half := bs.foldl crcByte 0xFFFF

/-- Byte 3 of a cell: toggle, last, length (01 section 1.1). -/
def headByte (c : Cell) : Byte :=
  BitVec.ofNat 8 (c.toggle.toNat * 128 + c.last.toNat * 64 + c.len.toNat)

/-- Bytes 0 to 51 of a cell. -/
def cellBytes (c : Cell) : List Byte := c.kind :: c.dest :: c.src :: headByte c :: c.payload.toList

/-- The cell with bytes 52-53 holding the CRC of its contents (R2). -/
def sealCell (c : Cell) : Cell := { c with crc := crc16 (cellBytes c) }

/-- The integrity check: the CRC matches and the length does not exceed 48 (R1). -/
def integral (c : Cell) : Bool := c.crc == crc16 (cellBytes c) && decide (c.len.toNat ≤ 48)

/-- The meaningful payload bytes, 4 to 3 + length. -/
def cellData (c : Cell) : List Byte := c.payload.toList.take c.len.toNat

/-- A payload of 48 bytes, zero beyond the given ones (R2). -/
def padPayload (bs : List Byte) : Vector Byte 48 := Vector.ofFn fun i => bs.getD i.val 0

/-- A cell with the given contents, its last bit 0, and its CRC (R2). -/
def makeCell (kind dest src : Byte) (toggle : Bool) (data : List Byte) : Cell :=
  sealCell { kind, dest, src, toggle, last := false, len := BitVec.ofNat 6 data.length
             payload := padPayload data, crc := 0 }

/-- A cell the part makes: source 0, toggle 0 (R2). -/
def ownCell (kind dest : Byte) (data : List Byte) : Cell := makeCell kind dest 0 false data

/-- A COMMAND cell: the slot's unit, its command bytes and its toggle (R2, R95). -/
def commandCell (unit : Byte) (toggle : Bool) (command : List Byte) : Cell := makeCell kindCommand unit 0 toggle command

/-- The FRAME cell: destination 255, frame number and reference state (R2, R30). -/
def frameCell (frame : Half) (ref : RefState) : Cell := ownCell kindFrame 255 (half frame ++ u8 ref.code)

end Sys2Proof.Machine
end

