-- ==== Sys2Proof/Machine/Flags.lean ====
section
/-! DEFINITION. Notices and the status groups: each notice's code, group and flag (01 section 1.2, R190), the raising of a notice with its report (R192), the reference notices (R28), and the summary. -/

namespace Sys2Proof.Machine

/-- The eight status groups, in the order of their codes (R190). -/
inductive Group where
  | port | timing | plan | link | scan | tally | mix | mgmt
deriving DecidableEq, Repr

def Group.ofCode? : Nat → Option Group
  | 0 => some .port | 1 => some .timing | 2 => some .plan | 3 => some .link | 4 => some .scan | 5 => some .tally
  | 6 => some .mix | 7 => some .mgmt | _ => none

/-- The notice kinds (01 section 1.2). -/
inductive Notice where
  | checkError | formatError | mgmtOnD | guardedCommand | strayAnswer | forwardDrop | audioDrop | glitch
  | referenceLost | referenceAcquired | referenceRestored | relockReady | frameWrap | backupLost | foreignOnCarrier
  | retuneDone | retuneFailed | retuneHeld | retuneDropped | retuneCancelled | fade | recover | fadeLive | overload
  | interference | lockLost | silent | mistuned | batteryLow | lowLimit | highLimit | unitStart | scanDone
  | scanSegmentFailed | foreignNew | foreignGone | startIgnored | tallyStale | tallyResumed | tallyUndelivered
  | underrun | overflow | seqGap | clip | reportOverflow | quiesced
deriving DecidableEq, Repr

/-- Notice codes (01 section 1.2). -/
def Notice.code : Notice → Nat
  | .checkError => 0x01 | .formatError => 0x02 | .mgmtOnD => 0x03 | .guardedCommand => 0x04 | .strayAnswer => 0x05
  | .forwardDrop => 0x06 | .audioDrop => 0x07 | .glitch => 0x08 | .referenceLost => 0x09
  | .referenceAcquired => 0x0A | .referenceRestored => 0x0B | .relockReady => 0x0C | .frameWrap => 0x0D
  | .backupLost => 0x0E | .foreignOnCarrier => 0x0F | .retuneDone => 0x10 | .retuneFailed => 0x11
  | .retuneHeld => 0x12 | .retuneDropped => 0x13 | .retuneCancelled => 0x14 | .fade => 0x15 | .recover => 0x16
  | .fadeLive => 0x17 | .overload => 0x18 | .interference => 0x19 | .lockLost => 0x1A | .silent => 0x1B
  | .mistuned => 0x1C | .batteryLow => 0x1D | .lowLimit => 0x1E | .highLimit => 0x1F | .unitStart => 0x20
  | .scanDone => 0x21 | .scanSegmentFailed => 0x22 | .foreignNew => 0x23 | .foreignGone => 0x24
  | .startIgnored => 0x25 | .tallyStale => 0x26 | .tallyResumed => 0x27 | .tallyUndelivered => 0x28
  | .underrun => 0x29 | .overflow => 0x2A | .seqGap => 0x2B | .clip => 0x2C | .reportOverflow => 0x2D
  | .quiesced => 0x2E

/-- The group of a notice (01 section 1.2). -/
def Notice.group : Notice → Group
  | .checkError | .formatError | .mgmtOnD | .guardedCommand | .strayAnswer | .forwardDrop | .audioDrop => .port
  | .glitch | .referenceLost | .referenceAcquired | .referenceRestored | .relockReady | .frameWrap => .timing
  | .backupLost | .foreignOnCarrier => .plan
  | .retuneDone | .retuneFailed | .retuneHeld | .retuneDropped | .retuneCancelled | .fade | .recover | .fadeLive
  | .overload | .interference | .lockLost | .silent | .mistuned | .batteryLow | .lowLimit | .highLimit | .unitStart => .link
  | .scanDone | .scanSegmentFailed | .foreignNew | .foreignGone | .startIgnored => .scan
  | .tallyStale | .tallyResumed | .tallyUndelivered => .tally
  | .underrun | .overflow | .seqGap | .clip => .mix
  | .reportOverflow | .quiesced => .mgmt

/-- The bit of a notice in its group's flags, in the order the owning chapters give (R28, R49, R91, R151, R166, R183,
R190). -/
def Notice.bit : Notice → Nat
  | .checkError => 0 | .formatError => 1 | .mgmtOnD => 2 | .guardedCommand => 3 | .strayAnswer => 4
  | .forwardDrop => 5 | .audioDrop => 6 | .glitch => 0 | .referenceLost => 1 | .referenceAcquired => 2
  | .referenceRestored => 3 | .relockReady => 4 | .frameWrap => 5 | .backupLost => 0 | .foreignOnCarrier => 1
  | .retuneDone => 0 | .retuneFailed => 1 | .retuneHeld => 2 | .retuneDropped => 3 | .retuneCancelled => 4
  | .fade => 5 | .recover => 6 | .fadeLive => 7 | .overload => 8 | .interference => 9 | .lockLost => 10
  | .silent => 11 | .mistuned => 12 | .batteryLow => 13 | .lowLimit => 14 | .highLimit => 15 | .unitStart => 16
  | .scanDone => 0 | .scanSegmentFailed => 1 | .foreignNew => 2 | .foreignGone => 3 | .startIgnored => 4
  | .tallyStale => 0 | .tallyResumed => 1 | .tallyUndelivered => 2 | .underrun => 0 | .overflow => 1 | .seqGap => 2
  | .clip => 3 | .reportOverflow => 0 | .quiesced => 1

/-- Sets a notice's flag in its group; the PORT group keeps each flag once for each port, chosen by the object index
(R1, R190). -/
def StatusFlags.raise (f : StatusFlags) (n : Notice) (object : Byte) : StatusFlags :=
  match n.group with
  | .port => if object = 0 then { f with portU := f.portU ||| BitVec.twoPow 7 n.bit }
             else { f with portD := f.portD ||| BitVec.twoPow 7 n.bit }
  | .timing => { f with timing := f.timing ||| BitVec.twoPow 7 n.bit }
  | .plan => { f with plan := f.plan ||| BitVec.twoPow 2 n.bit }
  | .link => { f with link := f.link ||| BitVec.twoPow 17 n.bit }
  | .scan => { f with scan := f.scan ||| BitVec.twoPow 5 n.bit }
  | .tally => { f with tally := f.tally ||| BitVec.twoPow 3 n.bit }
  | .mix => { f with mix := f.mix ||| BitVec.twoPow 4 n.bit }
  | .mgmt => { f with mgmt := f.mgmt ||| BitVec.twoPow 2 n.bit }

/-- The REFERENCE flag is bit 6 of the TIMING flags (R28). -/
def StatusFlags.reference (f : StatusFlags) : Bool := f.timing.getLsbD 6

/-- The flag bytes of a group as READ STATUS returns them (R190, R91). Of the three LINK bytes the one with bits 0-7 goes first
(log 10). -/
def StatusFlags.bytes (f : StatusFlags) : Group → List Byte
  | .port => [f.portU.setWidth 8, f.portD.setWidth 8]
  | .timing => [f.timing.setWidth 8]
  | .plan => [f.plan.setWidth 8]
  | .link => [f.link.setWidth 8, (f.link >>> 8).setWidth 8, (f.link >>> 16).setWidth 8]
  | .scan => [f.scan.setWidth 8]
  | .tally => [f.tally.setWidth 8]
  | .mix => [f.mix.setWidth 8]
  | .mgmt => [f.mgmt.setWidth 8]

/-- Clears the flags of a group whose mask bit is one; the mask has one byte for each byte of the flags, in
their order (R191, log 10). -/
def StatusFlags.clear (f : StatusFlags) (g : Group) (mask : List Byte) : StatusFlags :=
  match g with
  | .port => { f with portU := f.portU &&& ~~~((byteAt mask 0).setWidth 7), portD := f.portD &&& ~~~((byteAt mask 1).setWidth 7) }
  | .timing => { f with timing := f.timing &&& ~~~((byteAt mask 0).setWidth 7) }
  | .plan => { f with plan := f.plan &&& ~~~((byteAt mask 0).setWidth 2) }
  | .link => { f with link := f.link &&& ~~~((byteAt mask 0).setWidth 17 ||| (byteAt mask 1).setWidth 17 <<< 8
                                              ||| (byteAt mask 2).setWidth 17 <<< 16) }
  | .scan => { f with scan := f.scan &&& ~~~((byteAt mask 0).setWidth 5) }
  | .tally => { f with tally := f.tally &&& ~~~((byteAt mask 0).setWidth 3) }
  | .mix => { f with mix := f.mix &&& ~~~((byteAt mask 0).setWidth 4) }
  | .mgmt => { f with mgmt := f.mgmt &&& ~~~((byteAt mask 0).setWidth 2) }

/-- Mask bytes a group needs: two for PORT, three for LINK, one for each other (R191). -/
def Group.maskBytes : Group → Nat
  | .port => 2
  | .link => 3
  | .timing | .plan | .scan | .tally | .mix | .mgmt => 1

/-- The summary byte: bit n is set while any flag of group n is set (R190). -/
def StatusFlags.summary (f : StatusFlags) : Byte :=
  byteAt (flagByte [decide (f.portU ≠ 0 ∨ f.portD ≠ 0), decide (f.timing ≠ 0), decide (f.plan ≠ 0), decide (f.link ≠ 0),
                    decide (f.scan ≠ 0), decide (f.tally ≠ 0), decide (f.mix ≠ 0), decide (f.mgmt ≠ 0)]) 0

/-- Sets a flag. -/
def State.setFlag (s : State) (n : Notice) (object : Byte) : State :=
  { s with agent := { s.agent with flags := s.agent.flags.raise n object } }

/-- The REPORT cell of a notice: destination 255, with kind, object, the frame number current when it is raised and the
detail (R192). -/
def reportCell (n : Notice) (object : Byte) (frame : Half) (detail : List Byte) : Cell :=
  ownCell kindReport 255 (u8 n.code ++ [object] ++ half frame ++ detail)

/-- Offers a REPORT to the report queue; a full queue discards it and raises REPORT_OVERFLOW, whose own report finds the
queue full as well (R192). -/
def State.offerReport (s : State) (c : Cell) : State :=
  if s.uport.report.length < Config.reportCap then
    { s with uport := { s.uport with report := s.uport.report ++ [c] } }
  else s.setFlag .reportOverflow 0

/-- Raises a notice: sets its flag and, where reports of its kind are enabled, makes its REPORT (R192). -/
def State.raise (s : State) (n : Notice) (object : Byte) (detail : List Byte) : State :=
  if s.agent.enables.getLsbD n.code then
    (s.setFlag n object).offerReport (reportCell n object s.timing.frame detail)
  else s.setFlag n object

/-- Raises a reference notice: nothing while the REFERENCE flag is set; otherwise the notice, with the REFERENCE flag
set beside its own (R28). -/
def State.raiseReference (s : State) (n : Notice) : State :=
  if s.agent.flags.reference then s
  else
    let s := s.raise n 0 []
    { s with agent := { s.agent with flags := { s.agent.flags with timing := s.agent.flags.timing ||| BitVec.twoPow 7 6 } } }

end Sys2Proof.Machine
end

