-- ==== Sys2Proof/Machine/Ops.lean ====
section
/-! DEFINITION. The named operations over the part's tables and queues that every block uses: one entry of a table, a cell offered to a queue, the link table's and the carrier plan's shared bookkeeping. -/

namespace Sys2Proof.Machine

/-! ### One entry of a table -/

/-- Replaces one entry of a table. -/
def put {α : Type} {n : Nat} (t : Vector α n) (i : Fin n) (x : α) : Vector α n := t.set i.val x i.isLt

/-- Every entry of a table, changed by a function of its index. -/
def mapTable {α : Type} {n : Nat} (t : Vector α n) (f : Fin n → α → α) : Vector α n := Vector.ofFn fun i => f i t[i]

/-- How many entries of a table satisfy a test. -/
def countTable {α : Type} {n : Nat} (t : Vector α n) (p : α → Bool) : Nat := (t.toList.filter p).length

def State.setLink (s : State) (l : LinkId) (r : Link) : State := { s with links := put s.links l r }
def State.modLink (s : State) (l : LinkId) (f : Link → Link) : State := s.setLink l (f s.links[l])

def State.setCarrier (s : State) (e : EntryId) (c : Carrier) : State :=
  { s with plan := { s.plan with carriers := put s.plan.carriers e c } }

def State.setSlot (s : State) (i : SlotId) (x : Slot) : State :=
  { s with unit := { s.unit with slots := put s.unit.slots i x } }

def State.setContext (s : State) (k : ContextId) (c : Context) : State := { s with contexts := put s.contexts k c }
def State.modContext (s : State) (k : ContextId) (f : Context → Context) : State := s.setContext k (f s.contexts[k])

def State.setMonitor (s : State) (l : LinkId) (m : Monitor) : State := { s with monitors := put s.monitors l m }
def State.setCamera (s : State) (l : LinkId) (c : Camera) : State :=
  { s with tally := { s.tally with cameras := put s.tally.cameras l c } }

/-- The byte of a link as an object index. -/
def linkByte (l : LinkId) : Byte := BitVec.ofNat 8 l.val

/-! ### Cells offered to queues (01 sections 1.3 and 1.5) -/

/-- The object index of a port in PORT notices (R1). -/
def portByte (p : Port) : Byte := BitVec.ofNat 8 (portCode p)

/-- Offers a cell to the forward queue of a port's transmitter: full-drop, with FORWARD_DROP (R13). -/
def State.offerForward (s : State) (p : Port) (c : Cell) : State :=
  match p with
  | .u => if s.uport.forward.length < Config.forwardCap
          then { s with uport := { s.uport with forward := s.uport.forward ++ [c] } }
          else s.raise .forwardDrop (portByte .u) []
  | .d => if s.dport.forward.length < Config.forwardCap
          then { s with dport := { s.dport with forward := s.dport.forward ++ [c] } }
          else s.raise .forwardDrop (portByte .d) []

/-- Offers a block of the mixer to a port's audio queue: a full queue discards it, with AUDIO_DROP (R11). -/
def State.offerAudio (s : State) (p : Port) (c : Cell) : State :=
  match p with
  | .u => if s.uport.audio.length < Config.audioCap
          then { s with uport := { s.uport with audio := s.uport.audio ++ [c] } }
          else s.raise .audioDrop (portByte .u) []
  | .d => if s.dport.audio.length < Config.audioCap
          then { s with dport := { s.dport with audio := s.dport.audio ++ [c] } }
          else s.raise .audioDrop (portByte .d) []

/-! ### Carriers and the link table's record of them (R36, R38, R78) -/

/-- Occupied bandwidth of a class (R34). -/
def CarrierClass.bandwidth : CarrierClass → Nat
  | .n => 200 | .w10 => 10000 | .w20 => 20000

/-- Is the entry counted (section 3.3)? -/
def Carrier.counted (c : Carrier) : Bool := c.state != .free

/-- The plan generation rises by one, modulo 65,536 (R41). -/
def State.bumpGen (s : State) : State := { s with plan := { s.plan with gen := s.plan.gen + 1 } }

/-- When a link's STANDBY is lost, its queued entry with target BACKUP takes target NEXT_CANDIDATE; reason, FORCE, held
flag and place are kept (R89, "STANDBY lost"). -/
def State.retargetBackup (s : State) (l : LinkId) : State :=
  { s with retuneQueue := s.retuneQueue.map fun e =>
      if e.link = l ∧ e.target = .backup then { e with target := .nextCandidate } else e }

/-- An entry of the link leaves ACTIVE and STANDBY: the link table's fields that name it become absent (R36, R78). -/
def Link.forget (r : Link) (e : EntryId) : Link :=
  { r with active := if r.active = some e then none else r.active
           standby := if r.standby = some e then none else r.standby }

/-- A release returns the entry to FREE and raises the generation by one; an entry already FREE is left alone (R38). The
link table hears of it (R36), and a lost STANDBY turns the link's queued BACKUP (R89). -/
def State.releaseEntry (s : State) (e : EntryId) : State :=
  let c := s.plan.carriers[e]
  if c.state = .free then s
  else
    let s := (s.setCarrier e {}).bumpGen
    match c.link with
    | none => s
    | some l =>
      let s := s.modLink l (·.forget e)
      if c.state = .standby ∧ s.links[l].standby = none then s.retargetBackup l else s

/-- Releases an entry that may be absent. -/
def State.releaseOpt (s : State) (e : Option EntryId) : State :=
  match e with
  | some e => s.releaseEntry e
  | none => s

/-- The link table's side of an entry entering ACTIVE or STANDBY (R78). A second STANDBY of a link is released, and the
one it records is kept. -/
def State.noteEntered (s : State) (e : EntryId) (l : LinkId) (st : CarrierState) : State :=
  match st with
  | .active => s.modLink l fun r => { r with active := some e }
  | .standby => if s.links[l].standby = none then s.modLink l fun r => { r with standby := some e } else s.releaseEntry e
  | .free | .reserved | .retiring | .blocked => s

/-- A state change of R36: the other fields of the entry and the generation are kept. -/
def State.changeEntry (s : State) (e : EntryId) (st : CarrierState) : State :=
  let c := s.plan.carriers[e]
  let s := s.setCarrier e { c with state := st }
  match c.link with
  | none => s
  | some l => (s.modLink l (·.forget e)).noteEntered e l st

/-- A state change of an entry that may be absent. -/
def State.changeOpt (s : State) (e : Option EntryId) (st : CarrierState) : State :=
  match e with
  | some e => s.changeEntry e st
  | none => s

/-- Sets a link's state; a link entering IDLE gives up the STANDBY it still records (R77, R78). -/
def State.setLinkState (s : State) (l : LinkId) (st : LinkState) : State :=
  let s := s.modLink l fun r => { r with state := st }
  if st = .idle then s.releaseOpt s.links[l].standby else s

/-- The frequency of a link's ACTIVE entry, if it has one. -/
def State.activeFreq (s : State) (l : LinkId) : Option Nat := s.links[l].active.map fun e => s.plan.carriers[e].freq

/-- The restarted monitor state: the battery latch and the crossed flags are kept (R123). -/
def Monitor.restart (m : Monitor) : Monitor :=
  { batteryLow := m.batteryLow, lowCrossed := m.lowCrossed, highCrossed := m.highCrossed }

/-- Restarts a link's monitor state (R123). -/
def State.restartMonitor (s : State) (l : LinkId) : State := s.setMonitor l s.monitors[l].restart

/-! ### The retune queue (section 5.4) -/

/-- The held flag of a request for a link: live, without FORCE, and not a FADE that switch_when_live lifts (R87). -/
def Link.holds (r : Link) (reason : Reason) (force : Bool) : Bool :=
  r.live && !force && !(reason == .fade && r.flags.switchWhenLive)

/-- Evaluates again the held flag of a link's queue entry (R87). -/
def State.reevaluate (s : State) (l : LinkId) : State :=
  { s with retuneQueue := s.retuneQueue.map fun e =>
      if e.link = l then { e with held := s.links[l].holds e.reason e.force } else e }

/-- What became of a filing (R86): the position and held flag of the entry, or no place. -/
inductive Filed where
  | replaced (held : Bool) (position : Nat)
  | added (held : Bool) (position : Nat)
  | full
deriving DecidableEq, Repr

/-- A filing for a link (R86): replaces the link's entry in place, or joins the tail, or finds the queue full. -/
def State.fileRetune (s : State) (l : LinkId) (target : Target) (reason : Reason) (force : Bool) : State × Filed :=
  let held := s.links[l].holds reason force
  let e : QueueEntry := { link := l, target, reason, force, held }
  match s.retuneQueue.findIdx? (·.link = l) with
  | some p => ({ s with retuneQueue := s.retuneQueue.set p e }, .replaced held p)
  | none =>
    if s.retuneQueue.length < Config.retuneCap then
      ({ s with retuneQueue := s.retuneQueue ++ [e] }, .added held s.retuneQueue.length)
    else (s, .full)

/-- RETUNE_DROPPED: reason, target and EXPLICIT frequency or 0 (R86). -/
def State.raiseDropped (s : State) (l : LinkId) (target : Target) (reason : Reason) : State :=
  s.raise .retuneDropped (linkByte l) (u8 reason.code ++ u8 target.code ++ u32 target.freq)

/-- An automatic filing: discarded for a link in UNUSED or IDLE, and with RETUNE_DROPPED for a full queue (R86). -/
def State.autoFile (s : State) (l : LinkId) (target : Target) (reason : Reason) : State × Option Filed :=
  if s.links[l].state = .unused ∨ s.links[l].state = .idle then (s, none)
  else
    match s.fileRetune l target reason false with
    | (s, .full) => (s.raiseDropped l target reason, some .full)
    | (s, f) => (s, some f)

/-- Removes a link's entry of reason FADE, held or not (R89, RECOVER). -/
def State.removeFade (s : State) (l : LinkId) : State :=
  { s with retuneQueue := s.retuneQueue.filter fun e => !(e.link = l && e.reason = .fade) }

/-- Removes a link's entry, whatever its reason (R89, ABORT RETUNE). -/
def State.removeEntry (s : State) (l : LinkId) : State :=
  { s with retuneQueue := s.retuneQueue.filter fun e => e.link ≠ l }

/-- Has the link an entry in the retune queue? -/
def State.queued (s : State) (l : LinkId) : Bool := s.retuneQueue.any (·.link = l)

/-- The context serving a link, if any: it serves it until it is FREE (R109). -/
def State.serving (s : State) (l : LinkId) : Option ContextId :=
  (List.finRange 4).find? fun k => s.contexts[k].stage != .free && s.contexts[k].link = l

/-- The drain condition of R193. -/
def State.drained (s : State) : Bool :=
  (List.finRange 4).all (fun k => s.contexts[k].stage == .free) && s.scan.state != .scanning
    && (List.finRange 16).all fun i => match s.unit.slots[i].owner with
        | some (.relay _) => false
        | _ => true

/-- Tests the drain condition in QUIESCING; when it holds the state becomes QUIESCED and the notice is raised (R193). -/
def State.testDrain (s : State) : State :=
  if s.agent.quiesce = .quiescing ∧ s.drained then
    ({ s with agent := { s.agent with quiesce := .quiesced } }).raise .quiesced 0 []
  else s

end Sys2Proof.Machine
end

