-- ==== Sys2Proof/Machine/Arithmetic.lean ====
section
/-! DEFINITION. Coordination arithmetic (chapter 04): one check attempt, stage by stage, over the copy it took at its start. -/

namespace Sys2Proof.Machine

/-- One comparison of a stage: the distance found, the threshold, and what is reported if it is the offending one. -/
structure Comparison where
  distance : Nat
  required : Nat
  offence  : Offence
deriving DecidableEq, Repr

/-- What a run of comparisons comes to: how many were made, the smallest distance (capped at 65,535, R61), and the
offending comparison, if any. -/
structure Compared where
  made    : Nat
  nearest : Nat
  offence : Option Offence
deriving DecidableEq, Repr

/-- Makes the comparisons in order, up to and including the first that does not meet its threshold (R53). -/
def compareAll : List Comparison → Compared
  | [] => { made := 0, nearest := 65535, offence := none }
  | c :: cs =>
    if c.distance < c.required then
      { made := 1, nearest := min 65535 c.distance
        offence := some { c.offence with distance := c.distance, required := c.required } }
    else
      let r := compareAll cs
      { made := r.made + 1, nearest := min c.distance r.nearest, offence := r.offence }

/-- The raw outcome of an attempt (R53): stage 0 for a pass, else the failing stage's code 1-5; the checked frequency
(0 when stage 1 formed none), the snapped flag, the band, the margin (R61), the comparisons made (R62) and the offending
comparison. -/
structure RawOutcome where
  stage       : Nat
  checked     : Nat
  snapped     : Bool
  band        : Option (Fin 4)
  margin      : Nat
  comparisons : Nat
  offence     : Offence
deriving DecidableEq, Repr

/-- Does a band list a class among its allowed classes? -/
def Band.allows (b : Band) : CarrierClass → Bool
  | .n => b.allowN
  | .w10 => b.allowW10
  | .w20 => b.allowW20

/-- Does the band's range hold the frequency, both edges included (R54)? -/
def Band.holds (b : Band) (f : Nat) : Bool := b.valid && b.lower ≤ f && f ≤ b.upper

/-- The valid band that contains a frequency (R54). -/
def findBand (bands : Vector Band 4) (f : Nat) : Option (Fin 4) := (List.finRange 4).find? fun i => bands[i].holds f

/-- The snap (R55): the nearest raster point, an exact half rounded down. -/
def snap (b : Band) (f : Nat) : Nat := b.lower + (2 * (f - b.lower) + b.step - 1) / (2 * b.step) * b.step

/-- The fit test of R55: the occupied range of class `c` at `f` lies between the band's edges. -/
def Band.fits (b : Band) (c : CarrierClass) (f : Nat) : Bool :=
  b.lower + c.bandwidth / 2 ≤ f && f + c.bandwidth / 2 ≤ b.upper

/-- The distance of two frequencies or products. -/
def apart (x y : Int) : Nat := (x - y).natAbs

/-- The spacing guard of a pair of classes (R56). -/
def CoordSettings.guard (g : CoordSettings) (x y : CarrierClass) : Nat :=
  if x = .n ∧ y = .n then g.gNN else if x = .n ∨ y = .n then g.gNW else g.gWW

/-- Stage 2 (R56): each counted carrier in ascending entry index, a BLOCKED one passed over for a BLOCKED candidate. -/
def spacingStage (t : Attempt) (f : Nat) : List Comparison :=
  (t.carriers.filter fun j => !(j.blocked && t.blocked)).map fun j =>
    { distance := apart f j.freq
      required := (t.cls.bandwidth + j.cls.bandwidth) / 2 + t.settings.guard t.cls j.cls
      offence := { a := 254, v := indexByte (some j.entry), other := j.freq } }

/-- Stage 3 (R57): each foreign entry of the copy in list order. -/
def foreignStage (t : Attempt) (f : Nat) : List Comparison :=
  t.foreign.map fun (ff : Nat) =>
    { distance := apart f ff, required := t.cls.bandwidth / 2 + t.settings.gF, offence := { a := 254, other := ff } }

/-- A member of stages 4 and 5 (R58): its code in the result record, its frequency, and whether it is BLOCKED. -/
structure Member where
  code    : Byte
  freq    : Int
  blocked : Bool
deriving DecidableEq, Repr

/-- The members other than the candidate: the counted class N carriers of the copy, in ascending entry index (R58). -/
def members (t : Attempt) : List Member :=
  (t.carriers.filter fun j => j.cls == .n).map fun j => { code := indexByte (some j.entry), freq := j.freq, blocked := j.blocked }

/-- The candidate as a member (R58). -/
def candidateMember (t : Attempt) (f : Nat) : Member := { code := 254, freq := f, blocked := t.blocked }

/-- A two-signal comparison: product 2a − c′ against victim v; none when all three are BLOCKED (R58). -/
def twoSignal (w : Nat) (a c v : Member) : List Comparison :=
  if a.blocked && c.blocked && v.blocked then []
  else [{ distance := apart (2 * a.freq - c.freq) v.freq, required := w
          offence := { a := a.code, c := c.code, v := v.code } }]

/-- Each member in turn, with the ones other than it. -/
def others (ms : List Member) (x : Member) : List Member := ms.filter (·.code ≠ x.code)

/-- Stage 4 in its three groups (R59). -/
def imTwoStage (t : Attempt) (f : Nat) : List Comparison :=
  let ms := members t
  let x := candidateMember t f
  let w := t.settings.w
  (ms.flatMap fun c => (others ms c).flatMap fun v => twoSignal w x c v)
    ++ (ms.flatMap fun a => (others ms a).flatMap fun v => twoSignal w a x v)
    ++ (ms.flatMap fun a => (others ms a).flatMap fun c => twoSignal w a c x)

/-- A three-signal comparison: product a + b′ − c′ against victim v; none when all four are BLOCKED (R60). -/
def threeSignal (w : Nat) (a b c v : Member) : List Comparison :=
  if a.blocked && b.blocked && c.blocked && v.blocked then []
  else [{ distance := apart (a.freq + b.freq - c.freq) v.freq, required := w
          offence := { a := a.code, b := b.code, c := c.code, v := v.code } }]

/-- The unordered pairs of a list, by the lower index and then the higher (R60). -/
def memberPairs : List Member → List (Member × Member)
  | [] => []
  | a :: rest => rest.map (fun b => (a, b)) ++ memberPairs rest

/-- Stage 5 in its three groups (R60). -/
def imThreeStage (t : Attempt) (f : Nat) : List Comparison :=
  let ms := members t
  let x := candidateMember t f
  let w := t.settings.w3
  (ms.flatMap fun b => (others ms b).flatMap fun c => (others (others ms b) c).flatMap fun v => threeSignal w x b c v)
    ++ ((memberPairs ms).flatMap fun p => (others (others ms p.1) p.2).flatMap fun v => threeSignal w p.1 p.2 x v)
    ++ ((memberPairs ms).flatMap fun p => (others (others ms p.1) p.2).flatMap fun c => threeSignal w p.1 p.2 c x)

/-- The stages after the first, with their codes, as far as they run for the class and W3 (R53). -/
def laterStages (t : Attempt) (f : Nat) : List (Nat × List Comparison) :=
  [(2, spacingStage t f), (3, foreignStage t f)]
    ++ (if t.cls = .n then [(4, imTwoStage t f)] ++ (if t.settings.w3 > 0 then [(5, imThreeStage t f)] else []) else [])

/-- Runs the later stages in order; the first failing comparison ends the attempt. Only stages 4 and 5 count for the
margin (R61). -/
def runStages : List (Nat × List Comparison) → RawOutcome → RawOutcome
  | [], r => r
  | (k, cs) :: rest, r =>
    let q := compareAll cs
    let r := { r with comparisons := r.comparisons + q.made
                      margin := if k ≥ 4 then min r.margin q.nearest else r.margin }
    match q.offence with
    | some o => { r with stage := k, offence := o }
    | none => runStages rest r

/-- The raw outcome of an attempt (R53 to R62). Stage 1 counts as one comparison, whether it passes or fails. -/
def evaluate (t : Attempt) : RawOutcome :=
  match findBand t.bands t.candidate with
  | none => { stage := 1, checked := 0, snapped := false, band := none, margin := 65535, comparisons := 1, offence := {} }
  | some i =>
    let b := t.bands[i]
    if b.allows t.cls then
      let f := snap b t.candidate
      let r : RawOutcome := { stage := 0, checked := f, snapped := f != t.candidate, band := some i, margin := 65535
                              comparisons := 1, offence := {} }
      if b.fits t.cls f then runStages (laterStages t f) r else { r with stage := 1 }
    else { stage := 1, checked := 0, snapped := false, band := some i, margin := 65535, comparisons := 1, offence := {} }

/-- Duration of an attempt in nanoseconds: 20 ns for each comparison (R62). -/
def attemptNanoseconds (t : Attempt) : Nat := 20 * (evaluate t).comparisons

/-- The counted carriers of the plan as an attempt's copy takes them (R52). -/
def copyCarriers (p : Plan) : List CopyCarrier :=
  ((List.finRange 96).filter fun e => p.carriers[e].counted).map fun e =>
    { entry := e, freq := p.carriers[e].freq, cls := p.carriers[e].cls, blocked := p.carriers[e].state == .blocked }

/-- The order of visits of a candidate search (R66): from after the first position that holds the ACTIVE frequency,
wrapping and ending with it; else from the first position to the last. -/
def visitOrder (list : List Nat) (active : Option Nat) : List Nat :=
  match active with
  | none => list
  | some f =>
    match list.findIdx? (· = f) with
    | none => list
    | some p => list.drop (p + 1) ++ list.take (p + 1)

end Sys2Proof.Machine
end

