-- ==== Sys2Proof/Machine/Agent.lean ====
section
/-! DEFINITION. The management agent's common work: which requests exist and how long their arguments must be, the common judgement, the taking of a request, and the making and offering of replies (section 11.1). -/

namespace Sys2Proof.Machine

/-- A MGMT_REPLY cell: to the request's source, with its tag and code, the result and at most 45 bytes of data (R188). -/
def replyCell (dest tag code : Byte) (result : Result) (data : List Byte) : Cell :=
  ownCell kindMgmtReply dest ([tag, code] ++ u8 result.code ++ data.take Config.replyData)

/-- Marks a request's phase. -/
def State.setPhase (s : State) (id : Nat) (p : Phase) : State :=
  { s with agent := { s.agent with requests := s.agent.requests.map fun q => if q.id = id then { q with phase := p } else q } }

/-- A reply becomes ready: it waits with its request until it joins the reply queue (R188). -/
def State.answer (s : State) (r : Request) (result : Result) (data : List Byte) : State :=
  let s := s.setPhase r.id .answered
  { s with agent := { s.agent with
      ready := s.agent.ready ++ [{ id := some r.id, cell := replyCell r.src r.tag r.code result data }] } }

/-- A request waits for work in another block and keeps its place (R187). -/
def State.defer (s : State) (r : Request) : State := s.setPhase r.id .deferred

/-- The reply to a deferred request, by its place; a request that a reset has dropped gets none (R47, R105). -/
def State.answerId (s : State) (id : Nat) (result : Result) (data : List Byte) : State :=
  match s.agent.requests.find? (·.id = id) with
  | some r => s.answer r result data
  | none => s

/-- The oldest request not yet taken (R187). -/
def State.untaken (s : State) : Option Request := s.agent.requests.find? (·.phase = .arrived)

/-! ### The items of a CONFIG write (R189) -/

/-- Bytes of a setting's value, by its identifier (R189). -/
def settingSize : Nat → Option Nat
  | 4 | 5 | 6 | 7 | 8 | 9 | 19 => some 4
  | 15 => some 2
  | 1 | 2 | 3 | 10 | 11 | 12 | 13 | 14 | 16 | 17 | 18 | 20 | 21 | 22 => some 1
  | _ => none

/-- An item of a CONFIG write: an identifier and its value bytes; an identifier outside 1-22 has none, and ends what is
read of the list, since its size is unknown (log 44). -/
structure ConfigItem where
  id    : Nat
  value : List Byte
deriving DecidableEq, Repr

/-- Reads `n` items; none when the bytes are shorter than the items require. Behind an identifier outside 1-22, whose value
has no size, each item still requires its identifier byte (log 44). -/
def readItems : Nat → List Byte → Option (List ConfigItem)
  | 0, _ => some []
  | _ + 1, [] => none
  | n + 1, b :: bs =>
    match settingSize b.toNat with
    | none => if bs.length < n then none else some [{ id := b.toNat, value := [] }]
    | some k =>
      if bs.length < k then none
      else (readItems n (bs.drop k)).map fun rest => { id := b.toNat, value := bs.take k } :: rest

/-- The items of a CONFIG write's arguments. -/
def configItems (args : List Byte) : Option (List ConfigItem) :=
  match args with
  | [] => none
  | n :: bs => readItems n.toNat bs

/-- Does a CONFIG write name the setting? -/
def namesSetting (args : List Byte) (id : Nat) : Bool :=
  match configItems args with
  | some items => items.any (·.id = id)
  | none => false

/-! ### Request codes and the common judgement (R187) -/

/-- The argument bytes a request requires, by its code, or none for a code that the Cells chapter does not list. A list
argument says its own length. -/
def requiredArgs (code : Nat) (args : List Byte) : Option Nat :=
  match code with
  | 0x10 | 0x12 | 0x14 | 0x16 | 0x18 | 0x1A | 0x1C | 0x1E | 0x20 => some 1
  | 0x11 => some 15
  | 0x13 => some 5
  | 0x17 => some 9
  | 0x19 => some (2 + 4 * u8At args 1)
  | 0x1B => some 10
  | 0x1D => some 14
  | 0x1F => some (5 + u8At args 1)
  | 0x21 => some 2
  | 0x22 => some 2
  | 0x23 => some 7
  | 0x24 => some 2
  | 0x25 => some 6
  | 0x26 => some 2
  | 0x27 => some 5
  | 0x28 => some (1 + u8At args 0)
  | 0x29 => some (if (configItems args).isSome then 1 else args.length + 1)
  | 0x30 | 0x31 | 0x38 => some 7
  | 0x33 => some 6
  | 0x34 => some 2
  | 0x32 | 0x35 => some 1
  | 0x39 | 0x40 | 0x41 | 0x42 | 0x58 | 0x59 | 0x5A | 0x5B | 0x60 => some 0
  | 0x48 => some 2
  | 0x49 | 0x4A => some 1
  | 0x4B => some 6
  | 0x50 => some 2
  | _ => none

/-- The common judgement (R187): BAD_VALUE for an unlisted code or short arguments. Beside them stand the two CONFIG
writes that name no setting: an empty one is accepted with nothing stored, and one whose first item is unknown is refused
BAD_INDEX with that identifier (R189). None means that the owning rule judges the request. -/
def commonJudgement (r : Request) : Option (Result × List Byte) :=
  match requiredArgs r.code.toNat r.args with
  | none => some (.badValue, [])
  | some n =>
    if r.args.length < n then some (.badValue, [])
    else if r.code = 0x29 then
      match configItems r.args with
      | some [] => some (.ok, [])
      | some (item :: _) => if settingSize item.id = none then some (.badIndex, u8 item.id) else none
      | none => some (.badValue, [])
    else none

/-- The requests the agent takes and answers by the common judgement alone: those waiting ahead of the first one that an
owning rule must judge, in order of arrival. -/
def commonlyJudged : List Request → List (Request × Result × List Byte)
  | [] => []
  | r :: rs =>
    if r.phase = .arrived then
      match commonJudgement r with
      | some (res, data) => (r, res, data) :: commonlyJudged rs
      | none => []
    else commonlyJudged rs

/-- Takes and answers the requests that the common judgement decides (R187). The agent takes each request as soon as the
one before it has been taken, so this follows every arrival and every take. -/
def State.judgeCommon (s : State) : State :=
  (commonlyJudged s.agent.requests).foldl (fun s q => s.answer q.1 q.2.1 q.2.2) s

/-- A command that is the take of a request: when the oldest request not yet taken is of the row, the owning rule's
effect, and then the common judgement of what follows it in the queue; otherwise the event does not happen (log 1, log 3). -/
def State.take (s : State) (row : Request → Bool) (effect : State → Request → State) : State :=
  match s.untaken with
  | some r => if row r then (effect s r).judgeCommon else s
  | none => s

/-- Is the request of a code, with the arguments that code requires? -/
def hasCode (code : Byte) (r : Request) : Bool := r.code == code && (commonJudgement r).isNone

/-- Is the request a CONFIG write that names a setting? -/
def writesSetting (id : Nat) (r : Request) : Bool := hasCode 0x29 r && namesSetting r.args id

end Sys2Proof.Machine
end

