-- ==== Sys2Proof/Machine/UnitChannel.lean ====
section
/-! DEFINITION. The shared operations of the coordination queue's filing (R45, R48) and of the unit channel: allocation of slots (R94), turns and offers (R95, R110), withdrawal (R103). -/

namespace Sys2Proof.Machine

/-! ### Filing a coordination request (R45) -/

/-- Is there a place in the coordination queue for a request of this filer (R45)? -/
def State.coordPlace (s : State) : Filer → Bool
  | .context _ => s.engine.queue.length < Config.coordCap
  | .management _ | .auto =>
    s.engine.queue.length < Config.coordCap
      && (s.engine.queue.filter fun q => match q.filer with
            | .context _ => false
            | .management _ | .auto => true).length < Config.coordOtherCap

/-- Places a request at the tail of the coordination queue. -/
def State.placeCoord (s : State) (q : CoordRequest) : State :=
  { s with engine := { s.engine with queue := s.engine.queue ++ [q] } }

/-- BACKUP_LOST: the STANDBY entry lost or FFh, the cause and a result code (R48). -/
def State.raiseBackupLost (s : State) (l : LinkId) (entry : Option EntryId) (cause result : Nat) : State :=
  s.raise .backupLost (linkByte l) (index entry ++ u8 cause ++ u8 result)

/-- The auto-backup rule files a PICK_BACKUP with NEXT_CANDIDATE (R45). One already in the queue makes it unneeded; where
there is no place it raises BACKUP_LOST with cause NOT_FILED, unless one already raised stands for both (R48). -/
def State.autoPick (s : State) (l : LinkId) (alreadyRaised : Bool) : State :=
  if s.engine.queue.any fun q => q.kind = .pickBackup && q.link = some l then s
  else if s.coordPlace .auto then
    s.placeCoord { kind := .pickBackup, filer := .auto, link := some l, target := .nextCandidate, cls := s.links[l].cls }
  else if alreadyRaised then s
  else s.raiseBackupLost l none 2 Result.queueFull.code

/-! ### Allocation (R94) -/

/-- The lowest-numbered FREE slot an owner may use: 12-15 first for tally, and slots 0-11 for every owner (R94). -/
def State.slotFor (s : State) (o : Owner) : Option SlotId :=
  let general := (List.finRange 16).filter fun i => i.val < 12
  let kept := (List.finRange 16).filter fun i => 12 ≤ i.val
  let allowed := match o with
    | .tally _ => kept ++ general
    | .context _ _ | .scan _ | .relay _ => general
  allowed.find? fun i => s.unit.slots[i].state == .free

/-- Do two owners name the two slots of one context? -/
def Owner.sameContext : Owner → Owner → Bool
  | .context k _, .context j _ => k = j
  | _, _ => false

/-- The other slot of a locked pair, once it is allocated. -/
def State.mateOf (s : State) (i : SlotId) (o : Owner) : Option SlotId :=
  (List.finRange 16).find? fun j => decide (j ≠ i) && s.unit.slots[j].pair && s.unit.slots[j].state != .free
    && match s.unit.slots[j].owner with
      | some p => o.sameContext p
      | none => false

/-- Gives a slot to a request: WAITING, with its owner, unit and command, attempt count 0 and nothing else (R94). The
second slot of a locked pair and the first name each other. -/
def State.allocate (s : State) (i : SlotId) (q : SlotRequest) : State :=
  let mate := if q.pair then s.mateOf i q.owner else none
  let s := s.setSlot i { state := .waiting, owner := some q.owner, unit := q.unit, command := q.command, single := q.single
                         pair := q.pair, mate, serial := s.unit.serial }
  let s := { s with unit := { s.unit with serial := s.unit.serial + 1 } }
  match mate with
  | some j => s.setSlot j { s.unit.slots[j] with mate := some i }
  | none => s

/-- The oldest waiting request that may use a FREE slot, with that slot (R94). -/
def State.grantable (s : State) : List SlotRequest → Option (SlotRequest × SlotId)
  | [] => none
  | q :: rest =>
    match s.slotFor q.owner with
    | some i => some (q, i)
    | none => s.grantable rest

/-- Gives a FREE slot to the oldest waiting request that may use it, or changes nothing (R94). -/
def State.grantOne (s : State) : State :=
  match s.grantable s.unit.waiting with
  | some (q, i) => ({ s with unit := { s.unit with waiting := s.unit.waiting.erase q } }).allocate i q
  | none => s

/-- Grants while a waiting request may use a FREE slot. -/
def State.grantAll : Nat → State → State
  | 0, s => s
  | n + 1, s => State.grantAll n s.grantOne

/-- An owner asks for a slot: the request joins the allocation queue, and whatever can be granted is granted, oldest
first (R94). -/
def State.askSlot (s : State) (q : SlotRequest) : State :=
  let s := { s with unit := { s.unit with waiting := s.unit.waiting ++ [q] } }
  State.grantAll s.unit.waiting.length s

/-! ### Turns and offers (R95) -/

/-- Is a unit's turn free (R95)? -/
def State.turnFree (s : State) (u : Byte) : Bool :=
  (List.finRange 16).all fun j => !(s.unit.slots[j].turn && s.unit.slots[j].unit == u)

/-- Is a WAITING slot for the same unit allocated before slot `i` (R95)? -/
def State.waitsBehind (s : State) (i : SlotId) : Bool :=
  (List.finRange 16).any fun j => s.unit.slots[j].state == .waiting && s.unit.slots[j].unit == s.unit.slots[i].unit
    && s.unit.slots[j].serial < s.unit.slots[i].serial

/-- Holds the slot its unit's turn, or may it take it now (R95)? -/
def State.hasTurn (s : State) (i : SlotId) : Bool :=
  s.unit.slots[i].turn || (s.turnFree s.unit.slots[i].unit && !s.waitsBehind i)

/-- Does the slot's cell go by the urgent queue: TALLY_SET of the tally processor (R95)? A relay goes by the command queue
whatever its code (R104). -/
def Slot.urgent (x : Slot) : Bool :=
  match x.owner with
  | some (.tally _) => true
  | _ => false

/-- Is the slot ready to offer its cell but for room in its queue (R95)? -/
def State.readyToOffer (s : State) (i : SlotId) : Bool :=
  s.unit.slots[i].state == .waiting && !s.unit.slots[i].pair && s.hasTurn i

/-- The two slots of a context's locked pair, the rack unit's first, once both are allocated (R110). -/
def State.pairSlots (s : State) (k : ContextId) : Option (SlotId × SlotId) :=
  let find (d : Side) := (List.finRange 16).find? fun i =>
    s.unit.slots[i].pair && decide (s.unit.slots[i].owner = some (.context k d))
  match find .rack, find .portable with
  | some i, some j => some (i, j)
  | _, _ => none

/-- The first three conditions of R110: both slots allocated and WAITING, both turns free, and no WAITING slot for either
unit allocated earlier. -/
def State.pairReady (s : State) (k : ContextId) : Bool :=
  match s.pairSlots k with
  | some (i, j) => s.unit.slots[i].state == .waiting && s.unit.slots[j].state == .waiting
      && s.turnFree s.unit.slots[i].unit && s.turnFree s.unit.slots[j].unit && !s.waitsBehind i && !s.waitsBehind j
  | none => false

/-- A locked pair counts from the allocation of its second slot (R95). -/
def State.pairSerial (s : State) (k : ContextId) : Nat :=
  match s.pairSlots k with
  | some (i, j) => max s.unit.slots[i].serial s.unit.slots[j].serial
  | none => 0

/-- Would an offer to the command queue pass a slot allocated before it that is ready (R95)? -/
def State.passesCommand (s : State) (serial : Nat) : Bool :=
  (List.finRange 16).any fun j => s.readyToOffer j && !s.unit.slots[j].urgent && s.unit.slots[j].serial < serial

/-- Would an offer to the urgent queue pass a slot or a locked pair allocated before it that is ready (R95)? -/
def State.passesUrgent (s : State) (serial : Nat) : Bool :=
  ((List.finRange 16).any fun j => s.readyToOffer j && s.unit.slots[j].urgent && s.unit.slots[j].serial < serial)
    || (List.finRange 4).any fun k => s.pairReady k && s.pairSerial k < serial

/-- The toggle a unit's next command carries (R96). -/
def State.toggleOf (s : State) (u : Byte) : Bool := s.unit.toggles[u.toNat]

/-- Sets a unit's toggle (R96). -/
def State.setToggle (s : State) (u : Byte) (t : Bool) : State :=
  { s with unit := { s.unit with toggles := s.unit.toggles.set u.toNat t } }

/-- The slot as its offer leaves it: QUEUED, holding its unit's turn, with the toggle taken at the first offer, and one
more attempt unless the offer is made under R101 (R95). -/
def State.offered (s : State) (i : SlotId) : Slot :=
  let x := s.unit.slots[i]
  { x with state := .queued, turn := true
           toggle := if x.attempts = 0 then s.toggleOf x.unit else x.toggle
           attempts := if x.uncounted then x.attempts else x.attempts + 1
           uncounted := false }

/-- A slot's COMMAND cell in a D-port queue (R95). -/
def Slot.queueCell (x : Slot) (i : SlotId) (k : Option ContextId) : UnitCell :=
  { cell := commandCell x.unit x.toggle x.command, slot := i, context := k }

/-- A slot that is ready offers its cell, when its queue has room and no earlier one is passed (R95). -/
def State.offerSlot (s : State) (i : SlotId) : State :=
  if s.readyToOffer i then
    let x := s.offered i
    if x.urgent then
      if s.dport.urgent.length < Config.urgentCap ∧ !s.passesUrgent x.serial then
        let s := s.setSlot i x
        { s with dport := { s.dport with urgent := s.dport.urgent ++ [x.queueCell i none] } }
      else s
    else if s.dport.command.length < Config.commandCap ∧ !s.passesCommand x.serial then
      let s := s.setSlot i x
      { s with dport := { s.dport with command := s.dport.command ++ [x.queueCell i none] } }
    else s
  else s

/-- A locked pair is submitted to the urgent queue, the rack unit's cell first, once the four things of R110 hold. -/
def State.submitPair (s : State) (k : ContextId) : State :=
  match s.pairSlots k with
  | some (i, j) =>
    if s.pairReady k ∧ s.dport.urgent.length + 2 ≤ Config.urgentCap ∧ !s.passesUrgent (s.pairSerial k) then
      let x := s.offered i
      let y := s.offered j
      let s := (s.setSlot i x).setSlot j y
      { s with dport := { s.dport with urgent := s.dport.urgent ++ [x.queueCell i (some k), y.queueCell j (some k)] } }
    else s
  | none => s

/-! ### Withdrawal (R103, R14, R17) -/

/-- Is the slot's cell in transmission now? -/
def State.inTransmission (s : State) (i : SlotId) : Bool :=
  match s.dport.line with
  | .urgent => s.dport.urgent.head?.any (·.slot = i)
  | .command => s.dport.command.head?.any (·.slot = i)
  | .idle | .frame _ | .audio | .forward => false

/-- Is the slot's cell one of a committed locked pair (R17)? -/
def State.inCommittedPair (s : State) (i : SlotId) : Bool := s.dport.urgent.any fun q => q.slot = i && q.committed

/-- May the slot be withdrawn: WAITING or QUEUED, its cell never having begun a transmission (R103)? A cell abandoned by
BACKOFF counts as not begun (R14), but a committed pair cannot be withdrawn (R17). -/
def State.withdrawable (s : State) (i : SlotId) : Bool :=
  (s.unit.slots[i].state == .waiting || s.unit.slots[i].state == .queued) && !s.unit.slots[i].begun
    && !s.inTransmission i && !s.inCommittedPair i

/-- Withdraws a slot: its cell leaves its queue and the slot becomes FREE without a condition (R103, R14). -/
def State.withdrawSlot (s : State) (i : SlotId) : State :=
  let s := { s with dport := { s.dport with urgent := s.dport.urgent.filter fun q => q.slot ≠ i
                                            command := s.dport.command.filter fun q => q.slot ≠ i } }
  s.setSlot i {}

/-- Is the owner a retune context's? -/
def Owner.ofContext (k : ContextId) : Owner → Bool
  | .context j _ => j = k
  | .tally _ | .scan _ | .relay _ => false

/-- Is the slot owned by a retune context? -/
def Slot.ownedBy (x : Slot) (k : ContextId) : Bool := x.owner.any (Owner.ofContext k)

/-- Withdraws a context's waiting requests and each of its slots that may be withdrawn (R94, R103). -/
def State.withdrawContext (s : State) (k : ContextId) : State :=
  let s := { s with unit := { s.unit with waiting := s.unit.waiting.filter fun q => !q.owner.ofContext k } }
  (List.finRange 16).foldl (fun s i => if s.unit.slots[i].ownedBy k ∧ s.withdrawable i then s.withdrawSlot i else s) s

/-- Holds a context a slot, or waits it for one? -/
def State.holdsSlot (s : State) (k : ContextId) : Bool :=
  (List.finRange 16).any (fun i => s.unit.slots[i].ownedBy k) || s.unit.waiting.any (·.owner.ofContext k)

end Sys2Proof.Machine
end

