-- ==== Sys2Proof/Machine/Retune.lean ====
section
/-! DEFINITION. The retune contexts (sections 6.5 to 6.10): taking an entry, the stages, the ways a retune ends, live changes and ABORT RETUNE; and the rows CONTEXT_TAKE, SWITCH_FRAME, CONFIRM_DEADLINE, REVERT_FRAME and REVERT_CONFIRM_EXPIRY as shared operations. -/

namespace Sys2Proof.Machine

/-- Causes of RETUNE_FAILED (R118). -/
inductive FailCause where
  | prepareFailed | pairLate | unconfirmed | mistuned | reverted | revertUnconfirmed | revertLate
deriving DecidableEq, Repr

def FailCause.code : FailCause → Nat
  | .prepareFailed => 1 | .pairLate => 2 | .unconfirmed => 3 | .mistuned => 4 | .reverted => 5
  | .revertUnconfirmed => 6 | .revertLate => 7

/-- The stage as the last retune result and the notices code it (R79). -/
def Stage.named : Stage → RetuneStage
  | .coordinate => .coordinate | .prepare => .prepare | .switch => .switch | .confirm => .confirm | .revert => .revert
  | .free => .none | .closing => .none

/-- The eight bytes of a coordination summary, zero when no request was made (R69, R79). -/
def summaryBytes : Option CoordSummary → List Byte
  | some m => [m.result] ++ u8 m.stage ++ u32 m.checked ++ half m.gen
  | none => u8 0 ++ u8 0 ++ u32 0 ++ u16 0

/-- The unit address of a link's side. -/
def Link.unit (r : Link) : Side → Byte
  | .rack => r.rack
  | .portable => r.portable

/-- A context asks for a slot to one unit of its link. -/
def State.askContext (s : State) (k : ContextId) (side : Side) (command : List Byte) (pair : Bool) : State :=
  s.askSlot { owner := .context k side, unit := s.links[s.contexts[k].link].unit side, command, single := pair, pair }

/-- A context in CLOSING that holds no slot and no coordination request becomes FREE (R109), and the drain condition is
tested (R193). -/
def State.freeIfDone (s : State) (k : ContextId) : State :=
  if s.contexts[k].stage = .closing ∧ ¬ s.holdsSlot k ∧ ¬ s.contexts[k].coordinating then (s.setContext k {}).testDrain
  else s

/-- The context closes (R109, R113): it serves its link until it holds nothing. -/
def State.close (s : State) (k : ContextId) : State :=
  (s.modContext k fun c => { c with stage := .closing }).freeIfDone k

/-- Writes the last retune result of the context's link (R79). Where the coordination request has not ended, the summary is eight
zero bytes (log 42). -/
def State.writeResult (s : State) (k : ContextId) (ending : Ending) (stage : RetuneStage) : State :=
  let c := s.contexts[k]
  s.modLink c.link fun r => { r with last :=
    { ending, reason := c.reason, target := c.target, stage, summary := c.summary, rack := c.rack
      portable := c.portable, frame := s.timing.frame } }

/-- RETUNE_FAILED in a stage other than COORDINATE (R118). -/
def State.raiseFailed (s : State) (k : ContextId) (stage : RetuneStage) (cause : FailCause) : State :=
  let c := s.contexts[k]
  s.raise .retuneFailed (linkByte c.link) (u8 stage.code ++ u8 cause.code ++ u8 (conditionCode c.rack)
    ++ u8 (conditionCode c.portable) ++ u8 c.cause.code)

/-- The settlement of a retune that ends before its SWITCH pair is committed (R109): new entry, link state and last
retune result. -/
def State.settleEarly (s : State) (k : ContextId) (ending : Ending) (stage : RetuneStage) : State :=
  let c := s.contexts[k]
  let s := if c.target = .backup then s.changeOpt c.newEntry .standby else s.releaseOpt c.newEntry
  (s.setLinkState c.link c.prior).writeResult k ending stage

/-- Asks for CANCEL to the unit whose PRELOAD has ended DONE, whatever units the link has now (R109). -/
def State.askCancel (s : State) (k : ContextId) (side : Side) (unit : Byte) : State :=
  s.askSlot { owner := .context k side, unit, command := [cmdCancel] }

/-- Asks for CANCEL to a unit, if its PRELOAD has ended DONE (R109). -/
def State.askCancelOf (s : State) (k : ContextId) (side : Side) : Option Byte → State
  | some u => s.askCancel k side u
  | none => s

/-- The closing of R109: CLOSING, each slot never begun withdrawn, and CANCEL to each unit whose PRELOAD ended DONE. The two
CANCELs are asked for at one moment, and R94 lets them join the allocation queue in either order: the rack unit's first is
the model's choice. DESIGN CHOICE (log 30). -/
def State.closeEarly (s : State) (k : ContextId) : State :=
  let c := s.contexts[k]
  let s := (s.setContext k { c with stage := .closing, newEntry := none, preloadRack := none, preloadPortable := none }).withdrawContext k
  ((s.askCancelOf k .rack c.preloadRack).askCancelOf k .portable c.preloadPortable).freeIfDone k

/-- The retune ends FAILED in PREPARE with cause PREPARE_FAILED (R108, R109). -/
def State.failPrepare (s : State) (k : ContextId) : State :=
  (((s.settleEarly k .failed .prepare).raiseFailed k .prepare .prepareFailed)).closeEarly k

/-- What the retune queue tells a context that returns its request (R88). -/
inductive Returned where
  | returned | merged | dropped
deriving DecidableEq, Repr

/-- The return of a request to the retune queue (R88). -/
def State.returnRetune (s : State) (l : LinkId) (target : Target) (reason : Reason) (force : Bool) : State × Returned :=
  if s.queued l then (s, .merged)
  else if s.retuneQueue.length < Config.retuneCap then
    ({ s with retuneQueue := s.retuneQueue ++
        [{ link := l, target, reason, force, held := s.links[l].holds reason force }] }, .returned)
  else (s, .dropped)

/-- A retune is given back because its link became live before commit (R116): settled under R109, returned to the retune
queue, and reported by RETUNE_HELD or RETUNE_DROPPED. -/
def State.giveBack (s : State) (k : ContextId) : State :=
  let c := s.contexts[k]
  let s := s.settleEarly k .returned c.stage.named
  let detail := u8 c.reason.code ++ u8 c.target.code ++ u32 c.target.freq
  let s := match s.returnRetune c.link c.target c.reason c.force with
    | (s, .returned) => s.raise .retuneHeld (linkByte c.link) detail
    | (s, .merged) => s
    | (s, .dropped) => s.raise .retuneDropped (linkByte c.link) detail
  s.closeEarly k

/-- Does FORCE or a lifted FADE exempt the context from its link's liveness (R110, R116)? -/
def State.exempt (s : State) (k : ContextId) : Bool :=
  let c := s.contexts[k]
  c.force || (c.reason == .fade && s.links[c.link].flags.switchWhenLive)

/-- A live change reaches a context (R116): before commit the retune is given back; after it nothing happens. An
uncommitted pair is withdrawn with the context's other slots. -/
def State.liveChange (s : State) (k : ContextId) : State :=
  let c := s.contexts[k]
  match c.stage with
  | .coordinate | .prepare => s.giveBack k
  | .switch => if c.committed then s else s.giveBack k
  | .free | .confirm | .revert | .closing => s

/-- Enters PREPARE with the new entry, and asks for both PRELOAD slots (R108). -/
def State.enterPrepare (s : State) (k : ContextId) (e : EntryId) : State :=
  let x := s.plan.carriers[e]
  let s := s.modContext k fun c => { c with stage := .prepare, newEntry := some e, newFreq := x.freq }
  let command := [cmdPreload] ++ u32 x.freq ++ u8 x.cls.code
  (s.askContext k .rack command false).askContext k .portable command false

/-- Enters SWITCH and asks for the two slots of its locked pair (R110). The switch frame is stamped at commit. -/
def State.enterSwitch (s : State) (k : ContextId) : State :=
  let s := s.modContext k fun c => { c with stage := .switch, completions := 0 }
  (s.askContext k .rack [cmdSwitch, 0, 0] true).askContext k .portable [cmdSwitch, 0, 0] true

/-- In REVERT, asks for the REVERT pair once the context holds no slot (R115). -/
def State.askRevert (s : State) (k : ContextId) : State :=
  if s.contexts[k].stage = .revert ∧ ¬ s.contexts[k].asked ∧ ¬ s.holdsSlot k then
    let s := s.modContext k fun c => { c with asked := true, completions := 0 }
    (s.askContext k .rack [cmdRevert, 0, 0] true).askContext k .portable [cmdRevert, 0, 0] true
  else s

/-- Enters REVERT with a cause (R111, R114). -/
def State.enterRevert (s : State) (k : ContextId) (cause : RevertCause) : State :=
  (s.modContext k fun c => { c with stage := .revert, cause, committed := false, frame := none, deadline := none
                                    asked := false, reverted := false }).askRevert k

/-- A retune ends FAILED after its switch frame with a link state and a cause (R114, R115). -/
def State.endFailed (s : State) (k : ContextId) (st : LinkState) (stage : RetuneStage) (cause : FailCause) : State :=
  (((s.setLinkState s.contexts[k].link st).writeResult k .failed stage).raiseFailed k stage cause).close k

/-- The settlement of R114: the old entry, if RETIRING, is released, and the link is LOST on its ACTIVE entry. -/
def State.endLost (s : State) (k : ContextId) (stage : RetuneStage) (cause : FailCause) : State :=
  (s.releaseOpt s.contexts[k].oldEntry).endFailed k .lost stage cause

/-- The move is confirmed (R113). -/
def State.confirmMove (s : State) (k : ContextId) : State :=
  let c := s.contexts[k]
  let s := ((s.releaseOpt c.oldEntry).setLinkState c.link .up).writeResult k .done .confirm
  let s := s.raise .retuneDone (linkByte c.link) (index c.newEntry ++ u8 c.target.code ++ u8 c.reason.code ++ u32 c.newFreq)
  let s := if c.target = .backup ∧ s.links[c.link].flags.autoBackup then s.autoPick c.link false else s
  s.close k

/-- A revert is confirmed: the link is UP, and the retune FAILED with cause REVERTED (R115). -/
def State.confirmRevert (s : State) (k : ContextId) : State := s.endFailed k .up .revert .reverted

/-- Is the context in CONFIRM or in the confirm part of REVERT (R112, R115)? -/
def Context.confirming (c : Context) : Bool := c.stage == .confirm || (c.stage == .revert && c.reverted)

/-- The move or the revert is confirmed, by the stage. -/
def State.confirm (s : State) (k : ContextId) : State :=
  if s.contexts[k].stage = .confirm then s.confirmMove k else s.confirmRevert k

/-- A mistune in a confirm stage ends the retune with cause MISTUNED (R114, R115). -/
def State.mistune (s : State) (k : ContextId) : State :=
  if s.contexts[k].stage = .confirm then s.endLost k .confirm .mistuned else s.endFailed k .lost .revert .mistuned

/-- The frequency a confirm stage wants, and the one it also accepts without effect (R127). -/
def State.confirmFreqs (s : State) (k : ContextId) : Nat × Option Nat :=
  let c := s.contexts[k]
  let old := c.oldEntry.map fun e => s.plan.carriers[e].freq
  if c.stage = .confirm then (c.newFreq, old) else (old.getD 0, some c.newFreq)

/-- A link without a profile is confirmed at a frame event after F (or F′) and before the one that reaches the confirm
deadline, without any sample (R112, R115). -/
def State.profilelessConfirm (s : State) (k : ContextId) : State :=
  let c := s.contexts[k]
  if c.confirming ∧ s.links[c.link].profile = none ∧ c.deadline ≠ some s.timing.frame then s.confirm k else s

/-- A slot of a context, to a unit, has ended with its final condition (R103, R108, R109, R115). -/
def State.contextSlotEnded (s : State) (k : ContextId) (side : Side) (unit command : Byte) (cond : Condition) : State :=
  let s := s.modContext k fun c => match side with
    | .rack => { c with rack := some cond }
    | .portable => { c with portable := some cond }
  match s.contexts[k].stage with
  | .prepare =>
    if command = cmdPreload then
      if cond = .done then
        let s := s.modContext k fun c => match side with
          | .rack => { c with preloadRack := some unit }
          | .portable => { c with preloadPortable := some unit }
        if s.contexts[k].preloadRack ≠ none ∧ s.contexts[k].preloadPortable ≠ none then s.enterSwitch k else s
      else s.failPrepare k
    else s
  | .revert => s.askRevert k
  | .closing =>
    let s := if command = cmdPreload ∧ cond = .done then s.askCancel k side unit else s
    s.freeIfDone k
  | .free | .coordinate | .switch | .confirm => s

/-- The context's ADMIT request has ended (R107, R109): in COORDINATE its outcome decides; in CLOSING an admitted entry is
released at once. -/
def State.coordEnded (s : State) (k : ContextId) (result : Result) (entry : Option EntryId) (m : CoordSummary) : State :=
  let s := s.modContext k fun c => { c with coordinating := false }
  if s.contexts[k].stage = .coordinate then
    let s := s.modContext k fun c => { c with summary := some m }
    match result, entry with
    | .pass, some e => s.enterPrepare k e
    | _, _ =>
      let s := s.settleEarly k .failed .coordinate
      (s.raise .retuneFailed (linkByte s.contexts[k].link) (summaryBytes (some m))).closeEarly k
  else (s.releaseOpt entry).freeIfDone k

/-- The lowest-numbered free context (R90). -/
def State.freeContext (s : State) : Option ContextId := (List.finRange 4).find? fun k => s.contexts[k].stage == .free

/-- The oldest entry that is not held and whose link is not served (R90). -/
def State.nextEntry (s : State) : Option QueueEntry :=
  s.retuneQueue.find? fun e => !e.held && (s.serving e.link).isNone

/-- A context takes an entry (R90, R106): it leaves the queue, a BACKUP without a STANDBY is taken as NEXT_CANDIDATE, the
link becomes ASSIGNING or RETUNING, and the context starts in PREPARE for BACKUP and in COORDINATE otherwise (R107). -/
def State.takeEntry (s : State) (k : ContextId) (e : QueueEntry) : State :=
  let s := { s with retuneQueue := s.retuneQueue.erase e }
  let r : Link := s.links[e.link]
  let target : Target := if e.target = .backup ∧ r.standby = none then .nextCandidate else e.target
  let s := s.setContext k { stage := .coordinate, link := e.link, target, reason := e.reason, force := e.force
                            prior := r.state, oldEntry := r.active }
  let s := s.setLinkState e.link (if r.state = .idle then .assigning else .retuning)
  match target, r.standby with
  | .backup, some b => (s.changeEntry b .reserved).enterPrepare k b
  | _, _ =>
    let s := s.modContext k fun c => { c with coordinating := true }
    s.placeCoord { kind := .admitCarrier, filer := .context k, link := some e.link, target, cls := r.cls }

/-- The selection of R90: a free context takes work, unless the agent is quiescing. -/
def State.contextTake (s : State) : State :=
  if s.agent.quiesce = .running then
    match s.freeContext, s.nextEntry with
    | some k, some e => s.takeEntry k e
    | _, _ => s
  else s

/-- The switch frame (R111): the carrier changes are made; with both cells complete the context enters CONFIRM, and a late
pair reverts, or ends an assignment. -/
def State.switchFrame (s : State) (k : ContextId) : State :=
  let c := s.contexts[k]
  if c.stage = .switch ∧ c.committed ∧ c.frame = some s.timing.frame then
    let s := (s.changeOpt c.newEntry .active).changeOpt c.oldEntry .retiring
    let s := s.restartMonitor c.link
    if 2 ≤ c.completions then
      s.modContext k fun c => { c with stage := .confirm, deadline := some (s.timing.frame + BitVec.ofNat 16 s.confirmWindow) }
    else if c.oldEntry = none then s.endLost k .switch .pairLate
    else s.enterRevert k .pairLate
  else s

/-- The confirm window expires (R114): a retune reverts, and an assignment ends FAILED with the link LOST. -/
def State.confirmDeadline (s : State) (k : ContextId) : State :=
  let c := s.contexts[k]
  if c.stage = .confirm ∧ c.deadline = some s.timing.frame then
    if c.oldEntry = none then s.endLost k .confirm .unconfirmed else s.enterRevert k .unconfirmed
  else s

/-- The revert frame (R115): the new entry is released and the old one restored; with both cells complete the revert
confirmation window runs, and otherwise the link is LOST at once. -/
def State.revertFrame (s : State) (k : ContextId) : State :=
  let c := s.contexts[k]
  if c.stage = .revert ∧ c.committed ∧ ¬ c.reverted ∧ c.frame = some s.timing.frame then
    let s := (s.releaseOpt c.newEntry).changeOpt c.oldEntry .active
    let s := s.restartMonitor c.link
    if 2 ≤ c.completions then
      s.modContext k fun c => { c with reverted := true, deadline := some (s.timing.frame + BitVec.ofNat 16 s.confirmWindow) }
    else s.endFailed k .lost .revert .revertLate
  else s

/-- The revert confirmation window expires (R115). -/
def State.revertExpiry (s : State) (k : ContextId) : State :=
  let c := s.contexts[k]
  if c.stage = .revert ∧ c.reverted ∧ c.deadline = some s.timing.frame then
    s.endFailed k .lost .revert .revertUnconfirmed
  else s

/-- ABORT RETUNE's part of the context (R117): the reply, and the retune CANCELLED where it is not committed. A link with
no context, or one in CLOSING, is answered by whether an entry was removed. -/
def State.abortContext (s : State) (l : LinkId) (removed : Bool) : State × Result :=
  let none? := if removed then Result.ok else Result.badState
  match s.serving l with
  | none => (s, none?)
  | some k =>
    let c := s.contexts[k]
    let cancel := fun (_ : Unit) =>
      let s := s.settleEarly k .cancelled c.stage.named
      let s := s.raise .retuneCancelled (linkByte l) (u8 c.stage.named.code ++ u8 (conditionCode c.rack) ++ u8 (conditionCode c.portable))
      (s.closeEarly k, Result.ok)
    match c.stage with
    | .coordinate | .prepare => cancel ()
    | .switch => if c.committed then (s, .tooLate) else cancel ()
    | .confirm | .revert => (s, .tooLate)
    | .free | .closing => (s, none?)

end Sys2Proof.Machine
end

