-- ==== Sys2Proof/Machine/Engine.lean ====
section
/-! DEFINITION. The coordination engine at work (R46, R47, R52, R63 to R69): the start of a request, the completion of an attempt, the candidate search, admission, and the handing over of the outcome. -/

namespace Sys2Proof.Machine

/-- The result code of a try, as the result record carries it (R68). -/
def TryResult.asResult : TryResult → Result
  | .pass => .pass | .fail => .fail | .planBusy => .planBusy

/-- What the record says when no try was made (R67, R68). R68 gives the snapped flag of the final attempt and no value for
the case with no attempt: that flag is a free value. DESIGN CHOICE (log 31). -/
def noTry : TryRecord :=
  { result := .fail, stage := 0, requested := 0, checked := 0, snapped := Config.noTrySnapped, margin := 65535, attempts := 0
    offence := {} }

/-- The coordination result record (R68). -/
def recordBytes (r : TryRecord) (gen : Half) (entry : Option EntryId) (tries : Nat) : List Byte :=
  u8 r.result.asResult.code ++ u8 r.stage ++ u32 r.requested ++ u32 r.checked ++ flagByte [r.snapped] ++ u16 r.margin
    ++ half gen ++ index entry ++ u8 r.attempts ++ u8 tries
    ++ [r.offence.a, r.offence.b, r.offence.c, r.offence.v]
    ++ u32 r.offence.other ++ u32 r.offence.distance ++ u32 r.offence.required

/-- A request ends: it leaves the queue, and its outcome is handed to its filer (R46, R47, R68, R69). -/
def State.endRequest (s : State) (q : CoordRequest) (result : Result) (entry : Option EntryId) (last : Option TryRecord)
    (tries : Nat) : State :=
  let s := { s with engine := { queue := s.engine.queue.tail, run := none } }
  let r := last.getD noTry
  match q.filer with
  | .context k => s.coordEnded k result entry { result := byteAt (u8 result.code) 0, stage := r.stage, checked := r.checked, gen := s.plan.gen }
  | .management id => s.answerId id result (recordBytes r s.plan.gen entry tries)
  | .auto =>
    match entry, q.link with
    | none, some l => s.raiseBackupLost l none 3 result.code
    | _, _ => s

/-- Is the purpose BLOCKED: a BLOCK request, or a CHECK that names no link (R52)? -/
def CoordRequest.forBlocked (q : CoordRequest) : Bool := q.kind == .block || (q.kind == .check && q.link.isNone)

/-- An attempt as it starts (R52, R43). -/
def State.newAttempt (s : State) (candidate count : Nat) (cls : CarrierClass) (blocked : Bool) : Attempt :=
  { candidate, count, gen := s.plan.gen, cls, blocked, bands := s.plan.bands, settings := s.plan.settings
    carriers := copyCarriers s.plan, foreign := s.scan.foreign.map (·.freq), stale := false }

/-- The working state of the request in progress. -/
def State.setRun (s : State) (r : Run) : State := { s with engine := { s.engine with run := some r } }

/-- The frequencies of a link's counted carriers as they stand (R67). -/
def State.linkFreqs (s : State) (l : Option LinkId) : List Nat :=
  ((List.finRange 96).filter fun e => s.plan.carriers[e].counted && l.isSome && decide (s.plan.carriers[e].link = l)).map
    fun e => s.plan.carriers[e].freq

/-- The lowest-numbered FREE entry, if any (R37, R46). -/
def State.freeEntry (s : State) : Option EntryId := (List.finRange 96).find? fun e => s.plan.carriers[e].state == .free

/-- Is the request's link UNUSED or IDLE (R46)? -/
def State.linkGone (s : State) (l : Option LinkId) : Bool :=
  match l with
  | some l => s.links[l].state == .unused || s.links[l].state == .idle
  | none => false

/-- The next visit of a candidate search (R67): listed frequencies of the link's own carriers are skipped; the first other
one is tried, and with none left the request ends NO_CANDIDATE with its last try. -/
def State.searchOn (s : State) (q : CoordRequest) (cls : CarrierClass) (list visits : List Nat) (tries : Nat)
    (last : Option TryRecord) : State :=
  match visits.dropWhile fun f => (s.linkFreqs q.link).contains f with
  | [] => s.endRequest q .noCandidate none last tries
  | f :: rest =>
    s.setRun { cls, list, visits := rest, tries := tries + 1, lastTry := last, attempt := s.newAttempt f 1 cls q.forBlocked }

/-- The class of a request: its link's as the request starts, or the one it carries (R44). -/
def State.requestClass (s : State) (q : CoordRequest) : CarrierClass :=
  match q.link with
  | some l => s.links[l].cls
  | none => q.cls

/-- The engine starts the oldest waiting request: the two entry tests, and its first try (R46, R65, R66). -/
def State.startRequest (s : State) : State :=
  match s.engine.run, s.engine.queue with
  | none, q :: _ =>
    if s.freeEntry = none ∧ q.kind ≠ .check then s.endRequest q .tableFull none none 0
    else if q.kind = .pickBackup ∧ s.linkGone q.link then s.endRequest q .badState none none 0
    else
      let cls := s.requestClass q
      match q.target with
      | .explicit f =>
        s.setRun { cls, list := [], visits := [], tries := 1, lastTry := none, attempt := s.newAttempt f 1 cls q.forBlocked }
      | .nextCandidate | .backup =>
        let list := match q.link with
          | some l => s.links[l].candidates
          | none => []
        let active := match q.link with
          | some l => s.activeFreq l
          | none => none
        s.searchOn q cls list (visitOrder list active) 0 none
  | _, _ => s

/-- The entry a request's admission writes (R37). -/
def admittedCarrier (q : CoordRequest) (cls : CarrierClass) (o : RawOutcome) : Carrier :=
  { state := match q.kind with
      | .pickBackup => .standby
      | .block => .blocked
      | .admitCarrier | .check => .reserved
    freq := o.checked, cls, link := if q.kind = .block then none else q.link, margin := o.margin, suspect := false
    snapped := o.snapped, band := o.band }

/-- An admission (R37, R46): the entry is written and the generation rises; for PICK_BACKUP the link records the new
STANDBY, and then its previous one is released. -/
def State.admitCarrier (s : State) (q : CoordRequest) (e : EntryId) (cls : CarrierClass) (o : RawOutcome) : State :=
  let s := (s.setCarrier e (admittedCarrier q cls o)).bumpGen
  match q.kind, q.link with
  | .pickBackup, some l =>
    let old := s.links[l].standby
    (s.modLink l fun r => { r with standby := some e }).releaseOpt old
  | _, _ => s

/-- What is kept of a try that ended with its raw outcome, or in PLAN_BUSY (R63, R68). -/
def tryRecord (t : Attempt) (result : TryResult) : TryRecord :=
  let o := evaluate t
  { result, stage := if result = .fail then o.stage else 0, requested := t.candidate, checked := o.checked
    snapped := o.snapped, margin := if result = .planBusy then 65535 else o.margin, attempts := t.count
    offence := if result = .fail then o.offence else {} }

/-- A try ends FAIL or PLAN_BUSY: an EXPLICIT request ends with it, and a search goes on (R64, R65, R67), whether or not the
link of a PICK_BACKUP has been released meanwhile (log 43). -/
def State.tryFailed (s : State) (q : CoordRequest) (r : Run) (tr : TryRecord) : State :=
  match q.target with
  | .explicit _ => s.endRequest q tr.result.asResult none (some tr) r.tries
  | .nextCandidate | .backup => s.searchOn q r.cls r.list r.visits r.tries (some tr)

/-- A try passes: the request ends by its kind (R64). -/
def State.tryPassed (s : State) (q : CoordRequest) (r : Run) : State :=
  let tr := tryRecord r.attempt .pass
  if q.kind = .check then s.endRequest q .pass none (some tr) r.tries
  else if q.kind = .pickBackup ∧ s.linkGone q.link then s.endRequest q .badState none (some tr) r.tries
  else
    match s.freeEntry with
    | none => s.endRequest q .tableFull none (some tr) r.tries
    | some e => (s.admitCarrier q e r.cls (evaluate r.attempt)).endRequest q .pass (some e) (some tr) r.tries

/-- The completion of an attempt (R63): on a changed generation or a stale mark the outcome is discarded and the attempt
repeated, at most three in a try; otherwise the raw outcome stands. -/
def State.completeAttempt (s : State) : State :=
  match s.engine.run, s.engine.queue with
  | some r, q :: _ =>
    let t := r.attempt
    if t.gen ≠ s.plan.gen ∨ t.stale then
      if t.count < 3 then s.setRun { r with attempt := s.newAttempt t.candidate (t.count + 1) r.cls q.forBlocked }
      else s.tryFailed q r (tryRecord t .planBusy)
    else if (evaluate t).stage = 0 then s.tryPassed q r
    else s.tryFailed q r (tryRecord t .fail)
  | _, _ => s

/-- An accepted BAND write or CONFIG write of a coordination setting marks the attempt in progress stale (R43). -/
def State.markStale (s : State) : State :=
  { s with engine := { s.engine with run := s.engine.run.map fun r => { r with attempt := { r.attempt with stale := true } } } }

/-- A counted carrier other than a BLOCKED one exists (R42). -/
def State.planInUse (s : State) : Bool :=
  s.plan.carriers.toList.any fun c => c.counted && c.state != .blocked

end Sys2Proof.Machine
end

