-- ==== Sys2Proof/Machine/Scan.lean ====
section
/-! DEFINITION. The scan engine (chapter 08): the plan of a scan, segments, points and detections, the foreign list with merging, replacement and aging, and the foreign-conflict rule. -/

namespace Sys2Proof.Machine

/-- A sweep receiver's part of the scan. -/
def State.sweeper (s : State) : Receiver → Sweeper
  | .a => s.scan.recvA
  | .b => s.scan.recvB

def State.setSweeper (s : State) (r : Receiver) (x : Sweeper) : State :=
  match r with
  | .a => { s with scan := { s.scan with recvA := x } }
  | .b => { s with scan := { s.scan with recvB := x } }

/-- A sweep receiver's address, 0 for none (R141). -/
def State.recvAddress (s : State) : Receiver → Byte
  | .a => s.scan.settings.recvA
  | .b => s.scan.settings.recvB

/-- The segments from index `lo` up to below `hi`, up to the first disabled one (R142). -/
def State.enabledRun (s : State) (lo hi : Nat) : List (Fin 16) :=
  ((List.finRange 16).filter fun i => lo ≤ i.val && i.val < hi).takeWhile fun i => s.scan.segments[i].enabled

/-- The half of the scan list a receiver sweeps; none for a receiver that is 0 (R142). -/
def State.sweepHalf (s : State) (r : Receiver) : List (Fin 16) :=
  if s.recvAddress r = 0 then []
  else
    match r, s.scan.settings.parallel with
    | .a, false => s.enabledRun 0 16
    | .a, true => s.enabledRun 0 8
    | .b, false => []
    | .b, true => s.enabledRun 8 16

/-- Has a scan segments to sweep (R142)? -/
def State.hasSegments (s : State) : Bool := !(s.sweepHalf .a).isEmpty || !(s.sweepHalf .b).isEmpty

/-- The SWEEP_SEGMENT command of a segment (01 section 1.2). -/
def sweepCommand (g : Segment) : List Byte := [cmdSweepSegment] ++ u32 g.start ++ u32 g.stop ++ u16 g.step

/-- A receiver starts the next segment of its half, or its half is done (R144). -/
def State.startSegment (s : State) (r : Receiver) : State :=
  match (s.sweeper r).todo with
  | [] => s.setSweeper r {}
  | g :: rest =>
    (s.setSweeper r { current := some g, todo := rest, results := [] }).askSlot
      { owner := .scan r, unit := s.recvAddress r, command := sweepCommand s.scan.segments[g] }

/-- A scan begins (R142, R143). The receivers of a PARALLEL scan ask for their first slots at one moment, and R94 lets them
join the allocation queue in either order: receiver A first is the model's choice. DESIGN CHOICE (log 30). -/
def State.beginScan (s : State) : State :=
  let a := s.sweepHalf .a
  let b := s.sweepHalf .b
  let s := { s with scan := { s.scan with number := s.scan.number + 1, state := .scanning, failedRanges := []
                                          done := 0, failed := 0, inserted := 0, removed := 0
                                          recvA := { todo := a }, recvB := { todo := b } } }
  (s.startSegment .a).startSegment .b

/-- START_IGNORED: the scan state and the source, 1 for START and 2 for a trigger (R143). -/
def State.raiseStartIgnored (s : State) (source : Nat) : State :=
  s.raise .startIgnored 0 (u8 s.scan.state.code ++ u8 source)

/-- A trigger (R143). -/
def State.scanTrigger (s : State) : State :=
  match s.scan.state with
  | .idle => if s.hasSegments ∧ s.agent.quiesce = .running then s.beginScan else s
  | .scanning => s.raiseStartIgnored 2
  | .stopped => s

/-! ### Detections (R145) -/

/-- Does a frequency lie within the occupied range of a counted carrier (R145 step 3, R146 step 1)? -/
def State.planOwn (s : State) (f : Nat) : Bool :=
  s.plan.carriers.toList.any fun c => c.counted && decide (apart f c.freq ≤ c.cls.bandwidth / 2)

/-- The position of the nearest listed frequency within a width, the lower in frequency on a tie. -/
def nearestWithin (f width : Nat) (fs : List Nat) : Option Nat :=
  ((fs.zipIdx.filter fun p => apart f p.1 ≤ width).foldl (fun best p =>
    match best with
    | none => some p
    | some q =>
      if apart f p.1 < apart f q.1 ∨ (apart f p.1 = apart f q.1 ∧ p.1 < q.1) then some p else some q) none).map (·.2)

/-- The position of the lowest level, the lower in frequency on a tie; the list gives frequency and level. -/
def lowestLevel (xs : List (Nat × Int)) : Option Nat :=
  (xs.zipIdx.foldl (fun best p =>
    match best with
    | none => some p
    | some q => if p.1.2 < q.1.2 ∨ (p.1.2 = q.1.2 ∧ p.1.1 < q.1.1) then some p else some q) none).map (·.2)

/-- A point that is no signal of the plan's enters the result list: it updates the nearest detection within the merge
width, becomes a new one, or replaces the lowest in a full list (R145 steps 4 to 6). -/
def addDetection (width : Nat) (ds : List Detection) (f : Nat) (level : Int) : List Detection :=
  match nearestWithin f width (ds.map (·.freq)) with
  | some p => ds.modify p fun d => { d with level := max d.level level }
  | none =>
    if ds.length < Config.foreignCap then ds ++ [{ freq := f, level }]
    else
      match lowestLevel (ds.map fun d => (d.freq, d.level)) with
      | some p => if ds[p]?.any (·.level < level) then ds.set p { freq := f, level } else ds
      | none => ds

/-- The engine takes one point of a segment (R145). A level byte of 1 to 127 is above 0 dBm, which no point should report
(R148), and no rule says what is done with it: the point is taken and kept as it stands. DESIGN CHOICE (log 37). -/
def State.takePoint (s : State) (r : Receiver) (g : Segment) (stepIndex : Nat) (level : Int) : State :=
  let f := g.start + stepIndex * g.step
  if f > g.stop ∨ level = -128 ∨ level < s.scan.settings.threshold ∨ s.planOwn f then s
  else
    let x := s.sweeper r
    s.setSweeper r { x with results := addDetection s.scan.settings.mergeWidth x.results f level }

/-- The points of a SWEEP cell, three bytes each: step index and level (01 section 1.2). -/
def sweepPoints (data : List Byte) : List (Nat × Int) :=
  (List.range (u8At data 1)).map fun i => (u16At data (2 + 3 * i), s8At data (4 + 3 * i))

/-- The engine takes a SWEEP cell of a slot whose discard mark is clear (R145): a segment index that is not the receiver's
current segment discards its points. -/
def State.takeSweep (s : State) (r : Receiver) (data : List Byte) : State :=
  match (s.sweeper r).current with
  | some g =>
    if u8At data 0 = g.val then
      (sweepPoints data).foldl (fun s p => s.takePoint r s.scan.segments[g] p.1 p.2) s
    else s
  | none => s

/-- A re-send sets aside the points already received (R145). -/
def State.setAside (s : State) (r : Receiver) : State := s.setSweeper r { s.sweeper r with results := [] }

/-! ### The foreign list (R146, R148) -/

/-- FOREIGN_GONE: frequency, peak level, cause (1 AGED, 2 REPLACED) and last-seen scan (R148). -/
def State.raiseGone (s : State) (position : Nat) (x : Foreign) (cause : Nat) : State :=
  s.raise .foreignGone (byteAt (u8 position) 0) (u32 x.freq ++ s8 x.peak ++ u8 cause ++ half x.lastSeen)

def State.setForeign (s : State) (xs : List Foreign) : State := { s with scan := { s.scan with foreign := xs } }

/-- Sets SUSPECT on an entry (R40). -/
def State.setSuspect (s : State) (e : EntryId) : State := s.setCarrier e { s.plan.carriers[e] with suspect := true }

/-- FOREIGN_ON_CARRIER: entry, its state, the foreign frequency and peak level (R149). -/
def State.raiseOnCarrier (s : State) (e : EntryId) (x : Foreign) : State :=
  let c := s.plan.carriers[e]
  s.raise .foreignOnCarrier (indexByte c.link) (index (some e) ++ u8 c.state.code ++ u32 x.freq ++ s8 x.peak)

/-- The foreign-conflict rule for one carrier (R149). -/
def State.conflictWith (s : State) (x : Foreign) (update : Bool) (e : EntryId) : State :=
  let c := s.plan.carriers[e]
  match c.state with
  | .standby =>
    let s := s.releaseEntry e
    match c.link with
    | some l =>
      let s := s.raiseBackupLost l (some e) 1 0
      if s.links[l].flags.autoBackup then s.autoPick l true else s
    | none => s
  | .active =>
    if update ∧ c.suspect then s
    else
      let s := (s.setSuspect e).raiseOnCarrier e x
      match c.link with
      | some l => if s.links[l].flags.autoAvoid then (s.autoFile l .nextCandidate .foreign).1 else s
      | none => s
  | .reserved | .retiring => if update then s else s.raiseOnCarrier e x
  | .blocked | .free => s

/-- The counted carriers at a distance below b/2 + G_F from a foreign frequency, in ascending entry index (R149). -/
def State.conflicts (s : State) (f : Nat) : List EntryId :=
  (List.finRange 96).filter fun e => s.plan.carriers[e].counted
    && apart f s.plan.carriers[e].freq < s.plan.carriers[e].cls.bandwidth / 2 + s.plan.settings.gF

/-- The foreign-conflict rule (R149). -/
def State.foreignConflict (s : State) (x : Foreign) (update : Bool) : State :=
  (s.conflicts x.freq).foldl (fun s e => s.conflictWith x update e) s

/-- A detection is inserted at its place (R146 step 3). -/
def State.insertForeign (s : State) (d : Detection) : State :=
  let x : Foreign := { freq := d.freq, peak := d.level, lastSeen := s.scan.number, misses := 0 }
  let p := (s.scan.foreign.filter (·.freq < d.freq)).length
  let s := (s.setForeign (s.scan.foreign.insertIdx p x)).bumpGen
  let s := { s with scan := { s.scan with inserted := s.scan.inserted + 1 } }
  let s := s.raise .foreignNew (byteAt (u8 p) 0) (u32 d.freq ++ s8 d.level ++ half s.scan.number)
  s.foreignConflict x false

/-- Removes the entry at a position, with FOREIGN_GONE, and the generation rises (R146, R148). -/
def State.removeForeign (s : State) (p : Nat) (x : Foreign) (cause : Nat) : State :=
  let s := (s.setForeign (s.scan.foreign.eraseIdx p)).bumpGen
  ({ s with scan := { s.scan with removed := s.scan.removed + 1 } }).raiseGone p x cause

/-- One detection of a segment applied to the foreign list (R146). -/
def State.applyDetection (s : State) (d : Detection) : State :=
  if s.planOwn d.freq then s
  else
    match nearestWithin d.freq s.scan.settings.mergeWidth (s.scan.foreign.map (·.freq)) with
    | some p =>
      match s.scan.foreign[p]? with
      | some x =>
        let x := { x with peak := max x.peak d.level, misses := 0, lastSeen := s.scan.number }
        (s.setForeign (s.scan.foreign.set p x)).foreignConflict x true
      | none => s
    | none =>
      if s.scan.foreign.length < Config.foreignCap then s.insertForeign d
      else
        match lowestLevel (s.scan.foreign.map fun x => (x.freq, x.peak)) with
        | some p =>
          match s.scan.foreign[p]? with
          | some x => if x.peak < d.level then (s.removeForeign p x 2).insertForeign d else s
          | none => s
        | none => s

/-- A detection inserted in ascending frequency. -/
def insertDetection (d : Detection) : List Detection → List Detection
  | [] => [d]
  | x :: xs => if d.freq ≤ x.freq then d :: x :: xs else x :: insertDetection d xs

/-- Detections in ascending frequency (R146). -/
def sortDetections (ds : List Detection) : List Detection := ds.foldr insertDetection []

/-- One more miss for each entry not seen in this scan and not within a failed range (R148). -/
def Scan.aged (c : Scan) : List Foreign :=
  c.foreign.map fun x =>
    if x.lastSeen ≠ c.number ∧ ¬ (c.failedRanges.any fun r => r.1 ≤ x.freq && x.freq ≤ r.2) then { x with misses := x.misses + 1 }
    else x

/-- Removes the entries whose misses are at or above the age limit (R148); `p` is the position reached. R148 gives no order
for several removals at one scan end: they are made in ascending frequency, so that each FOREIGN_GONE carries the position
in the list as the removals before it have left it. DESIGN CHOICE (log 36). -/
def State.removeAged (s : State) (p : Nat) : List Foreign → State
  | [] => s
  | x :: xs =>
    if s.scan.settings.ageLimit ≤ x.misses then (s.removeForeign p x 1).removeAged p xs else s.removeAged (p + 1) xs

/-- A count of SCAN_DONE in one byte; what it holds above 255 is a free value. DESIGN CHOICE (log 35). -/
def scanCountByte (n : Nat) : Byte := if n < 256 then BitVec.ofNat 8 n else Config.scanCountOver n

/-- SCAN_DONE (R148). -/
def State.raiseScanDone (s : State) : State :=
  s.raise .scanDone 0 (half s.scan.number ++ u8 s.scan.done ++ u8 s.scan.failed ++ u8 s.scan.foreign.length
    ++ [scanCountByte s.scan.inserted, scanCountByte s.scan.removed])

/-- The aging of a scan's end (R148). -/
def State.ageForeign (s : State) : State := (s.setForeign s.scan.aged).removeAged 0 s.scan.aged

/-- Does a scan that has ended begin anew: LOOP with the agent RUNNING (R148)? -/
def State.loops (s : State) : Bool :=
  s.scan.settings.mode == .loop && s.agent.quiesce == .running && s.hasSegments

/-- The state after SCAN_DONE: a new scan, or IDLE, with the drain condition tested (R148, R193). -/
def State.afterScan (s : State) : State :=
  let s := { s with scan := { s.scan with state := .idle } }
  if s.loops then s.beginScan else s.testDrain

/-- A scan ends normally: aging, SCAN_DONE, and its next state (R148). -/
def State.endScan (s : State) : State := s.ageForeign.raiseScanDone.afterScan

/-- Are both halves done (R144)? -/
def State.scanOver (s : State) : Bool := s.scan.recvA.current.isNone && s.scan.recvB.current.isNone

/-- A segment's slot ended DONE: its results are applied in ascending frequency (R146). -/
def State.segmentDone (s : State) (r : Receiver) : State :=
  let s := (sortDetections (s.sweeper r).results).foldl State.applyDetection s
  let s := s.setAside r
  { s with scan := { s.scan with done := s.scan.done + 1 } }

/-- A segment's slot ended otherwise: the segment has failed (R147). -/
def State.segmentFailed (s : State) (r : Receiver) (i : Fin 16) (cond : Condition) : State :=
  let s := (s.setAside r).raise .scanSegmentFailed (byteAt (u8 i.val) 0) (u8 r.code ++ u8 cond.code ++ half s.scan.number)
  { s with scan := { s.scan with failedRanges := s.scan.failedRanges ++ [(s.scan.segments[i].start, s.scan.segments[i].stop)]
                                 failed := s.scan.failed + 1 } }

/-- The ending of a scan slot whose discard mark is clear closes the segment; the receiver goes on to the next, and with
both halves done the scan ends (R144, R146, R147). -/
def State.segmentEnded (s : State) (r : Receiver) (cond : Condition) : State :=
  match (s.sweeper r).current with
  | some i =>
    let s := if cond = .done then s.segmentDone r else s.segmentFailed r i cond
    let s := s.startSegment r
    if s.scan.state = .scanning ∧ s.scanOver then s.endScan else s
  | none => s

/-- SCAN STOP (R150): waiting slot requests are withdrawn, allocated slots run on with their discard mark set, and the
drain condition is tested (R193). -/
def State.stopScan (s : State) : State :=
  if s.scan.state = .scanning then
    let scanOwned := fun (o : Owner) => match o with
      | .scan _ => true
      | .context _ _ | .tally _ | .relay _ => false
    let s := { s with unit := { s.unit with
      waiting := s.unit.waiting.filter fun q => !scanOwned q.owner
      slots := mapTable s.unit.slots fun _ x => if x.owner.any scanOwned then { x with discard := true } else x } }
    ({ s with scan := { s.scan with state := .stopped, recvA := {}, recvB := {} } }).testDrain
  else { s with scan := { s.scan with state := .stopped } }

end Sys2Proof.Machine
end

