-- ==== Sys2Proof/Machine/Tally.lean ====
section
/-! DEFINITION. The tally processor (chapter 09): TALLY cells, application at the frame event, live flags, lamp lines, camera displays and the stale condition. -/

namespace Sys2Proof.Machine

/-- Does a source state make a link live and light a PROGRAM line (section 9.1)? -/
def TallyState.onProgram : TallyState → Bool
  | .program | .both => true
  | .off | .preview => false

/-- Does a source state light a PREVIEW line (section 9.1)? -/
def TallyState.onPreview : TallyState → Bool
  | .preview | .both => true
  | .off | .program => false

/-- The states that light a line of a mode (R159). -/
def LampMode.accepts : LampMode → TallyState → Bool
  | .program, t => t.onProgram
  | .preview, t => t.onPreview
  | .either, t => t.onProgram || t.onPreview

/-! ### Camera displays (section 9.4) -/

/-- Is a link's camera tally record in use (R160)? -/
def State.cameraInUse (s : State) (l : LinkId) : Bool := s.links[l].kind == .camera && s.links[l].state != .unused

/-- Starts a TALLY_SET transaction for a display, to the link's portable unit (R161). -/
def State.startTally (s : State) (l : LinkId) (d : Display) : State :=
  (s.setCamera l { s.tally.cameras[l] with busy := true, sent := d }).askSlot
    { owner := .tally l, unit := s.links[l].portable, command := [cmdTallySet] ++ u8 d.code }

/-- Sets a record's wanted display; one that differs from the target becomes the target and is sent, or latched behind a
transaction in progress (R161). -/
def State.setWanted (s : State) (l : LinkId) (d : Display) : State :=
  let c := s.tally.cameras[l]
  if c.target = some d then s.setCamera l { c with wanted := d }
  else if c.busy then s.setCamera l { c with wanted := d, target := some d, latched := some d }
  else (s.setCamera l { c with wanted := d, target := some d }).startTally l d

/-- A camera's TALLY_SET transaction has ended (R162). -/
def State.tallySlotEnded (s : State) (l : LinkId) (unit : Byte) (cond : Condition) : State :=
  let c := s.tally.cameras[l]
  if !s.cameraInUse l then s.setCamera l { c with busy := false, latched := none }
  else if unit ≠ s.links[l].portable then
    let s := s.setCamera l { c with busy := false, latched := none }
    match c.target with
    | some d => s.startTally l d
    | none => s
  else
    let delivered := if cond = .done then some c.sent else c.delivered
    let s := s.setCamera l { c with busy := false, latched := none, delivered, unconfirmed := decide (cond ≠ .done) }
    let s := if cond = .done then s
      else s.raise .tallyUndelivered (linkByte l) (u8 c.sent.code ++ u8 cond.code ++ [unit])
    match c.latched with
    | some d => if delivered = some d then s else s.startTally l d
    | none => s

/-- The unit channel reports a START from a unit (R163). -/
def State.tallyUnitStart (s : State) (unit : Byte) : State :=
  (List.finRange 80).foldl (fun s l =>
    let c := s.tally.cameras[l]
    if s.cameraInUse l ∧ s.links[l].portable = unit ∧ ¬ c.busy then
      match c.target with
      | some d => s.startTally l d
      | none => s
    else s) s

/-! ### What an application works out (R158, R159, R161) -/

/-- Does a source in one of some states list the link in the map in effect? -/
def Tally.listed (t : Tally) (l : LinkId) (p : TallyState → Bool) : Bool :=
  (List.finRange 64).any fun i => p t.applied[i] && t.inEffect[i].links.contains l

/-- Is the link live by tally (R158)? -/
def Tally.liveByTally (t : Tally) (l : LinkId) : Bool := t.listed l TallyState.onProgram

/-- The wanted display of a camera (R161). -/
def Tally.display (t : Tally) (l : LinkId) : Display :=
  if t.liveByTally l then .red else if t.listed l TallyState.onPreview then .green else .off

/-- Is lamp line n lit (R159)? -/
def Tally.lit (t : Tally) (n : Fin 16) : Bool :=
  (List.finRange 64).any fun i => t.inEffect[i].lamps.getLsbD n.val && t.lamps[n].inEffect.accepts t.applied[i]

/-- Sets every lamp line's level. -/
def State.setLamps (s : State) (level : Fin 16 → Bool) : State :=
  { s with tally := { s.tally with lamps := mapTable s.tally.lamps fun n x => { x with on := level n } } }

/-- Sets the wanted display of every camera record in use (R161). The TALLY_SET requests of several cameras are made at one
moment, and R94 lets them join the allocation queue in either order: ascending link identifier is the model's choice.
DESIGN CHOICE (log 30). -/
def State.setDisplays (s : State) (d : LinkId → Display) : State :=
  (List.finRange 80).foldl (fun s l => if s.cameraInUse l then s.setWanted l (d l) else s) s

/-- Works out one link's live flag; a change is told to the retune queue and to the context serving the link (R158, R87,
R116). -/
def State.workLive (s : State) (l : LinkId) : State :=
  let live := s.tally.liveByTally l || s.links[l].always
  if live = s.links[l].live then s
  else
    let s := (s.modLink l fun r => { r with live }).reevaluate l
    match s.serving l with
    | some k => if live ∧ ¬ s.exempt k then s.liveChange k else s
    | none => s

/-- The sets, map, modes and always_live flags take their new values (R157). -/
def State.adopt (s : State) : State :=
  { s with tally := { s.tally with applied := s.tally.pendingSet, inEffect := s.tally.written
                                   lamps := mapTable s.tally.lamps fun _ x => { x with inEffect := x.written } }
           links := mapTable s.links fun _ r => { r with always := r.flags.alwaysLive } }

/-- An application (R157): the new values, then the live flags, the lamp lines and the displays, in turn. R158 and R116 give
no order in which the links whose live flags change are told to the retune queue and to their contexts, and so none for the
RETUNE_HELD notices and for the requests given back at the queue's tail: ascending link identifier is the model's choice.
DESIGN CHOICE (log 34). -/
def State.applyTally (s : State) : State :=
  let s := (List.finRange 80).foldl State.workLive s.adopt
  let s := s.setLamps s.tally.lit
  s.setDisplays s.tally.display

/-- The stale action as it stands (R165). -/
def State.staleAction (s : State) : State :=
  match s.tally.action with
  | .hold =>
    let s := s.setLamps s.tally.lit
    s.setDisplays s.tally.display
  | .dark => (s.setLamps fun _ => false).setDisplays fun _ => .off

/-- The tally processor at a frame event (R156): the count rises; while stale the action is applied; an application is made
unless the count has reached the timeout, which is the step TALLY_TIMEOUT. -/
def State.tallyFrame (s : State) : State :=
  let s := { s with tally := { s.tally with count := min 255 (s.tally.count + 1) } }
  if s.tally.stale then
    ({ s with tally := { s.tally with staleFrames := s.tally.staleFrames + 1 } }).staleAction
  else if s.tally.timeout ≤ s.tally.count then s
  else s.applyTally

/-- The processor becomes stale (R164). -/
def State.tallyTimeout (s : State) : State :=
  if ¬ s.tally.stale ∧ s.tally.timeout ≤ s.tally.count then
    let s := { s with tally := { s.tally with stale := true, staleFrames := 1 } }
    (s.raise .tallyStale 0 (u8 s.tally.count ++ u8 s.tally.action.code)).staleAction
  else s

/-! ### TALLY cells (R153) -/

/-- A source number 1-64 as its index. -/
def sourceOf? (n : Nat) : Option (Fin 64) := if 1 ≤ n then indexOf? 64 (n - 1) else none

/-- The state of entry `j` of a TALLY cell with `n` entries: four to a byte, the first in bits 7-6 (01 section 1.2). -/
def tallyEntryState (data : List Byte) (n j : Nat) : TallyState :=
  TallyState.ofCode (u8At data (n + 1 + j / 4) / 4 ^ (3 - j % 4))

/-- Takes the entries of a TALLY cell in order; a source outside 1-64 is skipped (R153). -/
def takeTallyEntries (data : List Byte) (n : Nat) (set : Vector TallyState 64) : Vector TallyState 64 :=
  (List.range n).foldl (fun set j =>
    match sourceOf? (u8At data (1 + j)) with
    | some i => put set i (tallyEntryState data n j)
    | none => set) set

/-- TALLY_RESUMED's count in two bytes; what they hold above 65,535 is a free value (log 14). -/
def staleFramesField (n : Nat) : Half := if n < 65536 then BitVec.ofNat 16 n else Config.staleFramesOver n

/-- A TALLY cell changes the pending set by its mode, resets the count, and ends a stale condition (R153, R165). -/
def State.takeTally (s : State) (data : List Byte) : State :=
  let n := u8At data 0 % 32
  let base := if flagAt data 0 7 then s.tally.pendingSet else Vector.replicate 64 TallyState.off
  let s := { s with tally := { s.tally with pendingSet := takeTallyEntries data n base, count := 0 } }
  if s.tally.stale then
    let s := { s with tally := { s.tally with stale := false } }
    s.raise .tallyResumed 0 (half (staleFramesField s.tally.staleFrames))
  else s

end Sys2Proof.Machine
end

