-- ==== Sys2Proof/Machine/Monitor.lean ====
section
/-! DEFINITION. The link monitor (chapter 07): the sample of a TELEMETRY cell, the level, lock and quality filters, the battery test, the monitor events, silence and the return from LOST. -/

namespace Sys2Proof.Machine

/-- The link a TELEMETRY cell belongs to: not UNUSED, with the cell's source as rack unit and its channel (R126). -/
def State.matchLink (s : State) (src : Byte) (chan : Nat) : Option LinkId :=
  (List.finRange 80).find? fun l => s.links[l].state != .unused && s.links[l].rack == src && s.links[l].chan == chan

/-- The corrected level (R128): "no signal" is not corrected. -/
def correctedLevel (raw offset : Int) : Int := if raw = -128 then -128 else clampInt (-127) 0 (raw + offset)

/-- The side of a corrected level (R128). -/
def Profile.sideOf (p : Profile) (level : Int) : LevelSide :=
  if level < p.low then .low else if level ≤ p.high then .normal else .high

/-- The sample a TELEMETRY cell carries (01 section 1.2, R124). A level above 0 dBm, a quality above 100 and a battery of 101 to
254 lie outside their fields' ranges, and no rule says what the part does with them: they are kept, and judged, as carried.
DESIGN CHOICE (log 45). -/
def State.sampleOf (s : State) (l : LinkId) (data : List Byte) : Sample :=
  let raw := s8At data 5
  { raw, corrected := correctedLevel raw s.links[l].offset, quality := u8At data 6, battery := u8At data 7
    lock := flagAt data 0 7, freq := u32At data 1, arrival := s.timing.frame, fresh := true }

/-- Stores a sample; every matched sample sets the frames since last sample to 0 (R124, R126). -/
def State.storeSample (s : State) (l : LinkId) (x : Sample) : State :=
  ({ s with samples := put s.samples l x }).setMonitor l { s.monitors[l] with silence := 0 }

/-! ### Filters (R129, R130, R131) -/

/-- The level filter (R129). -/
def Monitor.levelFilter (m : Monitor) (p : Profile) (side : LevelSide) : Monitor :=
  let m := if side = m.side then { m with run := 0, runSide := m.side }
    else if side = m.runSide ∧ 0 < m.run then { m with run := min 8 (m.run + 1) }
    else { m with runSide := side, run := 1 }
  if p.levelCount ≤ m.run then { m with side := m.runSide, run := 0 } else m

/-- The lock test (R130). -/
def Monitor.lockTest (m : Monitor) (p : Profile) (lock : Bool) : Monitor :=
  if lock then { m with lockRun := 0, lockLost := false }
  else
    let run := min 8 (m.lockRun + 1)
    { m with lockRun := run, lockLost := m.lockLost || decide (p.levelCount ≤ run) }

/-- The quality filter (R131). -/
def Monitor.qualityFilter (m : Monitor) (p : Profile) (x : Sample) : Monitor :=
  if x.lock ∧ m.side ≠ .low then
    if decide (x.quality < p.qualityLimit) = m.poor then { m with qualityRun := 0 }
    else if p.qualityCount ≤ min 8 (m.qualityRun + 1) then { m with poor := !m.poor, qualityRun := 0 }
    else { m with qualityRun := min 8 (m.qualityRun + 1) }
  else m

/-! ### Tests and events -/

/-- LOCK_LOST when the lock-lost condition becomes set (R130). -/
def State.lockTest (s : State) (l : LinkId) (p : Profile) (x : Sample) : State :=
  let m := s.monitors[l]
  let m' := m.lockTest p x.lock
  let s := s.setMonitor l m'
  if m'.lockLost ∧ ¬ m.lockLost then s.raise .lockLost (linkByte l) (u32 x.freq) else s

/-- The battery test (R132). -/
def State.batteryTest (s : State) (l : LinkId) (p : Profile) (x : Sample) : State :=
  let m := s.monitors[l]
  if x.battery = 255 then s
  else if x.battery < p.battery then
    if m.batteryLow then s
    else (s.setMonitor l { m with batteryLow := true }).raise .batteryLow (linkByte l) (u8 x.battery ++ u8 p.battery)
  else s.setMonitor l { m with batteryLow := false }

/-- The battery test of a link that has a profile (R126, R132). -/
def State.batteryTestOf (s : State) (l : LinkId) (x : Sample) : State :=
  match s.links[l].profile with
  | some p => s.batteryTest l s.profiles[p] x
  | none => s

/-- Does a selection include a direction (R135)? -/
def Direction.includes (d : Direction) (rising : Bool) : Bool :=
  match d with
  | .both => true
  | .none => false
  | .rise => rising
  | .fall => !rising

/-- A crossing of the low limit (R135). -/
def State.crossLow (s : State) (l : LinkId) (p : Profile) (x : Sample) (rising : Bool) : State :=
  let s := s.setMonitor l { s.monitors[l] with lowCrossed := true }
  if p.lowDir.includes rising then s.raise .lowLimit (linkByte l) (bit rising ++ s8 x.corrected ++ s8 p.low) else s

/-- A crossing of the high limit (R135). -/
def State.crossHigh (s : State) (l : LinkId) (p : Profile) (x : Sample) (rising : Bool) : State :=
  let s := s.setMonitor l { s.monitors[l] with highCrossed := true }
  if p.highDir.includes rising then s.raise .highLimit (linkByte l) (bit rising ++ s8 x.corrected ++ s8 p.high) else s

/-- OVERLOAD (R135). -/
def State.overload (s : State) (l : LinkId) (x : Sample) : State := s.raise .overload (linkByte l) (s8 x.corrected)

/-- The crossings of a change of recognized side (R135). -/
def State.crossings (s : State) (l : LinkId) (p : Profile) (x : Sample) (before after : LevelSide) : State :=
  match before, after with
  | .normal, .low => s.crossLow l p x false
  | .low, .normal => s.crossLow l p x true
  | .normal, .high => (s.crossHigh l p x true).overload l x
  | .high, .normal => s.crossHigh l p x false
  | .low, .high => ((s.crossLow l p x true).crossHigh l p x true).overload l x
  | .high, .low => (s.crossHigh l p x false).crossLow l p x false
  | .low, .low | .normal, .normal | .high, .high => s

/-- INTERFERENCE (R136). -/
def State.interference (s : State) (l : LinkId) (x : Sample) : State :=
  let active := s.links[l].active
  let s := match active with
    | some e => s.setSuspect e
    | none => s
  let s := s.raise .interference (linkByte l) (index active ++ u8 x.quality ++ s8 x.corrected)
  if s.links[l].flags.autoAvoid then (s.autoFile l .nextCandidate .interference).1 else s

/-- The position of a filed entry whose held flag is set. -/
def Filed.heldAt : Filed → Option Nat
  | .replaced true p => some p
  | .added true p => some p
  | .replaced false _ => none
  | .added false _ => none
  | .full => none

/-- FADE (R133). -/
def State.fade (s : State) (l : LinkId) (x : Sample) : State :=
  let m := s.monitors[l]
  let cause := (if m.side = .low then 1 else 0) + (if m.lockLost then 2 else 0)
  let s := (s.setLinkState l .faded).raise .fade (linkByte l) (u8 cause ++ s8 x.corrected ++ u8 x.quality)
  if s.links[l].flags.autoSwitchover ∧ s.links[l].standby.isSome then
    match s.autoFile l .backup .fade with
    | (s, some f) =>
      match f.heldAt with
      | some p => s.raise .fadeLive (linkByte l) (index s.links[l].standby ++ u8 p)
      | none => s
    | (s, none) => s
  else s

/-- RECOVER with its cause: 1 recovered (R134), 2 returned (R138). -/
def State.recover (s : State) (l : LinkId) (x : Sample) (cause : Nat) : State :=
  ((s.setLinkState l .up).raise .recover (linkByte l) (u8 cause ++ s8 x.corrected)).removeFade l

/-- FADE of an UP link or RECOVER of a FADED one, after a sample's filters (R133, R134). -/
def State.fadeOrRecover (s : State) (l : LinkId) (x : Sample) : State :=
  let m := s.monitors[l]
  if s.links[l].state = .up ∧ (m.side = .low ∨ m.lockLost) then s.fade l x
  else if s.links[l].state = .faded ∧ x.lock ∧ m.side ≠ .low then s.recover l x 1
  else s

/-- A sample of an UP or FADED link with a profile, past the mistune test (R126): side, level filter, lock test, quality
filter, battery test, and then the events of section 7.4. -/
def State.filterSample (s : State) (l : LinkId) (p : Profile) (x : Sample) : State :=
  let before := s.monitors[l].side
  let s := s.setMonitor l (s.monitors[l].levelFilter p (p.sideOf x.corrected))
  let s := s.lockTest l p x
  let poor := s.monitors[l].poor
  let s := s.setMonitor l (s.monitors[l].qualityFilter p x)
  let s := s.batteryTest l p x
  let s := s.crossings l p x before s.monitors[l].side
  let s := if s.monitors[l].poor ∧ ¬ poor then s.interference l x else s
  s.fadeOrRecover l x

/-- MISTUNED: the tuned and the wanted frequency (R127). -/
def State.raiseMistuned (s : State) (l : LinkId) (tuned wanted : Nat) : State :=
  s.raise .mistuned (linkByte l) (u32 tuned ++ u32 wanted)

/-- A sample of an UP or FADED link (R126, R127, R134). -/
def State.sampleUp (s : State) (l : LinkId) (x : Sample) : State :=
  if s.activeFreq l ≠ some x.freq then
    ((s.raiseMistuned l x.freq ((s.activeFreq l).getD 0)).setLinkState l .lost).batteryTestOf l x
  else
    match s.links[l].profile with
    | some p => s.filterSample l s.profiles[p] x
    | none => if s.links[l].state = .faded ∧ x.lock then s.recover l x 1 else s

/-- A sample of a LOST link (R138). -/
def State.sampleLost (s : State) (l : LinkId) (x : Sample) : State :=
  if x.lock ∧ s.activeFreq l = some x.freq then
    let s := (s.restartMonitor l).recover l x 2
    match s.links[l].profile with
    | some p => s.filterSample l s.profiles[p] x
    | none => s
  else s.batteryTestOf l x

/-- Does a sample on the wanted frequency confirm: lock set, and the corrected level at or above the low limit (R112)? -/
def State.confirms (s : State) (l : LinkId) (x : Sample) : Bool :=
  match s.links[l].profile with
  | some p => x.lock && decide (s.profiles[p].low ≤ x.corrected)
  | none => false

/-- A sample reaches the serving context in a confirm stage (R112, R115, R127). -/
def State.sampleConfirm (s : State) (l : LinkId) (k : ContextId) (x : Sample) : State :=
  let (wanted, other) := s.confirmFreqs k
  if x.freq = wanted then (if s.confirms l x then s.confirm k else s)
  else if other = some x.freq then s
  else (s.raiseMistuned l x.freq wanted).mistune k

/-- A sample of an ASSIGNING or RETUNING link (R126). -/
def State.sampleMoving (s : State) (l : LinkId) (x : Sample) : State :=
  let s := s.batteryTestOf l x
  match s.serving l with
  | some k => if s.contexts[k].confirming then s.sampleConfirm l k x else s
  | none => s

/-- A matched sample, handled by the link's state (R126). -/
def State.handleSample (s : State) (l : LinkId) (x : Sample) : State :=
  match s.links[l].state with
  | .up | .faded => s.sampleUp l x
  | .lost => s.sampleLost l x
  | .assigning | .retuning => s.sampleMoving l x
  | .idle | .unused => s.batteryTestOf l x

/-- A TELEMETRY cell (R126, R5): one that matches no link is passed on; a matched one is stored and handled, and copied to
the U-port forward queue where the link asks for it. -/
def State.takeTelemetry (s : State) (c : Cell) : State :=
  let data := cellData c
  match s.matchLink c.src (u8At data 0 % 4) with
  | none => s.offerForward .u c
  | some l =>
    let x := s.sampleOf l data
    let s := (s.storeSample l x).handleSample l x
    if s.links[l].flags.telemetryRelay then s.offerForward .u c else s

/-- The frames since last sample of every link not UNUSED rise by one at a frame event, to at most 255 (R137). -/
def State.countSilence (s : State) : State :=
  { s with monitors := mapTable s.monitors fun l m =>
      if s.links[l].state = .unused then m else { m with silence := min 255 (m.silence + 1) } }

/-- Is the link silent: UP or FADED, with a profile whose timeout its count has reached (R137)? -/
def State.silent (s : State) (l : LinkId) : Bool :=
  (s.links[l].state == .up || s.links[l].state == .faded)
    && match s.links[l].profile with
      | some p => s.profiles[p].timeout ≤ s.monitors[l].silence
      | none => false

/-- A silent link becomes LOST, with SILENT (R137). -/
def State.telemetryTimeout (s : State) (l : LinkId) : State :=
  if s.silent l then
    (s.setLinkState l .lost).raise .silent (linkByte l) (u8 s.monitors[l].silence ++ half s.samples[l].arrival)
  else s

end Sys2Proof.Machine
end

