-- ==== Sys2Proof/Machine/Answers.lean ====
section
/-! DEFINITION. Answers and endings in the unit channel (section 6.2): the end of a slot and its handing over (R103), retryable errors (R100), START (R101), ANSWER and SWEEP cells (R98, R102) and deadlines (R99). -/

namespace Sys2Proof.Machine

/-- Hands a slot's final condition to its owner (R103): a context (R108), the tally processor (R162), the scan engine unless
the discard mark is set (R144), or the management relay, which answers its request (R104). -/
def State.handOver (s : State) (x : Slot) (cond : Condition) (data : List Byte) : State :=
  match x.owner with
  | some (.context k side) => s.contextSlotEnded k side x.unit (byteAt x.command 0) cond
  | some (.tally l) => s.tallySlotEnded l x.unit cond
  | some (.scan r) => if x.discard then s else s.segmentEnded r cond
  | some (.relay id) =>
    let data := if cond = .done ∨ cond = .refused then data else []
    (s.answerId id .ok (u8 cond.code ++ data)).testDrain
  | none => s

/-- A slot receives its final condition: ENDED, giving up its unit's turn; the condition is handed to its owner and the
slot is FREE (R103). -/
def State.endSlot (s : State) (i : SlotId) (cond : Condition) (data : List Byte) : State :=
  let x := { s.unit.slots[i] with state := .ended, condition := some cond, turn := false }
  ((s.setSlot i x).setSlot i {}).handOver x cond data

/-- The scan engine is told of the re-send of a slot it owns, unless its discard mark is set (R102, R145). -/
def State.noteResend (s : State) (x : Slot) : State :=
  match x.owner with
  | some (.scan r) => if x.discard then s else s.setAside r
  | _ => s

/-- A retryable error (R100): a single attempt or the third attempt ends the slot with RETRY_ERROR; otherwise it waits to
offer its cell again, keeping its turn and toggle. -/
def State.retrySlot (s : State) (i : SlotId) : State :=
  let x := s.unit.slots[i]
  if x.single ∨ 3 ≤ x.attempts then s.endSlot i .retryError []
  else (s.setSlot i { x with state := .waiting, deadline := none }).noteResend x

/-- STRAY_ANSWER for the D-port: the cell's source and kind (R98). -/
def State.stray (s : State) (c : Cell) : State := s.raise .strayAnswer (portByte .d) [c.src, c.kind]

/-- The SENT slot of a unit; there is at most one (R94). -/
def State.sentSlot (s : State) (u : Byte) : Option SlotId :=
  (List.finRange 16).find? fun i => s.unit.slots[i].state == .sent && s.unit.slots[i].unit == u

/-- The slot that holds a unit's turn. -/
def State.turnHolder (s : State) (u : Byte) : Option SlotId :=
  (List.finRange 16).find? fun i => s.unit.slots[i].turn && s.unit.slots[i].unit == u

/-- Rewrites a queued cell in place, with its toggle and CRC (R101). -/
def State.rewriteCell (s : State) (i : SlotId) (x : Slot) : State :=
  let again := fun (q : UnitCell) => if q.slot = i then { q with cell := commandCell x.unit x.toggle x.command } else q
  { s with dport := { s.dport with urgent := s.dport.urgent.map again, command := s.dport.command.map again } }

/-- What a START does to the slot that holds the unit's turn (R101), with UNIT_START's detail: 1 when the slot is offered
again or rewritten, 2 when a single-attempt slot ends, 0 otherwise. -/
def State.startEffect (s : State) (i : SlotId) : Nat × (State → State) :=
  let x := { s.unit.slots[i] with toggle := false }
  match x.state with
  | .waiting => (0, fun s => s.setSlot i x)
  | .queued =>
    if s.inCommittedPair i then (0, id)
    else if s.inTransmission i then (1, fun s => s.setSlot i { x with again := true })
    else (1, fun s => (s.setSlot i x).rewriteCell i x)
  | .sent =>
    if x.single then (2, fun s => s.endSlot i .retryError [])
    else (1, fun s => (s.setSlot i { x with state := .waiting, deadline := none, uncounted := true }).noteResend x)
  | .free | .ended => (0, id)

/-- An ANSWER with condition START (R101). R101 treats the slot that holds the turn and tells the tally processor, and gives
these no order: that the slot is treated first is the model's choice. It decides which of the slot requests that follow (a
context's REVERT pair, a camera's TALLY_SET) joins the allocation queue first. DESIGN CHOICE (log 39), unsafe. -/
def State.takeStart (s : State) (c : Cell) : State :=
  if isUnit c.src then
    let (detail, effect) := match s.turnHolder c.src with
      | some i => s.startEffect i
      | none => (0, id)
    let s := (s.setToggle c.src false).raise .unitStart c.src (u8 detail)
    (effect s).tallyUnitStart c.src
  else s.stray c

/-- Is the answer's length the one expected for the slot: 2, or any from 2 to 48 for a relay (R98)? -/
def Slot.expects (x : Slot) (len : Nat) : Bool :=
  match x.owner with
  | some (.relay _) => 2 ≤ len && len ≤ 48
  | _ => len == 2

/-- The unit's toggle flips at a DONE (R96). -/
def State.flipToggle (s : State) (u : Byte) : State := s.setToggle u (!s.toggleOf u)

/-- The unit channel judges an ANSWER cell (R98): the first row that holds decides. A cell too short to hold its echoed
code or its condition does not hold them (log 13). -/
def State.takeAnswer (s : State) (c : Cell) : State :=
  let data := cellData c
  if 2 ≤ data.length ∧ byteAt data 1 = 3 then s.takeStart c
  else
    match s.sentSlot c.src with
    | none => s.stray c
    | some i =>
      let x := s.unit.slots[i]
      if data = [] ∨ byteAt data 0 ≠ byteAt x.command 0 then s.stray c
      else if !x.expects data.length then s.endSlot i .lengthError []
      else if c.toggle ≠ x.toggle then s.retrySlot i
      else if byteAt data 1 = 1 then (s.flipToggle x.unit).endSlot i .done (data.drop 2)
      else if byteAt data 1 = 2 then s.endSlot i .refused (data.drop 2)
      else s.retrySlot i

/-- A SWEEP cell (R102): matched to the SENT slot of its source that carries SWEEP_SEGMENT; with the right toggle its points
go to the scan engine for a slot the engine owns, the deadline is set again, and the last flag ends the slot DONE. -/
def State.takeSweepCell (s : State) (c : Cell) : State :=
  match s.sentSlot c.src with
  | none => s.stray c
  | some i =>
    let x := s.unit.slots[i]
    if byteAt x.command 0 ≠ cmdSweepSegment then s.stray c
    else if c.toggle ≠ x.toggle then s.retrySlot i
    else
      let s := match x.owner with
        | some (.scan r) => if x.discard then s else s.takeSweep r (cellData c)
        | _ => s
      let s := s.setSlot i { x with deadline := some (s.timing.frame + BitVec.ofNat 16 s.scan.settings.segmentTimeout) }
      if c.last then (s.flipToggle x.unit).endSlot i .done [] else s

/-- A SENT slot's deadline is reached without a final answer: a retryable error (R99). -/
def State.answerDeadline (s : State) (i : SlotId) : State :=
  if s.unit.slots[i].state = .sent ∧ s.unit.slots[i].deadline = some s.timing.frame then s.retrySlot i else s

end Sys2Proof.Machine
end

