-- ==== Sys2Proof/Machine/Transmit.lean ====
section
/-! DEFINITION. The transmitters (sections 1.5 to 1.7): the arbiters, the commit of a locked pair with its live test, completions, and BACKOFF. -/

namespace Sys2Proof.Machine

def State.setDLine (s : State) (l : DLine) : State := { s with dport := { s.dport with line := l } }
def State.setULine (s : State) (l : ULine) : State := { s with uport := { s.uport with line := l } }

/-- A locked pair's cell with the switch frame stamped and its CRC computed again (R18, R2). -/
def stamp (f : Half) (q : UnitCell) : UnitCell :=
  { q with committed := true
           cell := commandCell q.cell.dest q.cell.toggle ([byteAt (cellData q.cell) 0] ++ half f) }

/-- The commit of a context's locked pair (R18): F = frame number + switch lead is stamped into both cells and reported to
the context, and the first cell starts. -/
def State.commitPair (s : State) (k : ContextId) : State :=
  let f := s.timing.frame + BitVec.ofNat 16 s.switchLead
  let s := { s with dport := { s.dport with line := .urgent
                                            urgent := s.dport.urgent.map fun (q : UnitCell) =>
                                              if q.context = some k ∧ ¬ q.committed then stamp f q else q } }
  s.modContext k fun c => { c with frame := some f, committed := true }

/-- Is the commit of the pair allowed (R110)? REVERT pairs are not tested (R115). -/
def State.commitAllowed (s : State) (k : ContextId) (q : UnitCell) : Bool :=
  byteAt (cellData q.cell) 0 != cmdSwitch || !s.links[s.contexts[k].link].live || s.exempt k

/-- The D-port arbiter's choice (R9): the frame slot, the urgent queue, which a committed pair heads, then command, audio
and forward. A SWITCH pair whose commit is refused is withdrawn as for a live change, and the arbiter chooses again (R110);
each refusal removes a pair, so the urgent queue's length bounds the choices. -/
def State.chooseD : Nat → State → State
  | 0, s => s
  | n + 1, s =>
    match s.dport.frameSlot, s.dport.urgent, s.dport.command, s.dport.audio, s.dport.forward with
    | some c, _, _, _, _ => { s with dport := { s.dport with frameSlot := none, line := .frame c } }
    | none, q :: _, _, _, _ =>
      match q.context with
      | some k =>
        if q.committed then s.setDLine .urgent
        else if s.commitAllowed k q then s.commitPair k
        else State.chooseD n (s.liveChange k)
      | none => s.setDLine .urgent
    | none, [], _ :: _, _, _ => s.setDLine .command
    | none, [], [], _ :: _, _ => s.setDLine .audio
    | none, [], [], [], _ :: _ => s.setDLine .forward
    | none, [], [], [], [] => s

/-- The D-port arbiter starts a transmission when its line is free and not held by BACKOFF (R9, R15). -/
def State.startD (s : State) : State :=
  if s.dport.line = .idle ∧ ¬ s.pins.backoff ∧ ¬ s.pins.reset then State.chooseD (s.dport.urgent.length + 1) s else s

/-- The U-port arbiter starts a transmission when its line is free (R9): reply, report, audio, forward. -/
def State.startU (s : State) : State :=
  if s.uport.line = .idle ∧ ¬ s.pins.reset then
    match s.uport.reply, s.uport.report, s.uport.audio, s.uport.forward with
    | _ :: _, _, _, _ => s.setULine .reply
    | [], _ :: _, _, _ => s.setULine .report
    | [], [], _ :: _, _ => s.setULine .audio
    | [], [], [], _ :: _ => s.setULine .forward
    | [], [], [], [] => s
  else s

/-- Frames a command's answer is waited for: the segment timeout for SWEEP_SEGMENT, else the answer timeout (R97). -/
def State.timeoutOf (s : State) (x : Slot) : Nat :=
  if byteAt x.command 0 = cmdSweepSegment then s.scan.settings.segmentTimeout else s.unit.answerTimeout

/-- The unit channel hears that a slot's cell has completed (R97): SENT with its deadline, or WAITING for an offer under
R101 when a START met it in transmission. -/
def State.slotSent (s : State) (i : SlotId) : State :=
  let x := s.unit.slots[i]
  if x.again then
    (s.setSlot i { x with state := .waiting, again := false, uncounted := true, begun := true }).noteResend x
  else
    s.setSlot i { x with state := .sent, begun := true
                         deadline := some (s.timing.frame + BitVec.ofNat 16 (s.timeoutOf x)) }

/-- A completion of a unit channel's cell is told to its slot, and that of a locked pair's cell to the context (R10, R16). -/
def State.cellSent (s : State) (q : UnitCell) : State :=
  let s := s.slotSent q.slot
  match q.context with
  | some k => s.modContext k fun c => { c with completions := c.completions + 1 }
  | none => s

/-- A D-port transmission completes (R10): the cell is removed from its queue and completion is reported to its owner. -/
def State.completeD (s : State) : State :=
  match s.dport.line with
  | .idle => s
  | .frame _ => s.setDLine .idle
  | .urgent =>
    let s' := { s with dport := { s.dport with line := .idle, urgent := s.dport.urgent.tail } }
    match s.dport.urgent with
    | q :: _ => s'.cellSent q
    | [] => s'
  | .command =>
    let s' := { s with dport := { s.dport with line := .idle, command := s.dport.command.tail } }
    match s.dport.command with
    | q :: _ => s'.cellSent q
    | [] => s'
  | .audio => { s with dport := { s.dport with line := .idle, audio := s.dport.audio.tail } }
  | .forward => { s with dport := { s.dport with line := .idle, forward := s.dport.forward.tail } }

/-- A U-port transmission completes (R10). -/
def State.completeU (s : State) : State :=
  match s.uport.line with
  | .idle => s
  | .reply => { s with uport := { s.uport with line := .idle, reply := s.uport.reply.tail } }
  | .report => { s with uport := { s.uport with line := .idle, report := s.uport.report.tail } }
  | .audio => { s with uport := { s.uport with line := .idle, audio := s.uport.audio.tail } }
  | .forward => { s with uport := { s.uport with line := .idle, forward := s.uport.forward.tail } }

/-- BACKOFF is asserted (R15): a transmission in progress is abandoned. Its cell stays at the head of its queue; a FRAME cell
returns to the frame slot unless a newer one has been placed there (R12). -/
def State.assertBackoff (s : State) : State :=
  let slot := match s.dport.line, s.dport.frameSlot with
    | .frame c, none => some c
    | _, old => old
  { s with pins := { s.pins with backoff := true }, dport := { s.dport with line := .idle, frameSlot := slot } }

/-- BACKOFF is released, and the arbiter chooses again (R15). -/
def State.releaseBackoff (s : State) : State := ({ s with pins := { s.pins with backoff := false } }).startD

/-- A reply or BUSY reply that is ready joins the reply queue once it has room; its request's place is freed (R188). -/
def State.offerReply (s : State) : State :=
  match s.agent.ready with
  | q :: rest =>
    if s.uport.reply.length < Config.replyCap then
      { s with uport := { s.uport with reply := s.uport.reply ++ [q.cell] }
               agent := { s.agent with ready := rest, requests := s.agent.requests.filter fun r => q.id ≠ some r.id } }
    else s
  | [] => s

end Sys2Proof.Machine
end

