-- ==== Sys2Proof/Machine/Mixer.lean ====
section
/-! DEFINITION. The talkback mixer (chapter 10): arriving blocks, the block timer's expiry with mute and contribution, and the forming and sending of the outputs. -/

namespace Sys2Proof.Machine

/-! ### Tables and flags -/

def State.setInput (s : State) (i : Fin 32) (x : Input) : State :=
  { s with mixer := { s.mixer with inputs := put s.mixer.inputs i x } }

def State.setOutput (s : State) (o : Fin 32) (x : Output) : State :=
  { s with mixer := { s.mixer with outputs := put s.mixer.outputs o x } }

/-- An input or output as an object index. -/
def channelByte (i : Fin 32) : Byte := BitVec.ofNat 8 i.val

/-- Sets UNDERRUN; the notice follows only when the flag was clear (R176). -/
def State.setUnderrun (s : State) (i : Fin 32) : State :=
  let x := s.mixer.inputs[i]
  if x.underrun then s
  else (s.setInput i { x with underrun := true }).raise .underrun (channelByte i) (u8 x.area)

/-- Sets OVERFLOW (R176). -/
def State.setOverflow (s : State) (i : Fin 32) : State :=
  let x := s.mixer.inputs[i]
  if x.overflow then s
  else (s.setInput i { x with overflow := true }).raise .overflow (channelByte i) (u8 x.area)

/-- Sets SEQ_GAP, with the expected and the received sequence (R176). -/
def State.setSeqGap (s : State) (i : Fin 32) (expected received : Byte) : State :=
  let x := s.mixer.inputs[i]
  if x.seqGap then s
  else (s.setInput i { x with seqGap := true }).raise .seqGap (channelByte i) [expected, received]

/-- Sets CLIP, with the number of samples saturated (R176, R181). -/
def State.setClip (s : State) (o : Fin 32) (saturated : Nat) : State :=
  let x := s.mixer.outputs[o]
  if x.clip then s
  else (s.setOutput o { x with clip := true }).raise .clip (channelByte o) (u8 saturated)

/-- Half of an input's area, rounded up (R173). -/
def Input.half (x : Input) : Nat := (x.area + 1) / 2

/-! ### Arriving blocks (R172, R173) -/

/-- The block an AUDIO cell's data carries (01 section 1.2). -/
def blockOf (data : List Byte) : Block :=
  { samples := Vector.ofFn fun k => BitVec.ofNat 16 (u16At data (2 + 2 * k.val)), talk := flagAt data 0 7 }

/-- Does an AUDIO cell from a port match the input (R172)? -/
def Input.hears (x : Input) (p : Port) (src : Byte) (chan : Nat) : Bool :=
  x.enabled && x.port == p && x.chan == chan && (p == .u || x.addr == src)

/-- The input a cell matches (R172). -/
def State.matchInput (s : State) (p : Port) (src : Byte) (chan : Nat) : Option (Fin 32) :=
  (List.finRange 32).find? fun i => s.mixer.inputs[i].hears p src chan

/-- Step 1 of R173: the sequence. -/
def State.checkSequence (s : State) (i : Fin 32) (seq : Byte) : State :=
  let s := match s.mixer.inputs[i].lastSeq with
    | some last => if seq = last + 1 then s else s.setSeqGap i (last + 1) seq
    | none => s
  s.setInput i { s.mixer.inputs[i] with lastSeq := some seq }

/-- Step 2 of R173: a full buffer gives up its oldest block, and the new one joins the tail. -/
def State.appendBlock (s : State) (i : Fin 32) (b : Block) : State :=
  let x := s.mixer.inputs[i]
  if x.buffer.length < x.area then s.setInput i { x with buffer := x.buffer ++ [b] }
  else
    let s := s.setInput i { x with buffer := x.buffer.drop 1 }
    let s := s.setOverflow i
    let x := s.mixer.inputs[i]
    s.setInput i { x with buffer := x.buffer ++ [b] }

/-- Step 3 of R173: play starts with half the area filled. -/
def Input.startPlay (x : Input) : Input :=
  if x.state = .buffering ∧ x.half ≤ x.buffer.length then { x with state := .playing } else x

/-- The mixer takes an AUDIO cell (R172, R173); one that matches no enabled input is dropped. -/
def State.takeAudio (s : State) (p : Port) (c : Cell) : State :=
  let data := cellData c
  match s.matchInput p c.src (u8At data 0 % 4) with
  | none => s
  | some i =>
    let s := (s.checkSequence i (byteAt data 1)).appendBlock i (blockOf data)
    s.setInput i s.mixer.inputs[i].startPlay

/-! ### The inputs at an expiry (R174, R175) -/

/-- The link states that mute (R174). -/
def LinkState.mutes : LinkState → Bool
  | .faded | .lost | .retuning | .assigning => true
  | .unused | .idle | .up => false

/-- Does the mute condition hold for the input (R174)? -/
def State.muteHolds (s : State) (x : Input) : Bool :=
  match x.link with
  | some l => s.links[l].state.mutes
  | none => false

/-- The input's state follows the mute condition (R174). -/
def Input.followMute (x : Input) (holds : Bool) : Input :=
  if holds then { x with state := .muted }
  else if x.state = .muted then { x with state := .buffering }.startPlay
  else x

/-- What a block taken or repeated contributes: silence when its talk flag is clear (R175). -/
def Block.voice (b : Block) : Block := if b.talk then b else {}

/-- The contribution of an input after R174 (R175). -/
def Input.contribution (x : Input) : Block :=
  match x.state, x.buffer with
  | .playing, b :: _ => b.voice
  | .playing, [] => x.lastPlayed.voice
  | .concealing, b :: _ => b.voice
  | .concealing, [] => {}
  | .buffering, _ => {}
  | .muted, _ => {}
  | .disabled, _ => {}

/-- What the expiry leaves of the input (R175). -/
def Input.afterExpiry (x : Input) : Input :=
  match x.state, x.buffer with
  | .playing, b :: rest => { x with buffer := rest, lastPlayed := b }
  | .playing, [] => { x with state := .concealing }
  | .concealing, b :: rest => { x with buffer := rest, lastPlayed := b, state := .playing }
  | .concealing, [] => { x with state := .buffering }
  | .muted, _ :: rest => { x with buffer := rest }
  | .muted, [] => x
  | .buffering, _ => x
  | .disabled, _ => x

/-- Does the expiry find the input dry (R175)? -/
def Input.runsDry (x : Input) : Bool := x.state == .playing && x.buffer.isEmpty

/-- An input as R174 leaves it at an expiry. -/
def State.mutedInput (s : State) (i : Fin 32) : Input := s.mixer.inputs[i].followMute (s.muteHolds s.mixer.inputs[i])

/-- What each input contributes to the expiry; a disabled one takes no part (R169, R174, R175). -/
def State.contributions (s : State) : Vector Block 32 :=
  Vector.ofFn fun i => if s.mixer.inputs[i].enabled then (s.mutedInput i).contribution else {}

/-- An enabled input's side of an expiry (R174, R175). -/
def State.expireInput (s : State) (i : Fin 32) : State :=
  if s.mixer.inputs[i].enabled then
    let x := s.mutedInput i
    let s := s.setInput i x.afterExpiry
    if x.runsDry then s.setUnderrun i else s
  else s

/-! ### The coefficient table (R179) -/

/-- The coefficients of steps 0 to 31 (R179). -/
def coefficients0 : List Nat :=
  [32767, 30934, 29204, 27570, 26028, 24572, 23197, 21900, 20675, 19518, 18426, 17395, 16422, 15504, 14636, 13818,
   13045, 12315, 11626, 10976, 10362, 9782, 9235, 8718, 8231, 7770, 7336, 6925, 6538, 6172, 5827, 5501]

/-- The coefficients of steps 32 to 63 (R179). -/
def coefficients1 : List Nat :=
  [5193, 4903, 4628, 4370, 4125, 3894, 3677, 3471, 3277, 3093, 2920, 2757, 2603, 2457, 2320, 2190,
   2067, 1952, 1843, 1740, 1642, 1550, 1464, 1382, 1304, 1232, 1163, 1098, 1036, 978, 923, 872]

/-- The coefficients of steps 64 to 95 (R179). -/
def coefficients2 : List Nat :=
  [823, 777, 734, 693, 654, 617, 583, 550, 519, 490, 463, 437, 413, 389, 368, 347,
   328, 309, 292, 276, 260, 246, 232, 219, 207, 195, 184, 174, 164, 155, 146, 138]

/-- The coefficients of steps 96 to 127 (R179). -/
def coefficients3 : List Nat :=
  [130, 123, 116, 110, 104, 98, 92, 87, 82, 78, 73, 69, 65, 62, 58, 55,
   52, 49, 46, 44, 41, 39, 37, 35, 33, 31, 29, 28, 26, 25, 23, 22]

/-- The coefficient of a step, 0-127 (R179). -/
def coefficient (e : Nat) : Nat :=
  if e < 32 then coefficients0.getD e 0 else if e < 64 then coefficients1.getD (e - 32) 0
  else if e < 96 then coefficients2.getD (e - 64) 0 else coefficients3.getD (e - 96) 0

/-! ### The outputs at an expiry (R180 to R182) -/

/-- Is an output dimmed (R180)? -/
def Tally.dims (t : Tally) (o : Fin 32) : Bool :=
  (List.finRange 64).any fun k => decide (t.inEffect[k].mix = some o) && t.applied[k].onProgram

/-- The effective step of a crosspoint (R180). -/
def Crosspoint.step (x : Crosspoint) (dim : Nat) (dimmed : Bool) : Nat :=
  min 127 (if x.dimWhenLive && dimmed then x.gain + dim else x.gain)

/-- The terms of an output: each contribution by an ON crosspoint from an enabled input, with its coefficient (R181). -/
def State.terms (s : State) (given : Vector Block 32) (o : Fin 32) : List (Block × Nat) :=
  let dimmed := s.tally.dims o
  ((List.finRange 32).filter fun i => s.mixer.inputs[i].enabled && s.mixer.crosspoints[i][o].on).map fun i =>
    (given[i], coefficient (s.mixer.crosspoints[i][o].step s.mixer.outputs[o].dim dimmed))

/-- The sum of a sample over the terms (R181). -/
def mixSum (terms : List (Block × Nat)) (k : Fin 16) : Int :=
  (terms.map fun (t : Block × Nat) => BitVec.toInt t.1.samples[k] * (t.2 : Int)).sum

/-- The unsaturated sample: floor((sum + 16,384) / 32,768) (R181). -/
def mixRound (sum : Int) : Int := (sum + 16384) / 32768

/-- Saturation of a sample (R181). -/
def saturate (y : Int) : Int := clampInt (-32768) 32767 y

/-- How many samples of a block saturate (R181). -/
def saturations (terms : List (Block × Nat)) : Nat :=
  ((List.finRange 16).filter fun k => saturate (mixRound (mixSum terms k)) ≠ mixRound (mixSum terms k)).length

/-- The sixteen samples as they travel, sample 0 first (R182). -/
def mixSamples (terms : List (Block × Nat)) : List Byte :=
  (List.finRange 16).flatMap fun k => half (BitVec.ofInt 16 (saturate (mixRound (mixSum terms k))))

/-- The AUDIO cell of an output's block (R182, R2). -/
def Output.audioCell (x : Output) (terms : List (Block × Nat)) : Cell :=
  ownCell kindAudio x.addr
    (u8 ((terms.any (·.1.talk)).toNat * 128 + x.chan) ++ [x.seq] ++ mixSamples terms)

/-- An enabled output's block is formed and sent, and its sequence rises (R181, R182). -/
def State.sendOutput (s : State) (given : Vector Block 32) (o : Fin 32) : State :=
  let x := s.mixer.outputs[o]
  if x.enabled then
    let terms := s.terms given o
    let n := saturations terms
    let s := if n = 0 then s else s.setClip o n
    let s := s.offerAudio x.port (x.audioCell terms)
    s.setOutput o { s.mixer.outputs[o] with seq := x.seq + 1 }
  else s

/-- A block timer expiry (section 10.3): every input gives its block, and then every output is formed and sent, each in
ascending index. -/
def State.expireBlock (s : State) : State :=
  if s.blockTimerRuns then
    let given := s.contributions
    let s := (List.finRange 32).foldl State.expireInput s
    (List.finRange 32).foldl (fun s o => s.sendOutput given o) s
  else s

end Sys2Proof.Machine
end

