-- ==== Sys2Proof/Machine/Timing.lean ====
section
/-! DEFINITION. The frame timer and reference monitor (chapter 02): nominal periods, the frame event with the work it makes due, markers, flywheel, frame timer and relock timeout. Instants count units of 1/6,000,000 s, in which every window of the chapter is whole (log 5). -/

namespace Sys2Proof.Machine

/-- The nominal frame period P (section 2.1). -/
def FrameRate.period : FrameRate → Nat
  | .r25 => 240000 | .r2997 => 200200 | .r30 => 200000 | .r50 => 120000 | .r5994 => 100100 | .r60 => 100000

/-- P of the interval now running (R20). -/
def State.period (s : State) : Nat := s.timing.rateInForce.period

def State.setTiming (s : State) (t : Timing) : State := { s with timing := t }

/-! ### Work that a frame event makes due (R21; log 4) -/

/-- Does the step wait to be taken at this frame event? Each condition is that of the step's own rule. -/
def State.isDue (s : State) : DueStep → Bool
  | .answerDeadline i => s.unit.slots[i].state == .sent && decide (s.unit.slots[i].deadline = some s.timing.frame)
  | .switchFrame k =>
    s.contexts[k].stage == .switch && s.contexts[k].committed && decide (s.contexts[k].frame = some s.timing.frame)
  | .confirmDeadline k => s.contexts[k].stage == .confirm && decide (s.contexts[k].deadline = some s.timing.frame)
  | .revertFrame k =>
    s.contexts[k].stage == .revert && s.contexts[k].committed && !s.contexts[k].reverted
      && decide (s.contexts[k].frame = some s.timing.frame)
  | .revertConfirmExpiry k =>
    s.contexts[k].stage == .revert && s.contexts[k].reverted && decide (s.contexts[k].deadline = some s.timing.frame)
  | .telemetryTimeout l => s.silent l
  | .tallyTimeout => !s.tally.stale && s.tally.timeout ≤ s.tally.count
  | .scanTrigger =>
    s.scan.settings.mode == .triggered && decide (0 < s.scan.settings.triggerPeriod.toNat)
      && s.timing.frame.toNat % s.scan.settings.triggerPeriod.toNat == 0

/-- Every step that can be due, in the order of the consumers of R21. -/
def allDue : List DueStep :=
  (List.finRange 16).map .answerDeadline
    ++ (List.finRange 4).map .switchFrame ++ (List.finRange 4).map .confirmDeadline
    ++ (List.finRange 4).map .revertFrame ++ (List.finRange 4).map .revertConfirmExpiry
    ++ (List.finRange 80).map .telemetryTimeout ++ [.tallyTimeout, .scanTrigger]

/-- The effect of a due step, by its own rule. -/
def State.actDue (s : State) : DueStep → State
  | .answerDeadline i => s.answerDeadline i
  | .switchFrame k => s.switchFrame k
  | .confirmDeadline k => s.confirmDeadline k
  | .revertFrame k => s.revertFrame k
  | .revertConfirmExpiry k => s.revertExpiry k
  | .telemetryTimeout l => s.telemetryTimeout l
  | .tallyTimeout => s.tallyTimeout
  | .scanTrigger => s.scanTrigger

/-- A step of the current frame event is taken, once; one that is not due does not happen (log 1, log 4). -/
def State.dueStep (s : State) (d : DueStep) : State :=
  if d ∈ s.due then { s with due := s.due.erase d }.actDue d else s

/-- The rest of the current frame event is taken before any other command (log 4). -/
def State.finishFrame (s : State) : State := s.due.foldl State.dueStep s

/-- The FRAME cell of a frame event takes the frame slot, or rewrites the cell that waits there (R12, R30). -/
def State.placeFrame (s : State) : State :=
  { s with dport := { s.dport with frameSlot := some (frameCell s.timing.frame s.timing.ref) } }

/-- The frame number advances by one, and the interval that begins uses the rate as now written (R20, R21). -/
def State.advanceFrame (s : State) : State :=
  let s := s.setTiming { s.timing with frame := s.timing.frame + 1, rateInForce := s.timing.rate }
  if s.timing.frame = 0 then s.raise .frameWrap 0 [] else s

/-- Links without a profile are confirmed (R112), in ascending context: R112 gives several at one frame event no order.
DESIGN CHOICE (log 34). -/
def State.profilelessConfirms (s : State) : State := (List.finRange 4).foldl State.profilelessConfirm s

/-- A frame event (R21): the number advances, the FRAME cell is placed, tally is applied, links without a profile are
confirmed, the telemetry counts rise, and the steps that the new number reaches become due (log 4, log 6). -/
def State.frameEvent (s : State) : State :=
  let s := s.advanceFrame.placeFrame.tallyFrame.profilelessConfirms.countSilence
  { s with due := allDue.filter s.isDue }

/-! ### Timers (R23, R24, R25) -/

/-- The instant at which the flywheel expires: 1.25 P after the window origin (R23). -/
def State.flywheelAt (s : State) : Nat := s.timing.windowOrigin + 5 * s.period / 4

/-- The earliest timer instant that lies ahead, if any: no marker can come after it untaken (log 5). -/
def State.nextTimer (s : State) : Option Nat :=
  match s.timing.ref with
  | .locked => some s.flywheelAt
  | .relocking => some (match s.timing.nextExpiry with
      | some t => min t s.timing.relockDeadline
      | none => s.timing.relockDeadline)
  | .searching => s.timing.nextExpiry
  | .holdover => s.timing.nextExpiry

/-- Time goes on to an instant; it never goes back. -/
def State.passTo (s : State) (t : Nat) : State := s.setTiming { s.timing with now := max s.timing.now t }

/-- The flywheel expires (R23): a frame event, and the third in a row enters HOLDOVER, with REFERENCE_LOST and the frame
timer started one P later. -/
def State.flywheelExpiry (s : State) : State :=
  if s.timing.ref = .locked then
    let t := s.flywheelAt
    let s := s.passTo t
    if 3 ≤ s.timing.flywheel + 1 then
      let s := s.setTiming { s.timing with windowOrigin := t, ref := .holdover, flywheel := 0, good := 0
                                           nextExpiry := some (t + s.timing.rate.period) }
      s.frameEvent.raiseReference .referenceLost
    else
      (s.setTiming { s.timing with windowOrigin := t, flywheel := s.timing.flywheel + 1 }).frameEvent
  else s

/-- The frame timer expires (R24): a frame event, and the next expiry one P later. In RELOCKING the timeout of R25 comes
first when it lies before the expiry. -/
def State.timerExpiry (s : State) : State :=
  match s.timing.nextExpiry with
  | some t =>
    if s.timing.ref = .locked ∨ (s.timing.ref = .relocking ∧ s.timing.relockDeadline < t) then s
    else
      let s := s.passTo t
      (s.setTiming { s.timing with lastTimerEvent := t, nextExpiry := some (t + s.timing.rate.period) }).frameEvent
  | none => s

/-- 3 P pass in RELOCKING with no marker (R25). -/
def State.relockTimeout (s : State) : State :=
  if s.timing.ref = .relocking ∧ s.nextTimer = some s.timing.relockDeadline then
    let s := s.passTo s.timing.relockDeadline
    s.setTiming { s.timing with ref := .holdover, good := 0, armed := false }
  else s

/-! ### Markers (R22 to R27) -/

/-- GLITCH: the time from the window origin in microseconds (R22); R22 gives no rounding (log 7). -/
def glitchMicros (d : Nat) : Nat := d / 6 + (if d % 6 ≠ 0 ∧ Config.glitchRoundsUp d then 1 else 0)

/-- A marker in LOCKED (R22). -/
def State.lockedMarker (s : State) (t : Nat) : State :=
  let d := t - s.timing.windowOrigin
  let s := s.setTiming { s.timing with lastMarker := t }
  if 4 * d < 3 * s.period then s.raise .glitch 0 (u32 (glitchMicros d))
  else (s.setTiming { s.timing with windowOrigin := t, flywheel := 0 }).frameEvent

/-- The first marker in SEARCHING or HOLDOVER (R24). -/
def State.startRelock (s : State) (t : Nat) (origin : RelockOrigin) : State :=
  s.setTiming { s.timing with ref := .relocking, origin, good := 1, armed := false, lastMarker := t
                              relockDeadline := t + 3 * s.period }

/-- Does the completing marker come at least 0.5 P after the last timer frame event (R26)? -/
def State.relockIsFrame (s : State) (t : Nat) : Bool := s.period ≤ 2 * (t - s.timing.lastTimerEvent)

/-- A relock completes (R26): the marker is the frame event, or only realigns the window. -/
def State.completeRelock (s : State) (t : Nat) : State :=
  let isFrame := s.relockIsFrame t
  let s := s.setTiming { s.timing with ref := .locked, flywheel := 0, good := 0, armed := false, nextExpiry := none
                                       windowOrigin := t }
  let s := if isFrame then s.frameEvent else s
  match s.timing.origin with
  | .searching => s.raiseReference .referenceAcquired
  | .holdover => s.raiseReference .referenceRestored

/-- Is a marker's spacing regular: between 0.98 P and 1.02 P (R25)? -/
def State.regular (s : State) (t : Nat) : Bool :=
  98 * s.period ≤ 100 * (t - s.timing.lastMarker) && 100 * (t - s.timing.lastMarker) ≤ 102 * s.period

/-- A marker in RELOCKING (R25 to R27). -/
def State.relockMarker (s : State) (t : Nat) : State :=
  let deadline := t + 3 * s.period
  if s.regular t then
    let rises := s.timing.good = 7
    let good := min 8 (s.timing.good + 1)
    let s := s.setTiming { s.timing with good, lastMarker := t, relockDeadline := deadline }
    if good = 8 ∧ ((rises ∧ s.timing.autoRelock) ∨ s.timing.armed) then s.completeRelock t
    else if rises then s.raise .relockReady 0 []
    else s
  else s.setTiming { s.timing with good := 1, armed := false, lastMarker := t, relockDeadline := deadline }

/-- The instant at which a marker arrives: the time it says has passed, and no later than the next timer instant, which
would be taken before it (log 5). -/
def State.markerAt (s : State) (elapsed : Nat) : Nat :=
  match s.nextTimer with
  | some t => max s.timing.now (min (s.timing.now + elapsed) t)
  | none => s.timing.now + elapsed

/-- The reference monitor judges a marker that has just arrived (R22 to R27). -/
def State.judgeMarker (s : State) : State :=
  let t := s.timing.now
  match s.timing.ref with
  | .locked => s.lockedMarker t
  | .searching => s.startRelock t .searching
  | .holdover => s.startRelock t .holdover
  | .relocking => s.relockMarker t

end Sys2Proof.Machine
end

