-- ==== Sys2Proof/Machine/Arrivals.lean ====
section
/-! DEFINITION. The receivers and the guard (sections 1.3 and 1.4), the request queue's intake (R186), and the meanings of the rows of arriving cells. -/

namespace Sys2Proof.Machine

/-- What every command answers: the part has no fault, so each gives a next state. -/
abbrev Answer := Host.Outcome State Fault Refusal

/-- A command that is not a step of the frame event's own: the rest of the current frame event is taken before it (log 4). -/
def State.settled (s : State) (f : State → State) : Answer := .next (f s.finishFrame)

/-- A cell arrives (R1, R19): under RESET it is discarded; one that fails the integrity check is dropped with CHECK_ERROR;
one that is of the row is acted on, and one that is not is no event of the row (R4, R5; log 1). -/
def State.receive (s : State) (p : Port) (c : Cell) (ofRow : Bool) (act : State → State) : State :=
  if s.pins.reset then s
  else if !integral c then s.raise .checkError (portByte p) []
  else if ofRow then act s
  else s

/-- The format check of R3: a cell of the wrong length is dropped with FORMAT_ERROR. -/
def State.checkFormat (s : State) (p : Port) (ok : Bool) (act : State → State) : State :=
  if ok then act s else s.raise .formatError (portByte p) []

/-- The length R3 requires of a TALLY cell. -/
def tallyFormat (data : List Byte) : Bool :=
  let n := u8At data 0 % 32
  n ≤ 24 && data.length == 1 + n + (n + 3) / 4

/-- The length R3 requires of a SWEEP cell. -/
def sweepFormat (data : List Byte) : Bool := u8At data 1 ≤ 14 && data.length == 2 + 3 * u8At data 1

/-! ### The guard (R7, R8) -/

/-- Does a destination concern a managed link (R7)? -/
def State.managed (s : State) (d : Byte) : Bool :=
  (List.finRange 80).any fun l =>
    s.links[l].state != .unused && (d == 255 || (isUnit d && (s.links[l].portable == d || s.links[l].rack == d)))

/-- Is a COMMAND cell guarded (R7)? A cell with no payload carries no command code (log 13). -/
def State.guarded (s : State) (c : Cell) : Bool :=
  !(cellData c).isEmpty && isFrequencyCommand (byteAt (cellData c) 0) && s.managed c.dest

/-- The guard's refusal ANSWER (R8, R2). -/
def refusalCell (c : Cell) : Cell :=
  makeCell kindAnswer c.src c.dest c.toggle [byteAt (cellData c) 0, 2]

/-- The refusal joins the reply queue, or is discarded when it is full (R8). -/
def State.offerRefusal (s : State) (c : Cell) : State :=
  if s.uport.reply.length < Config.replyCap then
    { s with uport := { s.uport with reply := s.uport.reply ++ [refusalCell c] } }
  else s

/-- The guard judges a COMMAND cell (R7, R8). -/
def State.guard (s : State) (c : Cell) : State :=
  if s.guarded c then
    (s.offerRefusal c).raise .guardedCommand (portByte .u) [byteAt (cellData c) 0, c.dest]
  else s.offerForward .d c

/-! ### The intake of requests (R186) -/

/-- A request as it arrives. -/
def State.newRequest (s : State) (c : Cell) : Request :=
  { id := s.agent.nextId, tag := byteAt (cellData c) 0, src := c.src, code := byteAt (cellData c) 1
    args := (cellData c).drop 2, phase := .arrived }

/-- Is a BUSY reply waiting (R186, R190)? -/
def State.busyWaiting (s : State) : Bool := s.agent.ready.any (·.id.isNone)

/-- The BUSY reply of a request that finds the queue full (R186). -/
def busyReply (c : Cell) : ReadyReply :=
  { id := none, cell := replyCell c.src (byteAt (cellData c) 0) (byteAt (cellData c) 1) .busy [] }

/-- A MGMT cell for the part (R186): too short, queued, answered BUSY, or discarded. -/
def State.takeMgmt (s : State) (c : Cell) : State :=
  if (cellData c).length < 2 then s.raise .formatError (portByte .u) []
  else if s.agent.requests.length < Config.requestCap then
    State.judgeCommon { s with agent := { s.agent with requests := s.agent.requests ++ [s.newRequest c]
                                                       nextId := s.agent.nextId + 1 } }
  else if s.busyWaiting then s
  else { s with agent := { s.agent with ready := s.agent.ready ++ [busyReply c] } }

/-! ### The rows -/

/-- MGMT_CELL (R4, R186). -/
def execMgmtCell (c : Cell) (s : State) : Answer :=
  s.settled fun s => s.receive .u c (Instr.mgmtCell c).wf fun s => s.takeMgmt c

/-- D_PORT_MGMT_CELL (R5). -/
def execDPortMgmtCell (c : Cell) (s : State) : Answer :=
  s.settled fun s => s.receive .d c (Instr.dPortMgmtCell c).wf fun s => s.raise .mgmtOnD (portByte .d) []

/-- The port on whose transmitter a forwarded cell leaves. -/
def otherPort : Port → Port
  | .u => .d
  | .d => .u

/-- FORWARDED_CELL (R6, R13). -/
def execForwardedCell (p : Port) (c : Cell) (s : State) : Answer :=
  s.settled fun s => s.receive p c (Instr.forwardedCell p c).wf fun s => s.offerForward (otherPort p) c

/-- COMMAND_AT_GUARD (R7, R8). -/
def execCommandAtGuard (c : Cell) (s : State) : Answer :=
  s.settled fun s => s.receive .u c (Instr.commandAtGuard c).wf fun s => s.guard c

/-- MARKER (R22 to R27). The time it says has passed does pass, whatever becomes of the cell. -/
def execMarker (c : Cell) (elapsed : Nat) (s : State) : Answer :=
  s.settled fun s => (s.passTo (s.markerAt elapsed)).receive .u c (Instr.marker c elapsed).wf State.judgeMarker

/-- ANSWER_CELL (R98, R101). -/
def execAnswerCell (c : Cell) (s : State) : Answer :=
  s.settled fun s => s.receive .d c (Instr.answerCell c).wf fun s => s.takeAnswer c

/-- SWEEP_CELL (R102, R145). -/
def execSweepCell (c : Cell) (s : State) : Answer :=
  s.settled fun s => s.receive .d c (Instr.sweepCell c).wf fun s =>
    s.checkFormat .d (sweepFormat (cellData c)) fun s => s.takeSweepCell c

/-- TELEMETRY_CELL (R126). -/
def execTelemetryCell (c : Cell) (s : State) : Answer :=
  s.settled fun s => s.receive .d c (Instr.telemetryCell c).wf fun s =>
    s.checkFormat .d ((cellData c).length == 8) fun s => s.takeTelemetry c

/-- TALLY_CELL (R153, R165). -/
def execTallyCell (c : Cell) (s : State) : Answer :=
  s.settled fun s => s.receive .u c (Instr.tallyCell c).wf fun s =>
    s.checkFormat .u (tallyFormat (cellData c)) fun s => s.takeTally (cellData c)

/-- AUDIO_CELL (R172, R173). -/
def execAudioCell (p : Port) (c : Cell) (s : State) : Answer :=
  s.settled fun s => s.receive p c (Instr.audioCell p c).wf fun s =>
    s.checkFormat p ((cellData c).length == 34) fun s => s.takeAudio p c

end Sys2Proof.Machine
end

