-- ==== Sys2Proof/Machine/Events.lean ====
section
/-! DEFINITION. The cold reset (R194), and the meanings of the rows of port events, resets, timers, engines and frame-event work. -/

namespace Sys2Proof.Machine

/-! ### Cold reset (R19, R31, R50, R70, R92, R105, R119, R139, R152, R167, R184, R194) -/

/-- Every block takes its cold-reset values; the input pins and the waiting commands are not the part's to reset. -/
def State.coldReset (s : State) : State := { State.reset with pins := s.pins, pending := s.pending }

/-- The frame timer and the block timer stand still while the RESET input is asserted (R31, R184). -/
def State.stopTimers (s : State) : State :=
  { s with timing := { s.timing with nextExpiry := none }, blockTimerRuns := false }

/-- The end of a cold reset starts both timers, the frame timer's first expiry one P away (R31, R184). -/
def State.startTimers (s : State) : State :=
  { s with timing := { s.timing with nextExpiry := some (s.timing.now + s.period) }, blockTimerRuns := true }

/-- A cold reset that ends at once, unless the RESET input still holds the part in it (R194). -/
def State.coldResetDone (s : State) : State :=
  if s.pins.reset then s.coldReset.stopTimers else s.coldReset

/-- RESET_ASSERT: the cold reset begins and lasts while the input is asserted (R19, R31, R184, R194). -/
def execResetAssert (s : State) : Answer :=
  .next (if s.pins.reset then s else { s with pins := { s.pins with reset := true } }.coldReset.stopTimers)

/-- RESET_RELEASE: the cold reset ends (R19, R31, R184). -/
def execResetRelease (s : State) : Answer :=
  .next (if s.pins.reset then { s with pins := { s.pins with reset := false } }.startTimers else s)

/-- POWER_UP: a cold reset of every block (R194). -/
def execPowerUp (s : State) : Answer := .next s.coldResetDone

/-! ### Ports -/

/-- TRANSMIT_START (R9, R18, R110). -/
def execTransmitStart (p : Port) (s : State) : Answer :=
  s.settled fun s => match p with
    | .u => s.startU
    | .d => s.startD

/-- TRANSMIT_COMPLETE (R10). -/
def execTransmitComplete (p : Port) (s : State) : Answer :=
  s.settled fun s => match p with
    | .u => s.completeU
    | .d => s.completeD

/-- BACKOFF_ASSERT (R15, R12). -/
def execBackoffAssert (s : State) : Answer := s.settled State.assertBackoff

/-- BACKOFF_RELEASE (R15). -/
def execBackoffRelease (s : State) : Answer := s.settled State.releaseBackoff

/-- REPLY_OFFER (R188). -/
def execReplyOffer (s : State) : Answer := s.settled State.offerReply

/-! ### Timers -/

/-- FLYWHEEL_EXPIRY (R23). -/
def execFlywheelExpiry (s : State) : Answer := s.settled State.flywheelExpiry

/-- FRAME_TIMER_EXPIRY (R24). -/
def execFrameTimerExpiry (s : State) : Answer := s.settled State.timerExpiry

/-- RELOCK_TIMEOUT (R25). -/
def execRelockTimeout (s : State) : Answer := s.settled State.relockTimeout

/-- BLOCK_TIMER_EXPIRY (R174 to R182). -/
def execBlockTimerExpiry (s : State) : Answer := s.settled State.expireBlock

/-! ### Engines -/

/-- COORD_REQUEST_START (R46, R52, R65, R66). -/
def execCoordRequestStart (s : State) : Answer := s.settled State.startRequest

/-- ATTEMPT_COMPLETE (R53 to R64). -/
def execAttemptComplete (s : State) : Answer := s.settled State.completeAttempt

/-- SLOT_GRANT (R94). -/
def execSlotGrant (s : State) : Answer := s.settled State.grantOne

/-- SLOT_OFFER (R95, R96). -/
def execSlotOffer (i : SlotId) (s : State) : Answer := s.settled fun s => s.offerSlot i

/-- PAIR_SUBMIT (R110, R115, R16). -/
def execPairSubmit (k : ContextId) (s : State) : Answer := s.settled fun s => s.submitPair k

/-- CONTEXT_TAKE (R90, R106, R107). -/
def execContextTake (s : State) : Answer := s.settled State.contextTake

/-! ### Work of a frame event -/

/-- ANSWER_DEADLINE (R99). -/
def execAnswerDeadline (i : SlotId) (s : State) : Answer := .next (s.dueStep (.answerDeadline i))

/-- SWITCH_FRAME (R111). -/
def execSwitchFrame (k : ContextId) (s : State) : Answer := .next (s.dueStep (.switchFrame k))

/-- CONFIRM_DEADLINE (R114). -/
def execConfirmDeadline (k : ContextId) (s : State) : Answer := .next (s.dueStep (.confirmDeadline k))

/-- REVERT_FRAME (R115). -/
def execRevertFrame (k : ContextId) (s : State) : Answer := .next (s.dueStep (.revertFrame k))

/-- REVERT_CONFIRM_EXPIRY (R115). -/
def execRevertConfirmExpiry (k : ContextId) (s : State) : Answer := .next (s.dueStep (.revertConfirmExpiry k))

/-- TELEMETRY_TIMEOUT (R137). -/
def execTelemetryTimeout (l : LinkId) (s : State) : Answer := .next (s.dueStep (.telemetryTimeout l))

/-- SCAN_TRIGGER (R143). -/
def execScanTrigger (s : State) : Answer := .next (s.dueStep .scanTrigger)

/-- TALLY_TIMEOUT (R164). -/
def execTallyTimeout (s : State) : Answer := .next (s.dueStep .tallyTimeout)

end Sys2Proof.Machine
end

