-- ==== Sys2Proof/Machine/PlanRequests.lean ====
section
/-! DEFINITION. Management requests of the carrier plan and the frame timer: BAND, CARRIER, BLOCK, UNBLOCK, CHECK (chapter 03) and RELOCK (chapter 02). -/

namespace Sys2Proof.Machine

/-! ### Bands (R33) -/

/-- The five fields of a band entry, in the order of section 3.1; the allowed classes are a flag byte, N in bit 0. -/
def Band.bytes (b : Band) : List Byte :=
  flagByte [b.valid] ++ u32 b.lower ++ u32 b.upper ++ u32 b.step ++ flagByte [b.allowN, b.allowW10, b.allowW20]

/-- The entry a BAND write carries, its step clamped into 5-1,000; with the valid flag clear it is the cold-reset entry
(R33). -/
def bandOf (args : List Byte) : Band :=
  if flagAt args 1 0 then
    { valid := true, lower := u32At args 2, upper := u32At args 6, step := clamp 5 1000 (u32At args 10)
      allowN := flagAt args 14 0, allowW10 := flagAt args 14 1, allowW20 := flagAt args 14 2 }
  else {}

/-- Do two ranges share a frequency (R33)? -/
def Band.overlaps (a b : Band) : Bool := a.lower ≤ b.upper && b.lower ≤ a.upper

/-- Has a counted carrier the band index (R33)? -/
def State.bandInUse (s : State) (i : Fin 4) : Bool :=
  s.plan.carriers.toList.any fun c => c.counted && decide (c.band = some i)

/-- Would the entry share a frequency with another valid band (R33)? -/
def State.bandOverlaps (s : State) (i : Fin 4) (b : Band) : Bool :=
  (List.finRange 4).any fun j => decide (j ≠ i) && s.plan.bands[j].valid && b.overlaps s.plan.bands[j]

/-- A BAND read. -/
def State.bandRead (s : State) (r : Request) : State :=
  match indexOf? 4 (u8At r.args 0) with
  | none => s.answer r .badIndex []
  | some i => s.answer r .ok s.plan.bands[i].bytes

/-- A BAND write: the conditions of R33 in order; an accepted write marks a check attempt in progress stale (R43). -/
def State.bandWrite (s : State) (r : Request) : State :=
  match indexOf? 4 (u8At r.args 0) with
  | none => s.answer r .badIndex []
  | some i =>
    let b := bandOf r.args
    if s.bandInUse i then s.answer r .planInUse []
    else if b.valid ∧ (!freqOk b.lower ∨ !freqOk b.upper ∨ b.upper ≤ b.lower) then s.answer r .badValue []
    else if b.valid ∧ s.bandOverlaps i b then s.answer r .overlap []
    else
      let s := { s with plan := { s.plan with bands := put s.plan.bands i b } }
      s.markStale.answer r .ok b.bytes

/-! ### Carriers (R35, R39) -/

/-- The fields of a carrier entry, in the order of section 3.3. -/
def Carrier.bytes (c : Carrier) : List Byte :=
  u8 c.state.code ++ u32 c.freq ++ u8 c.cls.code ++ index c.link ++ u16 c.margin ++ flagByte [c.suspect, c.snapped]
    ++ index c.band

/-- A CARRIER read (R35). -/
def State.carrierRead (s : State) (r : Request) : State :=
  match indexOf? 96 (u8At r.args 0) with
  | none => s.answer r .badIndex []
  | some e => s.answer r .ok s.plan.carriers[e].bytes

/-- UNBLOCK (R39). -/
def State.unblock (s : State) (r : Request) : State :=
  match indexOf? 96 (u8At r.args 0) with
  | none => s.answer r .badIndex []
  | some e =>
    if s.plan.carriers[e].state = .blocked then (s.releaseEntry e).answer r .ok [] else s.answer r .badState []

/-! ### Coordination requests of management (R44, R45) -/

/-- Files a request of management, which then waits for its end, or answers QUEUE_FULL (R45, R47). -/
def State.fileCoord (s : State) (r : Request) (q : CoordRequest) : State :=
  if s.coordPlace q.filer then (s.placeCoord q).defer r else s.answer r .queueFull []

/-- BLOCK (R44): the frequency and the class are judged, and the request filed. -/
def State.block (s : State) (r : Request) : State :=
  let f := u32At r.args 0
  match CarrierClass.ofCode? (u8At r.args 4) with
  | none => s.answer r .badValue []
  | some cls =>
    if freqOk f then
      s.fileCoord r { kind := .block, filer := .management r.id, link := none, target := .explicit f, cls }
    else s.answer r .badValue []

/-- Is the target one of EXPLICIT in range and NEXT_CANDIDATE, which CHECK, SET BACKUP and ASSIGN take (R44, R80, R82)? -/
def targetOk : Option Target → Bool
  | some (.explicit f) => freqOk f
  | some .nextCandidate => true
  | some .backup => false
  | none => false

/-- CHECK with no link: purpose BLOCKED, with the class it carries (01 section 1.2, R44). -/
def State.checkBlocked (s : State) (r : Request) : State :=
  match CarrierClass.ofCode? (u8At r.args 6), Target.ofCode? (u32At r.args 2) (u8At r.args 1) with
  | some cls, some (.explicit f) =>
    if freqOk f then
      s.fileCoord r { kind := .check, filer := .management r.id, link := none, target := .explicit f, cls }
    else s.answer r .badValue []
  | _, _ => s.answer r .badValue []

/-- CHECK for a link, whose class it takes (01 section 1.2, R44). -/
def State.checkLink (s : State) (r : Request) (l : LinkId) : State :=
  match Target.ofCode? (u32At r.args 2) (u8At r.args 1) with
  | some t =>
    if !targetOk (some t) then s.answer r .badValue []
    else if s.links[l].state = .unused then s.answer r .badState []
    else s.fileCoord r { kind := .check, filer := .management r.id, link := some l, target := t, cls := s.links[l].cls }
  | none => s.answer r .badValue []

/-- CHECK (R44, R45). -/
def State.check (s : State) (r : Request) : State :=
  if u8At r.args 0 = 255 then s.checkBlocked r
  else
    match indexOf? 80 (u8At r.args 0) with
    | none => s.answer r .badIndex []
    | some l => s.checkLink r l

/-! ### RELOCK (R27) -/

/-- RELOCK is answered by the reference state and the consecutive-good count (R27). -/
def State.relock (s : State) (r : Request) : State :=
  if s.timing.ref = .relocking then
    if s.timing.good = 8 then (s.setTiming { s.timing with armed := true }).answer r .ok []
    else s.answer r .notReady []
  else s.answer r .badState []

/-! ### The rows -/

/-- BAND_READ (R33). -/
def execBandRead (s : State) : Answer := s.settled fun s => s.take (hasCode 0x10) State.bandRead

/-- BAND_WRITE (R33, R43). -/
def execBandWrite (s : State) : Answer := s.settled fun s => s.take (hasCode 0x11) State.bandWrite

/-- CARRIER_READ (R35). -/
def execCarrierRead (s : State) : Answer := s.settled fun s => s.take (hasCode 0x12) State.carrierRead

/-- BLOCK (R44, R45). -/
def execBlock (s : State) : Answer := s.settled fun s => s.take (hasCode 0x13) State.block

/-- UNBLOCK (R39). -/
def execUnblock (s : State) : Answer := s.settled fun s => s.take (hasCode 0x14) State.unblock

/-- CHECK (R44, R45). -/
def execCheck (s : State) : Answer := s.settled fun s => s.take (hasCode 0x38) State.check

/-- RELOCK (R27). -/
def execRelock (s : State) : Answer := s.settled fun s => s.take (hasCode 0x39) State.relock

end Sys2Proof.Machine
end

