-- ==== Sys2Proof/Machine/LinkRequests.lean ====
section
/-! DEFINITION. Management requests of the link table and the retune queue: LINK, CANDIDATES, ASSIGN, RETUNE, SET BACKUP, RELEASE, UNDEFINE (chapter 05) and ABORT RETUNE (R117). -/

namespace Sys2Proof.Machine

/-! ### The link record (R71, R72, R79) -/

/-- The six flags in one byte, auto_switchover in bit 0 (R71). -/
def LinkFlags.bytes (f : LinkFlags) : List Byte :=
  flagByte [f.autoSwitchover, f.autoBackup, f.autoAvoid, f.switchWhenLive, f.alwaysLive, f.telemetryRelay]

/-- The flags of a flag byte (R71). Bits 6 and 7 have no flag, and no rule says what a write of them does: they are ignored
and read back clear. DESIGN CHOICE (log 33). -/
def linkFlagsOf (args : List Byte) (i : Nat) : LinkFlags :=
  { autoSwitchover := flagAt args i 0, autoBackup := flagAt args i 1, autoAvoid := flagAt args i 2
    switchWhenLive := flagAt args i 3, alwaysLive := flagAt args i 4, telemetryRelay := flagAt args i 5 }

/-- The eight written fields of a link record (R71). -/
def Link.writtenBytes (r : Link) : List Byte :=
  u8 r.kind.code ++ u8 r.cls.code ++ [r.rack] ++ u8 r.chan ++ [r.portable] ++ index r.profile ++ r.flags.bytes ++ s8 r.offset

/-- The last retune result (R79). -/
def RetuneResult.bytes (x : RetuneResult) : List Byte :=
  u8 x.ending.code ++ u8 x.reason.code ++ u8 x.target.code ++ u8 x.stage.code ++ summaryBytes x.summary
    ++ u8 (conditionCode x.rack) ++ u8 (conditionCode x.portable) ++ half x.frame

/-- The queue status byte of a link: 0 no entry, 1 one that is not held, 2 a held one (R72). -/
def State.queueStatus (s : State) (l : LinkId) : Nat :=
  match s.retuneQueue.find? (·.link = l) with
  | none => 0
  | some e => if e.held then 2 else 1

/-- A LINK read (R72). -/
def State.linkRead (s : State) (r : Request) : State :=
  match indexOf? 80 (u8At r.args 0) with
  | none => s.answer r .badIndex []
  | some l =>
    let x := s.links[l]
    s.answer r .ok (x.writtenBytes ++ u8 x.state.code ++ index x.active ++ index x.standby ++ bit x.live ++ bit x.always
      ++ u8 (s.queueStatus l) ++ index (s.serving l) ++ x.last.bytes)

/-! ### LINK write (R73, R74, R160) -/

/-- The fields a LINK write carries, where its kind, class and profile are codes of the manual. -/
def linkOf? (args : List Byte) : Option Link :=
  match LinkKind.ofCode? (u8At args 1), CarrierClass.ofCode? (u8At args 2) with
  | some kind, some cls =>
    let p := u8At args 6
    if p = 255 ∨ p < 8 then
      some { kind, cls, rack := byteAt args 3, chan := u8At args 4, portable := byteAt args 5, profile := indexOf? 8 p
             flags := linkFlagsOf args 7, offset := clampInt (-20) 20 (s8At args 8) }
    else none
  | _, _ => none

/-- Is the class allowed for the kind (R71)? -/
def LinkKind.allows : LinkKind → CarrierClass → Bool
  | .camera, c => c != .n
  | .mic, c => c == .n
  | .talkback, c => c == .n

/-- Are the written units and class in range (R73)? -/
def Link.writable (w : Link) : Bool :=
  w.kind.allows w.cls && w.chan ≤ 3 && isUnit w.rack && isUnit w.portable && w.rack != w.portable

/-- Does the write differ from the stored record in kind, class or units (R73)? -/
def Link.differs (r w : Link) : Bool :=
  r.kind != w.kind || r.cls != w.cls || r.rack != w.rack || r.chan != w.chan || r.portable != w.portable

/-- Do two records conflict (R74)? -/
def Link.conflicts (w m : Link) : Bool :=
  (w.rack == m.rack && w.chan == m.chan) || w.portable == m.portable || w.portable == m.rack || w.rack == m.portable

/-- Does another defined link conflict with the write (R74)? -/
def State.linkConflict (s : State) (l : LinkId) (w : Link) : Bool :=
  (List.finRange 80).any fun m => decide (m ≠ l) && s.links[m].state != .unused && w.conflicts s.links[m]

/-- The camera record of a newly defined or re-addressed camera: target and delivered UNKNOWN, latched none, unconfirmed
clear (R160). -/
def Camera.forget (c : Camera) : Camera :=
  { c with target := none, delivered := none, latched := none, unconfirmed := false }

/-- The effects of a LINK write on the blocks around the table: the monitor restarts when the link is defined or loses its
profile (R122, R123), and a camera's record is set anew (R160); `old` is the record before the write. -/
def State.linkWritten (s : State) (l : LinkId) (old : Link) : State :=
  let new := s.links[l]
  let s := if old.state = .unused ∨ (old.profile.isSome ∧ new.profile = none) then s.restartMonitor l else s
  if new.kind = .camera ∧ (old.state = .unused ∨ old.kind ≠ .camera ∨ old.portable ≠ new.portable) then
    s.setCamera l s.tally.cameras[l].forget
  else s

/-- Stores an accepted LINK write: the eight fields, IDLE for a link that it defines, and the held flag again (R73, R87). -/
def State.storeLink (s : State) (l : LinkId) (w : Link) : State :=
  let old := s.links[l]
  let s := s.setLink l { old with kind := w.kind, cls := w.cls, rack := w.rack, chan := w.chan, portable := w.portable
                                  profile := w.profile, flags := w.flags, offset := w.offset }
  let s := if old.state = .unused then s.setLinkState l .idle else s
  (s.linkWritten l old).reevaluate l

/-- A LINK write: the conditions of R73 in order. R73's 'the record as stored' is read as the eight fields that the write
stores, in the order in which R71 has a write carry them. DEDUCED (log 32). -/
def State.linkWrite (s : State) (r : Request) : State :=
  match indexOf? 80 (u8At r.args 0) with
  | none => s.answer r .badIndex []
  | some l =>
    match linkOf? r.args with
    | none => s.answer r .badValue []
    | some w =>
      let old := s.links[l]
      if !w.writable then s.answer r .badValue []
      else if old.state ≠ .unused ∧ old.state ≠ .idle ∧ old.differs w then s.answer r .busy []
      else if s.linkConflict l w then s.answer r .duplicate []
      else (s.storeLink l w).answer r .ok w.writtenBytes

/-! ### Candidates (R76) -/

/-- The frequencies of a CANDIDATES write. -/
def candidatesOf (args : List Byte) : List Nat := (List.range (u8At args 1)).map fun i => u32At args (2 + 4 * i)

/-- A list: count byte, then the entries (01 section 1.2). -/
def candidateBytes (fs : List Nat) : List Byte := u8 fs.length ++ fs.flatMap u32

/-- A CANDIDATES read (R76). -/
def State.candidatesRead (s : State) (r : Request) : State :=
  match indexOf? 80 (u8At r.args 0) with
  | none => s.answer r .badIndex []
  | some l => s.answer r .ok (candidateBytes s.links[l].candidates)

/-- A CANDIDATES write (R76). -/
def State.candidatesWrite (s : State) (r : Request) : State :=
  match indexOf? 80 (u8At r.args 0) with
  | none => s.answer r .badIndex []
  | some l =>
    let fs := candidatesOf r.args
    if 8 < fs.length ∨ !fs.all freqOk then s.answer r .badValue []
    else (s.modLink l fun x => { x with candidates := fs }).answer r .ok []

/-! ### Link operations (R80 to R84, R117) -/

/-- The answer to a management filing (R86): three bytes of data, or QUEUE_FULL. -/
def State.answerFiled (s : State) (r : Request) : Filed → State
  | .replaced held p => s.answer r .ok (u8 1 ++ bit held ++ u8 p)
  | .added held p => s.answer r .ok (u8 0 ++ bit held ++ u8 p)
  | .full => s.answer r .queueFull []

/-- Files a retune for management and answers it. -/
def State.fileFor (s : State) (r : Request) (l : LinkId) (t : Target) (reason : Reason) (force : Bool) : State :=
  let (s, filed) := s.fileRetune l t reason force
  s.answerFiled r filed

/-- FORCE is present when its byte is not 0 (01 section 1.2). -/
def forceAt (args : List Byte) (i : Nat) : Bool := byteAt args i != 0

/-- The target that ASSIGN, RETUNE and SET BACKUP carry after the link. -/
def targetArg (args : List Byte) : Option Target := Target.ofCode? (u32At args 2) (u8At args 1)

/-- ASSIGN (R80). -/
def State.assign (s : State) (r : Request) : State :=
  match indexOf? 80 (u8At r.args 0), targetArg r.args with
  | none, _ => s.answer r .badIndex []
  | some _, none => s.answer r .badValue []
  | some l, some t =>
    if !targetOk (some t) then s.answer r .badValue []
    else if s.links[l].state ≠ .idle then s.answer r .badState []
    else s.fileFor r l t .assign (forceAt r.args 6)

/-- Is the link in a state in which RETUNE applies (R81)? -/
def LinkState.onCarrier : LinkState → Bool
  | .up | .faded | .lost => true
  | .unused | .idle | .assigning | .retuning => false

/-- RETUNE (R81). -/
def State.retune (s : State) (r : Request) : State :=
  match indexOf? 80 (u8At r.args 0), targetArg r.args with
  | none, _ => s.answer r .badIndex []
  | some _, none => s.answer r .badValue []
  | some l, some t =>
    if t ≠ .backup ∧ !targetOk (some t) then s.answer r .badValue []
    else if !s.links[l].state.onCarrier then s.answer r .badState []
    else if t = .backup ∧ s.links[l].standby = none then s.answer r .noBackup []
    else s.fileFor r l t .operator (forceAt r.args 6)

/-- ABORT RETUNE (R117, R89): the queue entry goes in every case, and the context's part decides the reply. -/
def State.abortRetune (s : State) (r : Request) : State :=
  match indexOf? 80 (u8At r.args 0) with
  | none => s.answer r .badIndex []
  | some l =>
    let (s, result) := (s.removeEntry l).abortContext l (s.queued l)
    s.answer r result []

/-- SET BACKUP (R82). -/
def State.setBackup (s : State) (r : Request) : State :=
  match indexOf? 80 (u8At r.args 0), targetArg r.args with
  | none, _ => s.answer r .badIndex []
  | some _, none => s.answer r .badValue []
  | some l, some t =>
    if !targetOk (some t) then s.answer r .badValue []
    else if s.links[l].state = .unused ∨ s.links[l].state = .idle then s.answer r .badState []
    else
      s.fileCoord r { kind := .pickBackup, filer := .management r.id, link := some l, target := t, cls := s.links[l].cls }

/-- RELEASE (R83): the ACTIVE entry and then the STANDBY entry are released, and the link becomes IDLE. -/
def State.releaseLink (s : State) (r : Request) : State :=
  match indexOf? 80 (u8At r.args 0) with
  | none => s.answer r .badIndex []
  | some l =>
    let x := s.links[l]
    if x.state = .unused then s.answer r .badState []
    else if x.state = .assigning ∨ x.state = .retuning ∨ s.queued l then s.answer r .busy []
    else if x.state = .idle then s.answer r .ok []
    else if x.live ∧ !forceAt r.args 1 then s.answer r .live []
    else (((s.releaseOpt x.active).releaseOpt x.standby).setLinkState l .idle).answer r .ok []

/-- UNDEFINE (R84). -/
def State.undefine (s : State) (r : Request) : State :=
  match indexOf? 80 (u8At r.args 0) with
  | none => s.answer r .badIndex []
  | some l =>
    if s.links[l].state ≠ .idle then s.answer r .badState []
    else if s.queued l then s.answer r .busy []
    else (s.setLinkState l .unused).answer r .ok []

/-! ### The rows -/

/-- LINK_READ (R72). -/
def execLinkRead (s : State) : Answer := s.settled fun s => s.take (hasCode 0x16) State.linkRead

/-- LINK_WRITE (R73). -/
def execLinkWrite (s : State) : Answer := s.settled fun s => s.take (hasCode 0x17) State.linkWrite

/-- CANDIDATES_READ (R76). -/
def execCandidatesRead (s : State) : Answer := s.settled fun s => s.take (hasCode 0x18) State.candidatesRead

/-- CANDIDATES_WRITE (R76). -/
def execCandidatesWrite (s : State) : Answer := s.settled fun s => s.take (hasCode 0x19) State.candidatesWrite

/-- ASSIGN (R80). -/
def execAssign (s : State) : Answer := s.settled fun s => s.take (hasCode 0x30) State.assign

/-- RETUNE (R81). -/
def execRetune (s : State) : Answer := s.settled fun s => s.take (hasCode 0x31) State.retune

/-- ABORT_RETUNE (R117). -/
def execAbortRetune (s : State) : Answer := s.settled fun s => s.take (hasCode 0x32) State.abortRetune

/-- SET_BACKUP (R82). -/
def execSetBackup (s : State) : Answer := s.settled fun s => s.take (hasCode 0x33) State.setBackup

/-- RELEASE (R83). -/
def execRelease (s : State) : Answer := s.settled fun s => s.take (hasCode 0x34) State.releaseLink

/-- UNDEFINE (R84). -/
def execUndefine (s : State) : Answer := s.settled fun s => s.take (hasCode 0x35) State.undefine

end Sys2Proof.Machine
end

