-- ==== Sys2Proof/Machine/TableRequests.lean ====
section
/-! DEFINITION. Management requests of the link monitor (PROFILE, READ MONITOR; chapter 07), the scan engine (SCAN LIST, SCAN START, SCAN STOP, SCAN RELEASE; chapter 08) and the tally processor (TALLY MAP, LAMP LINE; chapter 09). -/

namespace Sys2Proof.Machine

/-! ### Profiles (R120, R121) -/

/-- The nine fields of a profile (R120). -/
def Profile.bytes (p : Profile) : List Byte :=
  s8 p.low ++ s8 p.high ++ u8 p.levelCount ++ u8 p.qualityLimit ++ u8 p.qualityCount ++ u8 p.lowDir.code
    ++ u8 p.highDir.code ++ u8 p.timeout ++ u8 p.battery

/-- The profile a PROFILE write carries, its counts and timeout clamped, where R121 accepts its fields. -/
def profileOf? (args : List Byte) : Option Profile :=
  match Direction.ofCode? (u8At args 6), Direction.ofCode? (u8At args 7) with
  | some lowDir, some highDir =>
    let low := s8At args 1
    let high := s8At args 2
    let quality := u8At args 4
    let battery := u8At args 9
    if low < -127 ∨ 0 < low ∨ high < -127 ∨ 0 < high ∨ high ≤ low ∨ 100 < quality ∨ 100 < battery then none
    else some { low, high, levelCount := clamp 1 8 (u8At args 3), qualityLimit := quality
                qualityCount := clamp 1 8 (u8At args 5), lowDir, highDir, timeout := clamp 1 250 (u8At args 8), battery }
  | _, _ => none

/-- A PROFILE read (R120). -/
def State.profileRead (s : State) (r : Request) : State :=
  match indexOf? 8 (u8At r.args 0) with
  | none => s.answer r .badIndex []
  | some i => s.answer r .ok s.profiles[i].bytes

/-- A PROFILE write (R121). -/
def State.profileWrite (s : State) (r : Request) : State :=
  match indexOf? 8 (u8At r.args 0), profileOf? r.args with
  | none, _ => s.answer r .badIndex []
  | some _, none => s.answer r .badValue []
  | some i, some p => { s with profiles := put s.profiles i p }.answer r .ok p.bytes

/-! ### READ MONITOR (R125) -/

/-- The monitor state fields, in the order of R123, the crossed flags together in one byte. -/
def Monitor.bytes (m : Monitor) : List Byte :=
  u8 m.side.code ++ u8 m.runSide.code ++ u8 m.run ++ bit m.poor ++ u8 m.qualityRun ++ u8 m.lockRun ++ bit m.lockLost
    ++ u8 m.silence ++ bit m.batteryLow ++ flagByte [m.lowCrossed, m.highCrossed]

/-- The last-sample record, in the order of R124. -/
def Sample.bytes (x : Sample) : List Byte :=
  s8 x.raw ++ s8 x.corrected ++ u8 x.quality ++ u8 x.battery ++ bit x.lock ++ u32 x.freq ++ half x.arrival ++ bit x.fresh

/-- What a READ MONITOR clears after its reply is formed: the fresh flag, and the crossed flags asked for (R125). -/
def State.clearMonitor (s : State) (l : LinkId) (args : List Byte) : State :=
  let m := s.monitors[l]
  let s := s.setMonitor l { m with lowCrossed := m.lowCrossed && !flagAt args 1 0
                                   highCrossed := m.highCrossed && !flagAt args 1 1 }
  { s with samples := put s.samples l { s.samples[l] with fresh := false } }

/-- READ MONITOR (R125). -/
def State.readMonitor (s : State) (r : Request) : State :=
  match indexOf? 80 (u8At r.args 0) with
  | none => s.answer r .badIndex []
  | some l =>
    let x := s.links[l]
    let data := u8 x.state.code ++ index x.profile ++ s8 x.offset ++ s.monitors[l].bytes ++ s.samples[l].bytes
    (s.clearMonitor l r.args).answer r .ok data

/-! ### The scan list (R140) and the scan operations (R143, R150) -/

/-- The four fields of a segment (R140). -/
def Segment.bytes (g : Segment) : List Byte := u32 g.start ++ u32 g.stop ++ u32 g.step ++ flagByte [g.enabled]

/-- The segment a SCAN LIST write carries, its step clamped (R140). -/
def segmentOf (args : List Byte) : Segment :=
  { start := u32At args 1, stop := u32At args 5, step := clamp 25 1000 (u32At args 9), enabled := flagAt args 13 0 }

/-- The points of a segment (R140). -/
def Segment.points (g : Segment) : Nat := (g.stop - g.start) / g.step + 1

/-- May an enabled segment be stored (R140)? -/
def Segment.ok (g : Segment) : Bool := freqOk g.start && freqOk g.stop && g.start ≤ g.stop && g.points ≤ 65536

/-- A SCAN LIST read (R140). -/
def State.scanListRead (s : State) (r : Request) : State :=
  match indexOf? 16 (u8At r.args 0) with
  | none => s.answer r .badIndex []
  | some i => s.answer r .ok s.scan.segments[i].bytes

/-- A SCAN LIST write (R140). -/
def State.scanListWrite (s : State) (r : Request) : State :=
  match indexOf? 16 (u8At r.args 0) with
  | none => s.answer r .badIndex []
  | some i =>
    let g := segmentOf r.args
    if s.scan.state = .scanning then s.answer r .busy []
    else if g.enabled ∧ !g.ok then s.answer r .badValue []
    else { s with scan := { s.scan with segments := put s.scan.segments i g } }.answer r .ok g.bytes

/-- SCAN START (R143). -/
def State.scanStart (s : State) (r : Request) : State :=
  if s.scan.state = .idle then
    if s.agent.quiesce = .running ∧ s.hasSegments then (s.beginScan).answer r .ok [] else s.answer r .badState []
  else (s.raiseStartIgnored 1).answer r .ok []

/-- SCAN STOP (R150). -/
def State.scanStop (s : State) (r : Request) : State := s.stopScan.answer r .ok []

/-- SCAN RELEASE (R150). -/
def State.scanRelease (s : State) (r : Request) : State :=
  if s.scan.state = .stopped then { s with scan := { s.scan with state := .idle } }.answer r .ok []
  else s.answer r .badState []

/-! ### The tally map and the lamp lines (R154, R155) -/

/-- The three fields of a map entry: the list of links, the lamp line set with line 0 in bit 0 of the second byte, and the
output mix index (R154). -/
def MapEntry.bytes (e : MapEntry) : List Byte :=
  u8 e.links.length ++ e.links.map linkByte ++ half e.lamps ++ index e.mix

/-- The links of a TALLY MAP write, where each identifier is in range. -/
def mapLinks? (args : List Byte) : Option (List LinkId) :=
  ((List.range (u8At args 1)).map fun i => u8At args (2 + i)).mapM (indexOf? 80)

/-- The entry a TALLY MAP write carries, where R154 accepts its fields. -/
def mapEntryOf? (args : List Byte) : Option MapEntry :=
  let n := u8At args 1
  let mix := u8At args (4 + n)
  match mapLinks? args with
  | some links =>
    if 4 < n ∨ ¬ links.Nodup ∨ (32 ≤ mix ∧ mix ≠ 255) then none
    else some { links, lamps := BitVec.ofNat 16 (u16At args (2 + n)), mix := indexOf? 32 mix }
  | none => none

/-- A TALLY MAP read: the written entry, and whether it waits for the next application (R154). -/
def State.tallyMapRead (s : State) (r : Request) : State :=
  match sourceOf? (u8At r.args 0) with
  | none => s.answer r .badIndex []
  | some i => s.answer r .ok (s.tally.written[i].bytes ++ bit (decide (s.tally.written[i] ≠ s.tally.inEffect[i])))

/-- A TALLY MAP write (R154). -/
def State.tallyMapWrite (s : State) (r : Request) : State :=
  match sourceOf? (u8At r.args 0), mapEntryOf? r.args with
  | none, _ => s.answer r .badIndex []
  | some _, none => s.answer r .badValue []
  | some i, some e => { s with tally := { s.tally with written := put s.tally.written i e } }.answer r .ok []

/-- A LAMP LINE read (R155). -/
def State.lampLineRead (s : State) (r : Request) : State :=
  match indexOf? 16 (u8At r.args 0) with
  | none => s.answer r .badIndex []
  | some n =>
    let x := s.tally.lamps[n]
    s.answer r .ok (u8 x.written.code ++ u8 x.inEffect.code ++ bit x.on)

/-- A LAMP LINE write (R155). -/
def State.lampLineWrite (s : State) (r : Request) : State :=
  match indexOf? 16 (u8At r.args 0), LampMode.ofCode? (u8At r.args 1) with
  | none, _ => s.answer r .badIndex []
  | some _, none => s.answer r .badValue []
  | some n, some m =>
    { s with tally := { s.tally with lamps := put s.tally.lamps n { s.tally.lamps[n] with written := m } } }.answer r .ok []

/-! ### The rows -/

/-- PROFILE_READ (R120). -/
def execProfileRead (s : State) : Answer := s.settled fun s => s.take (hasCode 0x1A) State.profileRead

/-- PROFILE_WRITE (R121). -/
def execProfileWrite (s : State) : Answer := s.settled fun s => s.take (hasCode 0x1B) State.profileWrite

/-- READ_MONITOR (R125). -/
def execReadMonitor (s : State) : Answer := s.settled fun s => s.take (hasCode 0x48) State.readMonitor

/-- SCAN_LIST_READ (R140). -/
def execScanListRead (s : State) : Answer := s.settled fun s => s.take (hasCode 0x1C) State.scanListRead

/-- SCAN_LIST_WRITE (R140). -/
def execScanListWrite (s : State) : Answer := s.settled fun s => s.take (hasCode 0x1D) State.scanListWrite

/-- SCAN_START (R143). -/
def execScanStart (s : State) : Answer := s.settled fun s => s.take (hasCode 0x40) State.scanStart

/-- SCAN_STOP (R150). -/
def execScanStop (s : State) : Answer := s.settled fun s => s.take (hasCode 0x41) State.scanStop

/-- SCAN_RELEASE (R150). -/
def execScanRelease (s : State) : Answer := s.settled fun s => s.take (hasCode 0x42) State.scanRelease

/-- TALLY_MAP_READ (R154). -/
def execTallyMapRead (s : State) : Answer := s.settled fun s => s.take (hasCode 0x1E) State.tallyMapRead

/-- TALLY_MAP_WRITE (R154). -/
def execTallyMapWrite (s : State) : Answer := s.settled fun s => s.take (hasCode 0x1F) State.tallyMapWrite

/-- LAMP_LINE_READ (R155). -/
def execLampLineRead (s : State) : Answer := s.settled fun s => s.take (hasCode 0x20) State.lampLineRead

/-- LAMP_LINE_WRITE (R155). -/
def execLampLineWrite (s : State) : Answer := s.settled fun s => s.take (hasCode 0x21) State.lampLineWrite

end Sys2Proof.Machine
end

