-- ==== Sys2Proof/Machine/MixRequests.lean ====
section
/-! DEFINITION. Management requests of the talkback mixer (chapter 10): INPUT, OUTPUT and CROSSPOINT. -/

namespace Sys2Proof.Machine

/-! ### Inputs (R170, R171) -/

/-- The six written fields of an input (R169). -/
def Input.writtenBytes (x : Input) : List Byte :=
  flagByte [x.enabled] ++ u8 (portCode x.port) ++ [x.addr] ++ u8 x.chan ++ u8 x.area ++ index x.link

/-- The fields of an INPUT write, its area clamped, where R170's BAD_VALUE row does not refuse them. -/
def inputOf? (args : List Byte) : Option Input :=
  match portOf? (u8At args 2) with
  | some port =>
    let addr := byteAt args 3
    let chan := u8At args 4
    let link := u8At args 6
    if 3 < chan ∨ (port = .u ∧ addr ≠ 0) ∨ (port = .d ∧ !isUnit addr) ∨ (80 ≤ link ∧ link ≠ 255) then none
    else some { enabled := flagAt args 1 0, port, addr, chan, area := clamp 2 32 (u8At args 5), link := indexOf? 80 link }
  | none => none

/-- Does the write change the source or the area (R170)? -/
def Input.moves (x w : Input) : Bool := x.port != w.port || x.addr != w.addr || x.chan != w.chan || x.area != w.area

/-- Has another enabled input the same source (R170)? -/
def State.inputConflict (s : State) (i : Fin 32) (w : Input) : Bool :=
  (List.finRange 32).any fun j => decide (j ≠ i) && s.mixer.inputs[j].enabled && s.mixer.inputs[j].port == w.port
    && s.mixer.inputs[j].addr == w.addr && s.mixer.inputs[j].chan == w.chan

/-- The blocks of the pool owned by the enabled inputs (R170). -/
def Mixer.owned (m : Mixer) : Nat := ((m.inputs.toList.filter (·.enabled)).map (·.area)).sum

/-- An input that has just been enabled, with the written fields (R170). -/
def Input.enable (w : Input) : Input := { w with state := .buffering }

/-- An input as an accepted write leaves it, by the enabled flag before and after (R170). R170's Enabled-to-Disabled row names
no storing of the written fields: the BUSY test leaves them as stored but for the linked link, and that the model stores the
written link is its choice. DESIGN CHOICE (log 40), unsafe. -/
def Input.write (x w : Input) : Input :=
  match x.enabled, w.enabled with
  | false, false => { x with port := w.port, addr := w.addr, chan := w.chan, area := w.area, link := w.link }
  | false, true => w.enable
  | true, true => { x with link := w.link }
  | true, false =>
    { x with enabled := false, port := w.port, addr := w.addr, chan := w.chan, area := w.area, link := w.link
             state := .disabled, buffer := [], lastPlayed := {}, lastSeq := none }

/-- An INPUT write: the conditions of R170 in order. The reply's "input as stored" is the six written fields, and not the
fields that the mixer keeps. DEDUCED (log 32). -/
def State.inputWrite (s : State) (r : Request) : State :=
  match indexOf? 32 (u8At r.args 0), inputOf? r.args with
  | none, _ => s.answer r .badIndex []
  | some _, none => s.answer r .badValue []
  | some i, some w =>
    let x := s.mixer.inputs[i]
    if x.enabled ∧ x.moves w then s.answer r .busy []
    else if w.enabled ∧ s.inputConflict i w then s.answer r .duplicate []
    else if !x.enabled ∧ w.enabled ∧ Config.poolBlocks < s.mixer.owned + w.area then s.answer r .noSpace []
    else (s.setInput i (x.write w)).answer r .ok (x.write w).writtenBytes

/-- The data of an INPUT read (R171). R171 gives the last-sequence byte no value while the last sequence is unknown: the byte
is then a free value, drawn anew for each request. DESIGN CHOICE (log 41), safe. -/
def Input.readBytes (x : Input) (request : Nat) : List Byte :=
  x.writtenBytes ++ u8 x.state.code ++ u8 x.buffer.length ++ [x.lastSeq.getD (Config.lastSeqUnknown request)]
    ++ bit x.lastSeq.isSome
    ++ flagByte [x.underrun, x.overflow, x.seqGap]

/-- The flags an INPUT read clears after its reply is formed (R171). -/
def Input.clear (x : Input) (args : List Byte) : Input :=
  { x with underrun := x.underrun && !flagAt args 1 0, overflow := x.overflow && !flagAt args 1 1
           seqGap := x.seqGap && !flagAt args 1 2 }

/-- An INPUT read (R171). -/
def State.inputRead (s : State) (r : Request) : State :=
  match indexOf? 32 (u8At r.args 0) with
  | none => s.answer r .badIndex []
  | some i =>
    let x := s.mixer.inputs[i]
    (s.setInput i (x.clear r.args)).answer r .ok (x.readBytes r.id)

/-! ### Outputs (R177) -/

/-- The five written fields of an output (R177). -/
def Output.writtenBytes (x : Output) : List Byte :=
  flagByte [x.enabled] ++ u8 (portCode x.port) ++ [x.addr] ++ u8 x.chan ++ u8 x.dim

/-- The fields of an OUTPUT write, its dim amount clamped, where R177 does not refuse them. -/
def outputOf? (args : List Byte) : Option Output :=
  match portOf? (u8At args 2) with
  | some port =>
    let addr := byteAt args 3
    let chan := u8At args 4
    if addr = 0 ∨ addr = 255 ∨ 3 < chan then none
    else some { enabled := flagAt args 1 0, port, addr, chan, dim := clamp 0 60 (u8At args 5) }
  | none => none

/-- An output as an accepted write leaves it: enabling restarts its sequence and clears CLIP (R177). -/
def Output.write (x w : Output) : Output :=
  if !x.enabled ∧ w.enabled then w else { w with seq := x.seq, clip := x.clip }

/-- An OUTPUT write (R177). The reply's "output as stored" is the five written fields, without the output sequence and CLIP.
DEDUCED (log 32). -/
def State.outputWrite (s : State) (r : Request) : State :=
  match indexOf? 32 (u8At r.args 0), outputOf? r.args with
  | none, _ => s.answer r .badIndex []
  | some _, none => s.answer r .badValue []
  | some o, some w =>
    (s.setOutput o (s.mixer.outputs[o].write w)).answer r .ok (s.mixer.outputs[o].write w).writtenBytes

/-- An OUTPUT read (R177). -/
def State.outputRead (s : State) (r : Request) : State :=
  match indexOf? 32 (u8At r.args 0) with
  | none => s.answer r .badIndex []
  | some o =>
    let x := s.mixer.outputs[o]
    (s.setOutput o { x with clip := x.clip && !flagAt r.args 1 0 }).answer r .ok (x.writtenBytes ++ [x.seq] ++ bit x.clip)

/-! ### Crosspoints (R178) -/

/-- The three fields of a crosspoint; the state is ON 0 or OFF 1 (R178; log 10). -/
def Crosspoint.bytes (x : Crosspoint) : List Byte :=
  u8 (if x.on then 0 else 1) ++ u8 x.gain ++ flagByte [x.dimWhenLive]

/-- The pair of indices that a CROSSPOINT request names: input, output. -/
def crosspointPair (args : List Byte) : Option (Fin 32 × Fin 32) :=
  match indexOf? 32 (u8At args 0), indexOf? 32 (u8At args 1) with
  | some i, some o => some (i, o)
  | _, _ => none

/-- The entry a CROSSPOINT write carries, its gain step clamped; a state code above 1 names no state (log 11). -/
def crosspointOf? (args : List Byte) : Option Crosspoint :=
  match u8At args 2 with
  | 0 => some { on := true, gain := clamp 0 127 (u8At args 3), dimWhenLive := flagAt args 4 0 }
  | 1 => some { on := false, gain := clamp 0 127 (u8At args 3), dimWhenLive := flagAt args 4 0 }
  | _ => none

def State.setCrosspoint (s : State) (i o : Fin 32) (x : Crosspoint) : State :=
  { s with mixer := { s.mixer with crosspoints := put s.mixer.crosspoints i (put s.mixer.crosspoints[i] o x) } }

/-- A CROSSPOINT write (R178). -/
def State.crosspointWrite (s : State) (r : Request) : State :=
  match crosspointPair r.args, crosspointOf? r.args with
  | none, _ => s.answer r .badIndex []
  | some _, none => s.answer r .badValue []
  | some (i, o), some x => (s.setCrosspoint i o x).answer r .ok x.bytes

/-- A CROSSPOINT read (R178). -/
def State.crosspointRead (s : State) (r : Request) : State :=
  match crosspointPair r.args with
  | none => s.answer r .badIndex []
  | some (i, o) => s.answer r .ok s.mixer.crosspoints[i][o].bytes

/-! ### The rows -/

/-- INPUT_READ (R171). -/
def execInputRead (s : State) : Answer := s.settled fun s => s.take (hasCode 0x22) State.inputRead

/-- INPUT_WRITE (R170). -/
def execInputWrite (s : State) : Answer := s.settled fun s => s.take (hasCode 0x23) State.inputWrite

/-- OUTPUT_READ (R177). -/
def execOutputRead (s : State) : Answer := s.settled fun s => s.take (hasCode 0x24) State.outputRead

/-- OUTPUT_WRITE (R177). -/
def execOutputWrite (s : State) : Answer := s.settled fun s => s.take (hasCode 0x25) State.outputWrite

/-- CROSSPOINT_READ (R178). -/
def execCrosspointRead (s : State) : Answer := s.settled fun s => s.take (hasCode 0x26) State.crosspointRead

/-- CROSSPOINT_WRITE (R178). -/
def execCrosspointWrite (s : State) : Answer := s.settled fun s => s.take (hasCode 0x27) State.crosspointWrite

end Sys2Proof.Machine
end

