-- ==== Sys2Proof/Machine/Settings.lean ====
section
/-! DEFINITION. CONFIG (R189): each setting's judgement, storing and reading by its owner's rule, the write judged item by item and stored whole, and the read. -/

namespace Sys2Proof.Machine

/-! ### Each setting's judgement: the refusal its owner gives the written value, if any -/

/-- Frame rate: a code outside 0-5 is refused (R20). -/
def judgeFrameRate (v : List Byte) : Option Result :=
  if (FrameRate.ofCode? (u8At v 0)).isSome then none else some .badValue

/-- Auto-relock: a value above 1 is refused (R189). -/
def judgeAutoRelock (v : List Byte) : Option Result := if 1 < u8At v 0 then some .badValue else none

/-- The six coordination settings: refused while a counted carrier other than a BLOCKED one exists (R42). -/
def State.judgeCoordSetting (s : State) : Option Result := if s.planInUse then some .planInUse else none

/-- The value a CONFIG write gives a one-byte setting, if it names it. -/
def writtenByte (items : List ConfigItem) (id : Nat) : Option Nat :=
  (items.find? (·.id = id)).map fun x => u8At x.value 0

/-- The address a sweep receiver would hold after the write. -/
def State.receiverAfter (s : State) (items : List ConfigItem) (r : Receiver) : Nat :=
  match r with
  | .a => (writtenByte items 12).getD s.scan.settings.recvA.toNat
  | .b => (writtenByte items 13).getD s.scan.settings.recvB.toNat

/-- Would both sweep receivers hold the same non-zero address (R141)? -/
def State.receiversClash (s : State) (items : List ConfigItem) : Bool :=
  s.receiverAfter items .a == s.receiverAfter items .b && s.receiverAfter items .a != 0

/-- Is the clash the fault of this item, the write's `position`-th? Where the write names both receivers, which of the two
items it is, is a free value (R141, R189; log 9). -/
def clashHere (items : List ConfigItem) (position other : Nat) : Bool :=
  match items.findIdx? (·.id = other) with
  | none => true
  | some p => if position < p then !Config.clashAtLater else true

/-- A sweep receiver: an address above 239, the clash, and SCANNING, in the order of R141. -/
def State.judgeReceiver (s : State) (items : List ConfigItem) (position other : Nat) (v : List Byte) : Option Result :=
  if 239 < u8At v 0 then some .badValue
  else if s.receiversClash items && clashHere items position other then some .badValue
  else if s.scan.state = .scanning then some .busy
  else none

/-- Scan mode: a code above 2 is refused (R141). -/
def judgeScanMode (v : List Byte) : Option Result :=
  if (ScanMode.ofCode? (u8At v 0)).isSome then none else some .badValue

/-- Scan layout: a code above 1, and SCANNING (R141). For a write that meets both, R141 gives no order: BAD_VALUE comes
first. DESIGN CHOICE (log 38). -/
def State.judgeLayout (s : State) (v : List Byte) : Option Result :=
  if 1 < u8At v 0 then some .badValue else if s.scan.state = .scanning then some .busy else none

/-- Do two adjacent foreign list entries lie within a width (R141)? -/
def adjacentWithin (width : Nat) : List Nat → Bool
  | f :: g :: rest => decide (apart f g ≤ width) || adjacentWithin width (g :: rest)
  | [_] => false
  | [] => false

/-- The merge width as it is stored: clamped into 25-500 (R141). -/
def mergeWidthOf (v : List Byte) : Nat := clamp 25 500 (u32At v 0)

/-- Merge width: refused when it would join adjacent foreign list entries (R141). -/
def State.judgeMergeWidth (s : State) (v : List Byte) : Option Result :=
  if adjacentWithin (mergeWidthOf v) (s.scan.foreign.map (·.freq)) then some .busy else none

/-- Stale action: a code above 1 is refused (R164). -/
def judgeStaleAction (v : List Byte) : Option Result :=
  if (StaleAction.ofCode? (u8At v 0)).isSome then none else some .badValue

/-- The owner's judgement of an item, by its identifier; the others are clamped and never refused. -/
def State.judgeOwner (s : State) (items : List ConfigItem) (position : Nat) (x : ConfigItem) : Option Result :=
  match x.id with
  | 1 => judgeFrameRate x.value
  | 2 => judgeAutoRelock x.value
  | 4 | 5 | 6 | 7 | 8 | 9 => s.judgeCoordSetting
  | 12 => s.judgeReceiver items position 13 x.value
  | 13 => s.judgeReceiver items position 12 x.value
  | 14 => judgeScanMode x.value
  | 16 => s.judgeLayout x.value
  | 19 => s.judgeMergeWidth x.value
  | 22 => judgeStaleAction x.value
  | _ => none

/-- An item is judged (R189): an unknown identifier, a second naming, and then its owner's judgement. -/
def State.judgeItem (s : State) (items : List ConfigItem) (position : Nat) (x : ConfigItem) : Option Result :=
  if settingSize x.id = none then some .badIndex
  else if (items.take position).any (·.id = x.id) then some .badValue
  else s.judgeOwner items position x

/-- The first refusal of a write, with the identifier of the refused item (R189). -/
def State.firstRefusal (s : State) (items : List ConfigItem) : Option (Result × Nat) :=
  items.zipIdx.findSome? fun p => (s.judgeItem items p.2 p.1).map fun res => (res, p.1.id)

/-! ### Each setting's storing -/

/-- R20. -/
def State.storeFrameRate (s : State) (v : List Byte) : State :=
  match FrameRate.ofCode? (u8At v 0) with
  | some rate => s.setTiming { s.timing with rate }
  | none => s

/-- R20. -/
def State.storeAutoRelock (s : State) (v : List Byte) : State :=
  s.setTiming { s.timing with autoRelock := u8At v 0 == 1 }

/-- R18: clamped into 2-50. -/
def State.storeSwitchLead (s : State) (v : List Byte) : State := { s with switchLead := clamp 2 50 (u8At v 0) }

/-- A coordination setting as stored: rounded down to a multiple of 25 kHz and clamped into its range (R42). -/
def roundedSetting (lo hi : Nat) (v : List Byte) : Nat := clamp lo hi (u32At v 0 / 25 * 25)

def State.setSettings (s : State) (g : CoordSettings) : State := { s with plan := { s.plan with settings := g } }

/-- G_NN: 0-1,000 (R42). -/
def State.storeGNN (s : State) (v : List Byte) : State :=
  s.setSettings { s.plan.settings with gNN := roundedSetting 0 1000 v }

/-- G_WW: 0-10,000 (R42). -/
def State.storeGWW (s : State) (v : List Byte) : State :=
  s.setSettings { s.plan.settings with gWW := roundedSetting 0 10000 v }

/-- G_NW: 0-10,000 (R42). -/
def State.storeGNW (s : State) (v : List Byte) : State :=
  s.setSettings { s.plan.settings with gNW := roundedSetting 0 10000 v }

/-- W: 25-500 (R42). -/
def State.storeW (s : State) (v : List Byte) : State :=
  s.setSettings { s.plan.settings with w := roundedSetting 25 500 v }

/-- W3: 0-500 (R42). -/
def State.storeW3 (s : State) (v : List Byte) : State :=
  s.setSettings { s.plan.settings with w3 := roundedSetting 0 500 v }

/-- G_F: 25-1,000 (R42). -/
def State.storeGF (s : State) (v : List Byte) : State :=
  s.setSettings { s.plan.settings with gF := roundedSetting 25 1000 v }

/-- Answer timeout: 1-15 (R97). -/
def State.storeAnswerTimeout (s : State) (v : List Byte) : State :=
  { s with unit := { s.unit with answerTimeout := clamp 1 15 (u8At v 0) } }

/-- Confirm window: 2-100 (R106). -/
def State.storeConfirmWindow (s : State) (v : List Byte) : State := { s with confirmWindow := clamp 2 100 (u8At v 0) }

def State.setScanSettings (s : State) (g : ScanSettings) : State := { s with scan := { s.scan with settings := g } }

/-- R141. -/
def State.storeSweepReceiverA (s : State) (v : List Byte) : State :=
  s.setScanSettings { s.scan.settings with recvA := byteAt v 0 }

/-- R141. -/
def State.storeSweepReceiverB (s : State) (v : List Byte) : State :=
  s.setScanSettings { s.scan.settings with recvB := byteAt v 0 }

/-- R141. -/
def State.storeScanMode (s : State) (v : List Byte) : State :=
  match ScanMode.ofCode? (u8At v 0) with
  | some mode => s.setScanSettings { s.scan.settings with mode }
  | none => s

/-- R141. -/
def State.storeTriggerPeriod (s : State) (v : List Byte) : State :=
  s.setScanSettings { s.scan.settings with triggerPeriod := BitVec.ofNat 16 (u16At v 0) }

/-- R141. -/
def State.storeScanLayout (s : State) (v : List Byte) : State :=
  s.setScanSettings { s.scan.settings with parallel := u8At v 0 == 1 }

/-- Segment timeout: 1-250 (R141). -/
def State.storeSegmentTimeout (s : State) (v : List Byte) : State :=
  s.setScanSettings { s.scan.settings with segmentTimeout := clamp 1 250 (u8At v 0) }

/-- Occupancy threshold: -127..0 dBm (R141). -/
def State.storeOccupancyThreshold (s : State) (v : List Byte) : State :=
  s.setScanSettings { s.scan.settings with threshold := clampInt (-127) 0 (s8At v 0) }

/-- Merge width: 25-500 (R141). -/
def State.storeMergeWidth (s : State) (v : List Byte) : State :=
  s.setScanSettings { s.scan.settings with mergeWidth := mergeWidthOf v }

/-- Age limit: 1-15 (R141). -/
def State.storeAgeLimit (s : State) (v : List Byte) : State :=
  s.setScanSettings { s.scan.settings with ageLimit := clamp 1 15 (u8At v 0) }

/-- Tally timeout: 1-250 (R164). -/
def State.storeTallyTimeout (s : State) (v : List Byte) : State :=
  { s with tally := { s.tally with timeout := clamp 1 250 (u8At v 0) } }

/-- R164. -/
def State.storeStaleAction (s : State) (v : List Byte) : State :=
  match StaleAction.ofCode? (u8At v 0) with
  | some action => { s with tally := { s.tally with action } }
  | none => s

/-- Stores an item by its identifier. -/
def State.storeItem (s : State) (x : ConfigItem) : State :=
  match x.id with
  | 1 => s.storeFrameRate x.value
  | 2 => s.storeAutoRelock x.value
  | 3 => s.storeSwitchLead x.value
  | 4 => s.storeGNN x.value
  | 5 => s.storeGWW x.value
  | 6 => s.storeGNW x.value
  | 7 => s.storeW x.value
  | 8 => s.storeW3 x.value
  | 9 => s.storeGF x.value
  | 10 => s.storeAnswerTimeout x.value
  | 11 => s.storeConfirmWindow x.value
  | 12 => s.storeSweepReceiverA x.value
  | 13 => s.storeSweepReceiverB x.value
  | 14 => s.storeScanMode x.value
  | 15 => s.storeTriggerPeriod x.value
  | 16 => s.storeScanLayout x.value
  | 17 => s.storeSegmentTimeout x.value
  | 18 => s.storeOccupancyThreshold x.value
  | 19 => s.storeMergeWidth x.value
  | 20 => s.storeAgeLimit x.value
  | 21 => s.storeTallyTimeout x.value
  | 22 => s.storeStaleAction x.value
  | _ => s

/-! ### Each setting's value, as CONFIG returns it (R189) -/

/-- The value bytes of a setting. -/
def State.settingBytes (s : State) : Nat → List Byte
  | 1 => u8 s.timing.rate.code
  | 2 => bit s.timing.autoRelock
  | 3 => u8 s.switchLead
  | 4 => u32 s.plan.settings.gNN
  | 5 => u32 s.plan.settings.gWW
  | 6 => u32 s.plan.settings.gNW
  | 7 => u32 s.plan.settings.w
  | 8 => u32 s.plan.settings.w3
  | 9 => u32 s.plan.settings.gF
  | 10 => u8 s.unit.answerTimeout
  | 11 => u8 s.confirmWindow
  | 12 => [s.scan.settings.recvA]
  | 13 => [s.scan.settings.recvB]
  | 14 => u8 s.scan.settings.mode.code
  | 15 => half s.scan.settings.triggerPeriod
  | 16 => bit s.scan.settings.parallel
  | 17 => u8 s.scan.settings.segmentTimeout
  | 18 => s8 s.scan.settings.threshold
  | 19 => u32 s.scan.settings.mergeWidth
  | 20 => u8 s.scan.settings.ageLimit
  | 21 => u8 s.tally.timeout
  | 22 => u8 s.tally.action.code
  | _ => []

/-- An item as CONFIG returns it: identifier and value. -/
def State.itemBytes (s : State) (id : Nat) : List Byte := u8 id ++ s.settingBytes id

/-! ### The write and the read (R189) -/

/-- Is the identifier a coordination setting's (R42)? -/
def isCoordSetting (id : Nat) : Bool := 4 ≤ id && id ≤ 9

/-- Stores every item; a write that names a coordination setting marks an attempt in progress stale (R43). -/
def State.storeItems (s : State) (items : List ConfigItem) : State :=
  let s := items.foldl State.storeItem s
  if items.any fun x => isCoordSetting x.id then s.markStale else s

/-- A CONFIG write (R189): the first refusal decides and nothing is stored; otherwise every item is, and the reply carries
the items as stored. -/
def State.configWrite (s : State) (r : Request) : State :=
  match configItems r.args with
  | none => s.answer r .badValue []
  | some items =>
    match s.firstRefusal items with
    | some (res, id) => s.answer r res (u8 id)
    | none =>
      let s := s.storeItems items
      s.answer r .ok (items.flatMap fun x => s.itemBytes x.id)

/-- As many whole items as fit in the given room, from the first on (R189). -/
def State.fitItems (s : State) : Nat → List Nat → List Byte
  | _, [] => []
  | room, id :: rest =>
    let b := s.itemBytes id
    if b.length ≤ room then b ++ s.fitItems (room - b.length) rest else []

/-- The identifiers of a CONFIG read. -/
def readIds (args : List Byte) : List Nat := (List.range (u8At args 0)).map fun i => u8At args (1 + i)

/-- A CONFIG read (R189). -/
def State.configRead (s : State) (r : Request) : State :=
  if (readIds r.args).all fun id => (settingSize id).isSome then
    s.answer r .ok (s.fitItems Config.replyData (readIds r.args))
  else s.answer r .badIndex []

/-! ### The rows: each is a CONFIG write that names its setting (log 3) -/

/-- CONFIG_READ (R189). -/
def execConfigRead (s : State) : Answer := s.settled fun s => s.take (hasCode 0x28) State.configRead

/-- CONFIG_FRAME_RATE (R20, R189). -/
def execConfigFrameRate (s : State) : Answer := s.settled fun s => s.take (writesSetting 1) State.configWrite

/-- CONFIG_AUTO_RELOCK (R20, R189). -/
def execConfigAutoRelock (s : State) : Answer := s.settled fun s => s.take (writesSetting 2) State.configWrite

/-- CONFIG_SWITCH_LEAD (R18, R189). -/
def execConfigSwitchLead (s : State) : Answer := s.settled fun s => s.take (writesSetting 3) State.configWrite

/-- CONFIG_G_NN (R42, R189). -/
def execConfigGNN (s : State) : Answer := s.settled fun s => s.take (writesSetting 4) State.configWrite

/-- CONFIG_G_WW (R42, R189). -/
def execConfigGWW (s : State) : Answer := s.settled fun s => s.take (writesSetting 5) State.configWrite

/-- CONFIG_G_NW (R42, R189). -/
def execConfigGNW (s : State) : Answer := s.settled fun s => s.take (writesSetting 6) State.configWrite

/-- CONFIG_W (R42, R189). -/
def execConfigW (s : State) : Answer := s.settled fun s => s.take (writesSetting 7) State.configWrite

/-- CONFIG_W3 (R42, R189). -/
def execConfigW3 (s : State) : Answer := s.settled fun s => s.take (writesSetting 8) State.configWrite

/-- CONFIG_G_F (R42, R189). -/
def execConfigGF (s : State) : Answer := s.settled fun s => s.take (writesSetting 9) State.configWrite

/-- CONFIG_ANSWER_TIMEOUT (R97, R189). -/
def execConfigAnswerTimeout (s : State) : Answer := s.settled fun s => s.take (writesSetting 10) State.configWrite

/-- CONFIG_CONFIRM_WINDOW (R106, R189). -/
def execConfigConfirmWindow (s : State) : Answer := s.settled fun s => s.take (writesSetting 11) State.configWrite

/-- CONFIG_SWEEP_RECEIVER_A (R141, R189). -/
def execConfigSweepReceiverA (s : State) : Answer := s.settled fun s => s.take (writesSetting 12) State.configWrite

/-- CONFIG_SWEEP_RECEIVER_B (R141, R189). -/
def execConfigSweepReceiverB (s : State) : Answer := s.settled fun s => s.take (writesSetting 13) State.configWrite

/-- CONFIG_SCAN_MODE (R141, R189). -/
def execConfigScanMode (s : State) : Answer := s.settled fun s => s.take (writesSetting 14) State.configWrite

/-- CONFIG_TRIGGER_PERIOD (R141, R189). -/
def execConfigTriggerPeriod (s : State) : Answer := s.settled fun s => s.take (writesSetting 15) State.configWrite

/-- CONFIG_SCAN_LAYOUT (R141, R189). -/
def execConfigScanLayout (s : State) : Answer := s.settled fun s => s.take (writesSetting 16) State.configWrite

/-- CONFIG_SEGMENT_TIMEOUT (R141, R189). -/
def execConfigSegmentTimeout (s : State) : Answer := s.settled fun s => s.take (writesSetting 17) State.configWrite

/-- CONFIG_OCCUPANCY_THRESHOLD (R141, R189). -/
def execConfigOccupancyThreshold (s : State) : Answer := s.settled fun s => s.take (writesSetting 18) State.configWrite

/-- CONFIG_MERGE_WIDTH (R141, R189). -/
def execConfigMergeWidth (s : State) : Answer := s.settled fun s => s.take (writesSetting 19) State.configWrite

/-- CONFIG_AGE_LIMIT (R141, R189). -/
def execConfigAgeLimit (s : State) : Answer := s.settled fun s => s.take (writesSetting 20) State.configWrite

/-- CONFIG_TALLY_TIMEOUT (R164, R189). -/
def execConfigTallyTimeout (s : State) : Answer := s.settled fun s => s.take (writesSetting 21) State.configWrite

/-- CONFIG_STALE_ACTION (R164, R189). -/
def execConfigStaleAction (s : State) : Answer := s.settled fun s => s.take (writesSetting 22) State.configWrite

end Sys2Proof.Machine
end

