-- ==== Sys2Proof/Machine/ControlRequests.lean ====
section
/-! DEFINITION. Management requests of the agent and the unit channel: READ STATUS, CLEAR STATUS, REPORT ENABLE, QUIESCE, RESUME, WARM RESET, COLD RESET, IDENTIFY (chapter 11) and UNIT COMMAND (R104). -/

namespace Sys2Proof.Machine

/-! ### READ STATUS (R190 and the groups' own rules) -/

/-- One byte holding how many entries of a table satisfy a test. -/
def count {α : Type} {n : Nat} (t : Vector α n) (p : α → Bool) : List Byte := u8 (countTable t p)

/-- PORT: the occupancies and the BACKOFF input (R190). -/
def State.portFields (s : State) : List Byte :=
  u8 s.uport.reply.length ++ u8 s.uport.report.length ++ u8 s.uport.audio.length ++ u8 s.uport.forward.length
    ++ bit s.dport.frameSlot.isSome ++ u8 s.dport.urgent.length ++ u8 s.dport.command.length
    ++ u8 s.dport.audio.length ++ u8 s.dport.forward.length ++ bit s.pins.backoff

/-- TIMING (R29). -/
def State.timingFields (s : State) : List Byte :=
  half s.timing.frame ++ u8 s.timing.ref.code ++ u8 s.timing.flywheel ++ u8 s.timing.good ++ u8 s.timing.origin.code
    ++ bit s.timing.armed

/-- PLAN (R49). -/
def State.planFields (s : State) : List Byte :=
  half s.plan.gen
    ++ ([.free, .reserved, .active, .standby, .retiring, .blocked] : List CarrierState).flatMap
        (fun st => count s.plan.carriers fun c => c.state == st)
    ++ count s.plan.carriers (·.suspect) ++ bit (!s.engine.queue.isEmpty) ++ u8 s.engine.queue.length
    ++ u8 (s.engine.queue.filter fun q => match q.filer with
        | .context _ => false
        | .management _ | .auto => true).length
    ++ (match s.engine.queue with
        | q :: _ => u8 q.kind.code
        | [] => [255])

/-- LINK (R91). -/
def State.linkFields (s : State) : List Byte :=
  ([.unused, .idle, .assigning, .up, .faded, .retuning, .lost] : List LinkState).flatMap
      (fun st => count s.links fun x => x.state == st)
    ++ u8 s.retuneQueue.length ++ u8 (s.retuneQueue.filter (·.held)).length
    ++ count s.contexts fun c => c.stage != .free

/-- The fields of a foreign list entry in the SCAN status (R151). -/
def Foreign.bytes (x : Foreign) : List Byte := u32 x.freq ++ s8 x.peak ++ half x.lastSeen ++ u8 x.misses

/-- SCAN, from position `p` of the foreign list (R151). -/
def State.scanFields (s : State) (p : Nat) : List Byte :=
  u8 s.scan.state.code ++ u8 s.scan.settings.mode.code ++ bit s.scan.settings.parallel ++ half s.scan.number
    ++ index s.scan.recvA.current ++ index s.scan.recvB.current ++ u8 s.scan.foreign.length
    ++ ((s.scan.foreign.drop p).take 4).flatMap Foreign.bytes

/-- The lamp line levels, line 0 in bit 0 of the second byte (R166). -/
def Tally.lampBits (t : Tally) : Half :=
  BitVec.ofNat 16 (t.lamps.toList.foldr (fun x n => x.on.toNat + 2 * n) 0)

/-- The applied source states, four to a byte, the first in bits 7-6 (R166). -/
def packStates : List TallyState → List Byte
  | a :: b :: c :: d :: rest => u8 (a.code * 64 + b.code * 16 + c.code * 4 + d.code) ++ packStates rest
  | [a, b, c] => u8 (a.code * 64 + b.code * 16 + c.code * 4)
  | [a, b] => u8 (a.code * 64 + b.code * 16)
  | [a] => u8 (a.code * 64)
  | [] => []

/-- How many camera records, those of the links of kind CAMERA, satisfy a test (R166). -/
def State.countCameras (s : State) (p : Camera → Bool) : List Byte :=
  u8 ((List.finRange 80).filter fun l => s.links[l].kind == .camera && p s.tally.cameras[l]).length

/-- TALLY (R166). -/
def State.tallyFields (s : State) : List Byte :=
  bit s.tally.stale ++ u8 s.tally.count ++ half s.tally.lampBits ++ count s.links (·.live)
    ++ s.countCameras (·.unconfirmed) ++ s.countCameras (·.busy) ++ packStates s.tally.applied.toList

/-- MIX (R183). -/
def State.mixFields (s : State) : List Byte :=
  u16 s.mixer.owned ++ count s.mixer.inputs (·.enabled)
    ++ ([.buffering, .playing, .concealing, .muted] : List InputState).flatMap
        (fun st => count s.mixer.inputs fun x => x.enabled && x.state == st)
    ++ count s.mixer.outputs (·.enabled) ++ (count s.mixer.inputs fun x => x.underrun || x.overflow || x.seqGap)
    ++ count s.mixer.outputs (·.clip)

/-- MGMT (R190). -/
def State.mgmtFields (s : State) : List Byte :=
  u8 s.agent.quiesce.code ++ u8 s.agent.requests.length ++ u8 s.uport.report.length ++ bit s.busyWaiting

/-- The fields a group returns after its flags; `p` is SCAN's further argument. -/
def State.groupFields (s : State) (g : Group) (p : Nat) : List Byte :=
  match g with
  | .port => s.portFields
  | .timing => s.timingFields
  | .plan => s.planFields
  | .link => s.linkFields
  | .scan => s.scanFields p
  | .tally => s.tallyFields
  | .mix => s.mixFields
  | .mgmt => s.mgmtFields

/-- READ STATUS (R190). -/
def State.readStatus (s : State) (r : Request) : State :=
  match Group.ofCode? (u8At r.args 0) with
  | none => s.answer r .badIndex []
  | some g =>
    s.answer r .ok ([s.agent.flags.summary] ++ s.agent.flags.bytes g ++ s.groupFields g (u8At r.args 1))

/-! ### CLEAR STATUS and REPORT ENABLE (R191, R192) -/

/-- Clears flags of a group by a mask. -/
def State.clearFlags (s : State) (g : Group) (mask : List Byte) : State :=
  { s with agent := { s.agent with flags := s.agent.flags.clear g mask } }

/-- CLEAR STATUS (R191). -/
def State.clearStatus (s : State) (r : Request) : State :=
  match Group.ofCode? (u8At r.args 0) with
  | none => s.answer r .badIndex []
  | some g =>
    if (r.args.drop 1).length < g.maskBytes then s.answer r .badValue []
    else
      let s := s.clearFlags g (r.args.drop 1)
      s.answer r .ok ([s.agent.flags.summary] ++ s.agent.flags.bytes g)

/-- The six bytes of the report enables: the bit for code k in byte k/8, bit k mod 8 (R192). -/
def enableBytes (e : BitVec 48) : List Byte := (List.range 6).map fun i => (e >>> (8 * i)).setWidth 8

/-- The report enables that six bytes carry; the bits for code 0 and for the codes above 2Eh are ignored (R192; log 20). -/
def enablesOf (args : List Byte) : BitVec 48 :=
  BitVec.ofNat 48 (natOf [byteAt args 5, byteAt args 4, byteAt args 3, byteAt args 2, byteAt args 1, byteAt args 0])
    &&& 0x7FFFFFFFFFFE

/-- REPORT ENABLE (R192). -/
def State.reportEnable (s : State) (r : Request) : State :=
  { s with agent := { s.agent with enables := enablesOf r.args } }.answer r .ok (enableBytes (enablesOf r.args))

/-! ### UNIT COMMAND (R104) -/

/-- Does a unit belong to a link not UNUSED, as portable or rack unit (R104)? -/
def State.unitManaged (s : State) (u : Byte) : Bool :=
  (List.finRange 80).any fun l => s.links[l].state != .unused && (s.links[l].portable == u || s.links[l].rack == u)

/-- UNIT COMMAND (R104): the rows in order; an accepted relay takes its slot at once and the reply waits for its end. A
slot that is FREE goes first to whoever waits for one (R94; log 19). -/
def State.unitCommand (s : State) (r : Request) : State :=
  let u := byteAt r.args 0
  let code := byteAt r.args 1
  let s := State.grantAll s.unit.waiting.length s
  if !isUnit u then s.answer r .badValue []
  else if s.agent.quiesce ≠ .running then s.answer r .noSlot []
  else if isFrequencyCommand code ∧ s.unitManaged u then s.answer r .guarded []
  else
    match s.slotFor (.relay r.id) with
    | none => s.answer r .noSlot []
    | some i =>
      (s.allocate i { owner := .relay r.id, unit := u, command := (r.args.drop 1).take 45
                      single := code == cmdSwitch || code == cmdRevert }).defer r

/-! ### Quiesce (R193) -/

def State.setQuiesce (s : State) (q : Quiesce) : State := { s with agent := { s.agent with quiesce := q } }

/-- QUIESCE (R193): the drain condition is tested at the request itself. -/
def State.quiesceRequest (s : State) (r : Request) : State :=
  if s.agent.quiesce = .running then (s.setQuiesce .quiescing).testDrain.answer r .ok [] else s.answer r .ok []

/-- RESUME (R193). -/
def State.resume (s : State) (r : Request) : State :=
  if s.agent.quiesce = .running then s.answer r .badState [] else (s.setQuiesce .running).answer r .ok []

/-! ### Warm reset (R195) -/

/-- The coordination engine and the unit channel drop their work (R51, R105). -/
def State.warmDrop (s : State) : State :=
  { s with engine := {}, unit := { s.unit with slots := Vector.replicate 16 {}, waiting := [] }, retuneQueue := [] }

/-- A context is settled by its stage (R119). -/
def State.warmSettle (s : State) (k : ContextId) : State :=
  let c := s.contexts[k]
  let early := fun (_ : Unit) =>
    (if c.target = .backup then s.changeOpt c.newEntry .standby else s.releaseOpt c.newEntry).setLinkState c.link c.prior
  match c.stage with
  | .free => s
  | .closing => s
  | .coordinate => s.setLinkState c.link c.prior
  | .prepare => early ()
  | .switch =>
    if c.committed then
      (s.releaseOpt c.newEntry).setLinkState c.link (if c.oldEntry = none then .idle else .lost)
    else early ()
  | .confirm => (s.releaseOpt c.oldEntry).setLinkState c.link .lost
  | .revert => (if c.reverted then s else s.releaseOpt c.oldEntry).setLinkState c.link .lost

/-- Every context is settled and is then FREE (R119). -/
def State.warmContexts (s : State) : State :=
  { (List.finRange 4).foldl State.warmSettle s with contexts := Vector.replicate 4 {} }

/-- Each FADED link becomes UP, and each link in UP restarts its monitor state (R93, R139). -/
def State.warmLinks (s : State) : State :=
  let links := mapTable s.links fun _ r => if r.state = .faded then { r with state := .up } else r
  { s with links, monitors := mapTable s.monitors fun l m => if links[l].state = .up then m.restart else m }

/-- The scan engine keeps its foreign list, scan list, settings and scan number (R152). -/
def Scan.warm (c : Scan) : Scan :=
  { segments := c.segments, settings := c.settings, number := c.number, foreign := c.foreign }

/-- The tally processor is stale at once, and a camera whose transaction was dropped has an UNKNOWN target (R168). The count of
TALLY_RESUMED begins at 0, and runs on where the processor was stale already. DESIGN CHOICE (log 14). -/
def Tally.warm (t : Tally) : Tally :=
  { t with stale := true, staleFrames := if t.stale then t.staleFrames else 0
           cameras := mapTable t.cameras fun _ c =>
             if c.busy then { c with busy := false, latched := none, target := none } else c }

/-- An input after a warm reset (R185). -/
def Input.warm (x : Input) : Input :=
  if x.enabled then
    { x with state := .buffering, buffer := [], lastSeq := none, lastPlayed := {}, underrun := false, overflow := false, seqGap := false }
  else { x with underrun := false, overflow := false, seqGap := false }

/-- The mixer keeps its written fields and crosspoints (R185). -/
def Mixer.warm (m : Mixer) : Mixer :=
  { m with inputs := mapTable m.inputs fun _ x => x.warm
           outputs := mapTable m.outputs fun _ x => { x with seq := 0, clip := false } }

/-- The ports stop and empty every queue (R19), the agent drops its requests, clears the flags and is RUNNING (R195). -/
def State.warmPorts (s : State) : State :=
  { s with dport := {}, uport := {}
           agent := { s.agent with requests := [], ready := [], flags := {}, quiesce := .running } }

/-- A warm reset (R195): the work is dropped, the contexts are settled, the links and monitors follow, and the other blocks
keep their show state. -/
def State.warmReset (s : State) : State :=
  let s := s.warmDrop.warmContexts.warmLinks
  { s with scan := s.scan.warm, tally := s.tally.warm, mixer := s.mixer.warm }.warmPorts

/-- WARM RESET: the reply is placed in the empty reply queue when the reset has completed (R195). -/
def State.warmResetRequest (s : State) (r : Request) : State :=
  let s := s.warmReset
  { s with uport := { s.uport with reply := s.uport.reply ++ [replyCell r.src r.tag r.code .ok []] } }

/-- COLD RESET is answered by no reply (R194). -/
def State.coldResetRequest (s : State) (_ : Request) : State := s.coldResetDone

/-! ### IDENTIFY (R196) -/

/-- The 24 bytes of IDENTIFY. -/
def identity : List Byte :=
  u16 0x0312 ++ u8 1 ++ u8 4 ++ u8 96 ++ u8 80 ++ u8 8 ++ u8 8 ++ u8 4 ++ u8 16 ++ u8 4 ++ u8 16 ++ u8 4 ++ u8 8 ++ u8 16
    ++ u8 32 ++ u8 64 ++ u8 16 ++ u8 32 ++ u8 32 ++ u16 512 ++ u8 4 ++ u8 32

/-- IDENTIFY (R196). -/
def State.identify (s : State) (r : Request) : State := s.answer r .ok identity

/-! ### The rows -/

/-- READ_STATUS (R190). -/
def execReadStatus (s : State) : Answer := s.settled fun s => s.take (hasCode 0x49) State.readStatus

/-- CLEAR_STATUS (R191). -/
def execClearStatus (s : State) : Answer := s.settled fun s => s.take (hasCode 0x4A) State.clearStatus

/-- REPORT_ENABLE (R192). -/
def execReportEnable (s : State) : Answer := s.settled fun s => s.take (hasCode 0x4B) State.reportEnable

/-- UNIT_COMMAND (R104). -/
def execUnitCommand (s : State) : Answer := s.settled fun s => s.take (hasCode 0x50) State.unitCommand

/-- QUIESCE (R193). -/
def execQuiesce (s : State) : Answer := s.settled fun s => s.take (hasCode 0x58) State.quiesceRequest

/-- RESUME (R193). -/
def execResume (s : State) : Answer := s.settled fun s => s.take (hasCode 0x59) State.resume

/-- WARM_RESET (R195). -/
def execWarmReset (s : State) : Answer := s.settled fun s => s.take (hasCode 0x5A) State.warmResetRequest

/-- COLD_RESET (R194). -/
def execColdReset (s : State) : Answer := s.settled fun s => s.take (hasCode 0x5B) State.coldResetRequest

/-- IDENTIFY (R196). -/
def execIdentify (s : State) : Answer := s.settled fun s => s.take (hasCode 0x60) State.identify

end Sys2Proof.Machine
end

