-- ==== Sys2Proof/Machine/Dispatch.lean ====
section
/-! DEFINITION. The dispatch: one command, one meaning. -/

namespace Sys2Proof.Machine

/-- The effect of a command on everything but the queue of waiting commands. -/
def exec (i : Instr) (s : State) : Host.Outcome State Fault Refusal :=
  match i with
  | .mgmtCell c => Sys2Proof.Machine.execMgmtCell c s
  | .dPortMgmtCell c => Sys2Proof.Machine.execDPortMgmtCell c s
  | .forwardedCell p c => Sys2Proof.Machine.execForwardedCell p c s
  | .commandAtGuard c => Sys2Proof.Machine.execCommandAtGuard c s
  | .transmitStart p => Sys2Proof.Machine.execTransmitStart p s
  | .transmitComplete p => Sys2Proof.Machine.execTransmitComplete p s
  | .backoffAssert => Sys2Proof.Machine.execBackoffAssert s
  | .backoffRelease => Sys2Proof.Machine.execBackoffRelease s
  | .resetAssert => Sys2Proof.Machine.execResetAssert s
  | .resetRelease => Sys2Proof.Machine.execResetRelease s
  | .powerUp => Sys2Proof.Machine.execPowerUp s
  | .marker c elapsed => Sys2Proof.Machine.execMarker c elapsed s
  | .flywheelExpiry => Sys2Proof.Machine.execFlywheelExpiry s
  | .frameTimerExpiry => Sys2Proof.Machine.execFrameTimerExpiry s
  | .relockTimeout => Sys2Proof.Machine.execRelockTimeout s
  | .coordRequestStart => Sys2Proof.Machine.execCoordRequestStart s
  | .attemptComplete => Sys2Proof.Machine.execAttemptComplete s
  | .slotGrant => Sys2Proof.Machine.execSlotGrant s
  | .slotOffer n => Sys2Proof.Machine.execSlotOffer n s
  | .pairSubmit k => Sys2Proof.Machine.execPairSubmit k s
  | .answerCell c => Sys2Proof.Machine.execAnswerCell c s
  | .answerDeadline n => Sys2Proof.Machine.execAnswerDeadline n s
  | .sweepCell c => Sys2Proof.Machine.execSweepCell c s
  | .contextTake => Sys2Proof.Machine.execContextTake s
  | .switchFrame k => Sys2Proof.Machine.execSwitchFrame k s
  | .confirmDeadline k => Sys2Proof.Machine.execConfirmDeadline k s
  | .revertFrame k => Sys2Proof.Machine.execRevertFrame k s
  | .revertConfirmExpiry k => Sys2Proof.Machine.execRevertConfirmExpiry k s
  | .telemetryCell c => Sys2Proof.Machine.execTelemetryCell c s
  | .telemetryTimeout l => Sys2Proof.Machine.execTelemetryTimeout l s
  | .scanTrigger => Sys2Proof.Machine.execScanTrigger s
  | .tallyCell c => Sys2Proof.Machine.execTallyCell c s
  | .tallyTimeout => Sys2Proof.Machine.execTallyTimeout s
  | .audioCell p c => Sys2Proof.Machine.execAudioCell p c s
  | .blockTimerExpiry => Sys2Proof.Machine.execBlockTimerExpiry s
  | .replyOffer => Sys2Proof.Machine.execReplyOffer s
  | .bandRead => Sys2Proof.Machine.execBandRead s
  | .bandWrite => Sys2Proof.Machine.execBandWrite s
  | .carrierRead => Sys2Proof.Machine.execCarrierRead s
  | .block => Sys2Proof.Machine.execBlock s
  | .unblock => Sys2Proof.Machine.execUnblock s
  | .linkRead => Sys2Proof.Machine.execLinkRead s
  | .linkWrite => Sys2Proof.Machine.execLinkWrite s
  | .candidatesRead => Sys2Proof.Machine.execCandidatesRead s
  | .candidatesWrite => Sys2Proof.Machine.execCandidatesWrite s
  | .profileRead => Sys2Proof.Machine.execProfileRead s
  | .profileWrite => Sys2Proof.Machine.execProfileWrite s
  | .scanListRead => Sys2Proof.Machine.execScanListRead s
  | .scanListWrite => Sys2Proof.Machine.execScanListWrite s
  | .tallyMapRead => Sys2Proof.Machine.execTallyMapRead s
  | .tallyMapWrite => Sys2Proof.Machine.execTallyMapWrite s
  | .lampLineRead => Sys2Proof.Machine.execLampLineRead s
  | .lampLineWrite => Sys2Proof.Machine.execLampLineWrite s
  | .inputRead => Sys2Proof.Machine.execInputRead s
  | .inputWrite => Sys2Proof.Machine.execInputWrite s
  | .outputRead => Sys2Proof.Machine.execOutputRead s
  | .outputWrite => Sys2Proof.Machine.execOutputWrite s
  | .crosspointRead => Sys2Proof.Machine.execCrosspointRead s
  | .crosspointWrite => Sys2Proof.Machine.execCrosspointWrite s
  | .configRead => Sys2Proof.Machine.execConfigRead s
  | .configFrameRate => Sys2Proof.Machine.execConfigFrameRate s
  | .configAutoRelock => Sys2Proof.Machine.execConfigAutoRelock s
  | .configSwitchLead => Sys2Proof.Machine.execConfigSwitchLead s
  | .configGNN => Sys2Proof.Machine.execConfigGNN s
  | .configGWW => Sys2Proof.Machine.execConfigGWW s
  | .configGNW => Sys2Proof.Machine.execConfigGNW s
  | .configW => Sys2Proof.Machine.execConfigW s
  | .configW3 => Sys2Proof.Machine.execConfigW3 s
  | .configGF => Sys2Proof.Machine.execConfigGF s
  | .configAnswerTimeout => Sys2Proof.Machine.execConfigAnswerTimeout s
  | .configConfirmWindow => Sys2Proof.Machine.execConfigConfirmWindow s
  | .configSweepReceiverA => Sys2Proof.Machine.execConfigSweepReceiverA s
  | .configSweepReceiverB => Sys2Proof.Machine.execConfigSweepReceiverB s
  | .configScanMode => Sys2Proof.Machine.execConfigScanMode s
  | .configTriggerPeriod => Sys2Proof.Machine.execConfigTriggerPeriod s
  | .configScanLayout => Sys2Proof.Machine.execConfigScanLayout s
  | .configSegmentTimeout => Sys2Proof.Machine.execConfigSegmentTimeout s
  | .configOccupancyThreshold => Sys2Proof.Machine.execConfigOccupancyThreshold s
  | .configMergeWidth => Sys2Proof.Machine.execConfigMergeWidth s
  | .configAgeLimit => Sys2Proof.Machine.execConfigAgeLimit s
  | .configTallyTimeout => Sys2Proof.Machine.execConfigTallyTimeout s
  | .configStaleAction => Sys2Proof.Machine.execConfigStaleAction s
  | .assign => Sys2Proof.Machine.execAssign s
  | .retune => Sys2Proof.Machine.execRetune s
  | .abortRetune => Sys2Proof.Machine.execAbortRetune s
  | .setBackup => Sys2Proof.Machine.execSetBackup s
  | .release => Sys2Proof.Machine.execRelease s
  | .undefine => Sys2Proof.Machine.execUndefine s
  | .check => Sys2Proof.Machine.execCheck s
  | .relock => Sys2Proof.Machine.execRelock s
  | .scanStart => Sys2Proof.Machine.execScanStart s
  | .scanStop => Sys2Proof.Machine.execScanStop s
  | .scanRelease => Sys2Proof.Machine.execScanRelease s
  | .readMonitor => Sys2Proof.Machine.execReadMonitor s
  | .readStatus => Sys2Proof.Machine.execReadStatus s
  | .clearStatus => Sys2Proof.Machine.execClearStatus s
  | .reportEnable => Sys2Proof.Machine.execReportEnable s
  | .unitCommand => Sys2Proof.Machine.execUnitCommand s
  | .quiesce => Sys2Proof.Machine.execQuiesce s
  | .resume => Sys2Proof.Machine.execResume s
  | .warmReset => Sys2Proof.Machine.execWarmReset s
  | .coldReset => Sys2Proof.Machine.execColdReset s
  | .identify => Sys2Proof.Machine.execIdentify s

end Sys2Proof.Machine
end

