-- ==== Sys2Proof/Safety.lean ====
section
/-! DEFINITION. The terms in which claims about the part are made: the laws that its manual states of every state, and the readiness of the agent to take a request. -/

namespace Sys2Proof.Machine

/-! ### The taking of a request -/

/-- The agent is about to take the request: no work of a frame event waits, the request is the oldest one not yet taken,
and the one behind it, if any, is for an owning rule to judge (R187). -/
abbrev State.Takes (s : State) (r : Request) : Prop :=
  s.due = [] ∧ s.untaken = some r
    ∧ (s.agent.requests.find? fun q => decide (q.phase = .arrived) && decide (q.id ≠ r.id)).all
        (fun q => (commonJudgement q).isNone) = true

/-! ### Laws of the queues (01 section 1.5, R45, R90, R146, R186, R192) -/

/-- No queue holds more cells, requests or entries than its capacity. -/
abbrev State.CapacityLaw (s : State) : Prop :=
  s.uport.reply.length ≤ 8 ∧ s.uport.report.length ≤ 32 ∧ s.uport.audio.length ≤ 16 ∧ s.uport.forward.length ≤ 16
    ∧ s.dport.urgent.length ≤ 8 ∧ s.dport.command.length ≤ 16 ∧ s.dport.audio.length ≤ 16 ∧ s.dport.forward.length ≤ 16
    ∧ s.agent.requests.length ≤ 4 ∧ (s.agent.ready.filter fun q => q.id.isNone).length ≤ 1

/-- The retune queue holds at most 16 entries, and no link twice (R85, R86). -/
abbrev State.RetuneQueueLaw (s : State) : Prop :=
  s.retuneQueue.length ≤ 16 ∧ (s.retuneQueue.map (·.link)).Nodup

/-- Slots 12 to 15 are owned by tally alone (R94). -/
abbrev State.TallySlotLaw (s : State) : Prop :=
  ∀ i : SlotId, 12 ≤ i.val → s.unit.slots[i].owner = none ∨ ∃ l, s.unit.slots[i].owner = some (.tally l)

/-- The foreign list holds at most 32 entries, in ascending frequency (R146). -/
abbrev State.ForeignLaw (s : State) : Prop :=
  s.scan.foreign.length ≤ 32 ∧ (s.scan.foreign.map (·.freq)).Pairwise (· ≤ ·)

/-- The coordination queue holds at most eight requests, at most four of them from other filers than the retune contexts, and at
most one of each context, which then waits for it (R45, R107). -/
abbrev State.CoordQueueLaw (s : State) : Prop :=
  s.engine.queue.length ≤ 8
    ∧ (s.engine.queue.filter fun q => match q.filer with
        | .context _ => false
        | .management _ | .auto => true).length ≤ 4
    ∧ (s.engine.queue.filterMap fun q => match q.filer with
        | .context k => some k
        | .management _ | .auto => none).Nodup
    ∧ ∀ q ∈ s.engine.queue, ∀ k : ContextId, q.filer = .context k → s.contexts[k].stage ≠ .free ∧ s.contexts[k].coordinating = true

/-- The laws of every queue, of the foreign list and of the tally slots together. -/
abbrev State.QueueLaw (s : State) : Prop :=
  s.CapacityLaw ∧ s.RetuneQueueLaw ∧ s.CoordQueueLaw ∧ s.ForeignLaw ∧ s.TallySlotLaw

/-! ### The buffer pool (R169, R170) -/

/-- An input's area is in range and holds its buffer; the input is DISABLED exactly when it is not enabled, and then its
buffer is empty. -/
def Input.lawful (x : Input) : Bool :=
  decide (2 ≤ x.area) && decide (x.area ≤ 32) && decide (x.buffer.length ≤ x.area)
    && (x.enabled == (x.state != .disabled)) && (x.enabled || x.buffer.isEmpty)

/-- The pool's law: every input is lawful, and the areas of the enabled ones come to no more than 512 blocks (R170). -/
abbrev State.PoolLaw (s : State) : Prop :=
  (∀ i : Fin 32, s.mixer.inputs[i].lawful = true) ∧ s.mixer.owned ≤ 512

/-! ### The settings (R18, R42, R97, R106, R141, R164) -/

/-- A coordination setting is a multiple of 25 kHz in its range (R42). -/
abbrev settingOk (lo hi n : Nat) : Prop := n % 25 = 0 ∧ lo ≤ n ∧ n ≤ hi

/-- Every setting that a write clamps lies in its range. -/
abbrev State.SettingsLaw (s : State) : Prop :=
  (2 ≤ s.switchLead ∧ s.switchLead ≤ 50) ∧ (2 ≤ s.confirmWindow ∧ s.confirmWindow ≤ 100)
    ∧ settingOk 0 1000 s.plan.settings.gNN ∧ settingOk 0 10000 s.plan.settings.gWW
    ∧ settingOk 0 10000 s.plan.settings.gNW ∧ settingOk 25 500 s.plan.settings.w
    ∧ settingOk 0 500 s.plan.settings.w3 ∧ settingOk 25 1000 s.plan.settings.gF
    ∧ (1 ≤ s.unit.answerTimeout ∧ s.unit.answerTimeout ≤ 15)
    ∧ (1 ≤ s.scan.settings.segmentTimeout ∧ s.scan.settings.segmentTimeout ≤ 250)
    ∧ (-127 ≤ s.scan.settings.threshold ∧ s.scan.settings.threshold ≤ 0)
    ∧ (25 ≤ s.scan.settings.mergeWidth ∧ s.scan.settings.mergeWidth ≤ 500)
    ∧ (1 ≤ s.scan.settings.ageLimit ∧ s.scan.settings.ageLimit ≤ 15)
    ∧ (1 ≤ s.tally.timeout ∧ s.tally.timeout ≤ 250)

/-! ### The ports' arbiters (R9) -/

/-- What the D-port arbiter starts when no uncommitted locked pair heads the urgent queue (R9, R12). -/
def DPort.choice (d : DPort) : DPort :=
  match d.frameSlot with
  | some c => { d with frameSlot := none, line := .frame c }
  | none =>
    if d.urgent ≠ [] then { d with line := .urgent }
    else if d.command ≠ [] then { d with line := .command }
    else if d.audio ≠ [] then { d with line := .audio }
    else if d.forward ≠ [] then { d with line := .forward }
    else d

/-- What the U-port arbiter starts (R9). -/
def UPort.choice (u : UPort) : UPort :=
  if u.reply ≠ [] then { u with line := .reply }
  else if u.report ≠ [] then { u with line := .report }
  else if u.audio ≠ [] then { u with line := .audio }
  else if u.forward ≠ [] then { u with line := .forward }
  else u

/-- Does no uncommitted locked pair head the urgent queue (R16)? -/
abbrev DPort.noPair (d : DPort) : Prop := ∀ q ∈ d.urgent.head?, q.context = none ∨ q.committed = true

/-! ### The guard and the completed cells (R7, R97) -/

/-- Is the cell's destination 255 or a unit of a link not UNUSED, and its command a frequency command (R7)? -/
abbrev State.guardHolds (s : State) (c : Cell) : Prop :=
  (byteAt (cellData c) 0 = 0x01 ∨ byteAt (cellData c) 0 = 0x02 ∨ byteAt (cellData c) 0 = 0x04 ∨ byteAt (cellData c) 0 = 0x40)
    ∧ ∃ l : LinkId, s.links[l].state ≠ .unused ∧ (c.dest = 255 ∨ s.links[l].portable = c.dest ∨ s.links[l].rack = c.dest)

/-- The SENT slot that a completed cell leaves: its deadline is the frame number plus the segment timeout for SWEEP_SEGMENT
and plus the answer timeout for any other command (R97). -/
def State.sentSlotOf (s : State) (i : SlotId) : Slot :=
  { s.unit.slots[i] with state := .sent, begun := true, deadline := some (s.timing.frame + BitVec.ofNat 16
      (if byteAt s.unit.slots[i].command 0 = 0x06 then s.scan.settings.segmentTimeout else s.unit.answerTimeout)) }

/-! ### The retune queue (R85 to R87) -/

/-- A filing (R85, R86, R87): the entry a request for the link makes, held when the link is live, FORCE is absent and no FADE that
switch_when_live lifts. -/
def State.entryOf (s : State) (l : LinkId) (t : Target) (reason : Reason) (force : Bool) : QueueEntry :=
  { link := l, target := t, reason, force
    held := s.links[l].live && !force && !(reason == .fade && s.links[l].flags.switchWhenLive) }

/-! ### Coordination (R58 to R60) -/

/-- An attempt's copy names no entry twice, as a plan's copy never does (R52). -/
abbrev Attempt.proper (t : Attempt) : Prop := (t.carriers.map (·.entry)).Nodup

/-! ### Talkback cells (R182) -/

/-- The AUDIO cells that an expiry forms for a port, in ascending output index (R181, R182). -/
def State.cellsFor (s : State) (p : Port) : List Cell :=
  ((List.finRange 32).filter fun o => s.mixer.outputs[o].enabled && s.mixer.outputs[o].port == p).map fun o =>
    s.mixer.outputs[o].audioCell (s.terms s.contributions o)

/-- An enabled input after an expiry (R174 to R176). -/
def State.inputAfter (s : State) (i : Fin 32) : Input :=
  let x := s.mutedInput i
  { x.afterExpiry with underrun := x.underrun || x.runsDry }

/-! ### The rows of CONFIG writes (R189) and the status groups' codes (R190) -/

/-- The rows of CONFIG writes, each with the identifier of the setting it names. -/
def configRows : List (Instr × Nat) :=
  [(.configFrameRate, 1), (.configAutoRelock, 2), (.configSwitchLead, 3), (.configGNN, 4), (.configGWW, 5), (.configGNW, 6),
   (.configW, 7), (.configW3, 8), (.configGF, 9), (.configAnswerTimeout, 10), (.configConfirmWindow, 11),
   (.configSweepReceiverA, 12), (.configSweepReceiverB, 13), (.configScanMode, 14), (.configTriggerPeriod, 15),
   (.configScanLayout, 16), (.configSegmentTimeout, 17), (.configOccupancyThreshold, 18), (.configMergeWidth, 19),
   (.configAgeLimit, 20), (.configTallyTimeout, 21), (.configStaleAction, 22)]

/-- The code of a status group. -/
def Group.code : Group → Nat
  | .port => 0 | .timing => 1 | .plan => 2 | .link => 3 | .scan => 4 | .tally => 5 | .mix => 6 | .mgmt => 7

end Sys2Proof.Machine
end

