-- ==== Sys2Proof/Certificates/Slice0/Obligations.lean ====
section
/-! DEFINITION. The statements for the provers. Each says, in its docstring, which rules of spec/ it formalises; a command's statement gives its next state by an equation, so what the equation does not change is left as it was. In a statement about a management row, `s.Takes r` says that the agent takes request `r`: the model's reading of R187 (log 3). A hypothesis `s.due = []` says that the work of the last frame event has been taken (log 4). -/

open Sys2Proof Sys2Proof.Machine

/-! ### The machine -/

/-- A step runs the command in front of the queue with the queue's rest; with no command waiting the part idles (the idling is the
model's choice, log 2).
What is left of the last frame event's work is taken before any command that is no step of that work, but for the rows of RESET and
power, which set it aside: such a command does what it does once that work is taken, step by step along the due list. The row of a step
takes that step off the list, and is no event where the step is not on it. All this of the due list is the model's choice (log 4). -/
def Obligations.StepTakesFrontCommand : Prop :=
  (∀ (c : Instr) (rest : List Instr) (s : State), s.pending = c :: rest → step s = exec c { s with pending := rest })
  ∧ (∀ s : State, s.pending = [] → step s = .next s)
  ∧ (∀ (c : Instr) (s : State), (match c with
      | .answerDeadline _ | .switchFrame _ | .confirmDeadline _ | .revertFrame _ | .revertConfirmExpiry _ | .telemetryTimeout _
      | .scanTrigger | .tallyTimeout | .resetAssert | .resetRelease | .powerUp => False
      | _ => True) → exec c s = exec c s.finishFrame)
  ∧ (∀ s : State, s.finishFrame.due = [] ∧ (s.due = [] → s.finishFrame = s))
  ∧ (∀ (s : State) (d : DueStep) (rest : List DueStep), s.due = d :: rest →
      s.finishFrame = (s.dueStep d).finishFrame ∧ (s.dueStep d).due = rest)
  ∧ (∀ (s : State) (d : DueStep),
    (d ∉ s.due → s.dueStep d = s)
    ∧ exec (match d with
      | .answerDeadline i => .answerDeadline i
      | .switchFrame k => .switchFrame k
      | .confirmDeadline k => .confirmDeadline k
      | .revertFrame k => .revertFrame k
      | .revertConfirmExpiry k => .revertConfirmExpiry k
      | .telemetryTimeout l => .telemetryTimeout l
      | .scanTrigger => .scanTrigger
      | .tallyTimeout => .tallyTimeout) s = .next (s.dueStep d))

/-- Every command answers a next state: the part has no fault, and the model refuses nothing. No command touches the queue of waiting
commands, and the RESET and BACKOFF inputs change by their own rows alone (R15, R19). -/
def Obligations.EveryCommandAnswersNext : Prop :=
  ∀ (c : Instr) (s : State), ∃ t : State, exec c s = .next t ∧ t.pending = s.pending ∧
    t.pins = match c with
      | .resetAssert => { s.pins with reset := true }
      | .resetRelease => { s.pins with reset := false }
      | .backoffAssert => { s.pins with backoff := true }
      | .backoffRelease => { s.pins with backoff := false }
      | _ => s.pins

/-- The frame number changes only at a frame event, by exactly one modulo 65,536, and a cold reset sets it to 0 (R21, R31):
markers and the two timers' expiries are the frame events, and no other command changes it.
That the work of a frame event has rows of its own is the model's choice (log 4). -/
def Obligations.FrameNumberMovesByOne : Prop :=
  ∀ (c : Instr) (s t : State), exec c s = .next t →
    match c with
    | .marker _ _ | .flywheelExpiry | .frameTimerExpiry => t.timing.frame = s.timing.frame ∨ t.timing.frame = s.timing.frame + 1
    | .resetAssert | .powerUp | .coldReset => t.timing.frame = s.timing.frame ∨ t.timing.frame = 0
    | _ => t.timing.frame = s.timing.frame

/-! ### Reset -/

/-- What a cold reset leaves, field by field, by the blocks' own rules: the ports' queues and lines empty (R19) and the switch lead at its
default (R18); the reference monitor and frame timer (R31); bands, carriers, generation, coordination settings and engine (R35, R50, R70);
the link records and the retune queue (R71, R92); the slots, the allocation queue, the toggles and the answer timeout (R105); the contexts
and the confirm window (R119); the profiles, monitor states and last-sample records (R120, R123, R124, R139); the scan list, the scan
settings and the scan engine (R140, R141, R152); the tally sets, the map, the lamp lines, the camera records and the two settings (R167);
inputs, outputs and crosspoints (R169, R177, R178, R184); and the agent (R194). -/
def Obligations.ResetValues : Prop :=
  let s := State.reset
  (s.dport = { frameSlot := none, urgent := [], command := [], audio := [], forward := [], line := .idle }
    ∧ s.uport = { reply := [], report := [], audio := [], forward := [], line := .idle } ∧ s.switchLead = 4)
  ∧ (s.timing.ref = .searching ∧ s.timing.frame = 0 ∧ s.timing.flywheel = 0 ∧ s.timing.good = 0 ∧ s.timing.origin = .searching
    ∧ s.timing.armed = false ∧ s.timing.rate = .r50 ∧ s.timing.rateInForce = .r50 ∧ s.timing.autoRelock = true)
  ∧ ((∀ b : Fin 4, s.plan.bands[b] =
        { valid := false, lower := 0, upper := 0, step := 25, allowN := false, allowW10 := false, allowW20 := false })
    ∧ (∀ e : EntryId, s.plan.carriers[e] =
        { state := .free, freq := 0, cls := .n, link := none, margin := 0, suspect := false, snapped := false, band := none })
    ∧ s.plan.gen = 0 ∧ s.plan.settings = { gNN := 150, gWW := 2000, gNW := 1000, w := 100, w3 := 50, gF := 100 }
    ∧ s.engine = { queue := [], run := none })
  ∧ (∀ l : LinkId, s.links[l] =
      { kind := .mic, cls := .n, rack := 0, chan := 0, portable := 0, profile := none
        flags := { autoSwitchover := false, autoBackup := false, autoAvoid := false, switchWhenLive := false, alwaysLive := false
                   telemetryRelay := false }
        offset := 0, state := .unused, active := none, standby := none, live := false, always := false
        last := { ending := .none, reason := .operator, target := .explicit 0, stage := .none, summary := none, rack := none
                  portable := none, frame := 0 }
        candidates := [] })
  ∧ s.retuneQueue = []
  ∧ ((∀ i : SlotId, s.unit.slots[i].state = .free) ∧ s.unit.waiting = [] ∧ (∀ u : Fin 256, s.unit.toggles[u] = false)
    ∧ s.unit.answerTimeout = 2)
  ∧ ((∀ k : ContextId, s.contexts[k].stage = .free) ∧ s.confirmWindow = 10)
  ∧ ((∀ p : Fin 8, s.profiles[p] = { low := -90, high := -20, levelCount := 3, qualityLimit := 40, qualityCount := 4, lowDir := .fall
                                     highDir := .rise, timeout := 25, battery := 20 })
    ∧ (∀ l : LinkId, s.monitors[l] = { side := .normal, runSide := .normal, run := 0, poor := false, qualityRun := 0, lockRun := 0
                                       lockLost := false, silence := 0, batteryLow := false, lowCrossed := false, highCrossed := false })
    ∧ (∀ l : LinkId, s.samples[l] = { raw := -128, corrected := -128, quality := 0, battery := 255, lock := false, freq := 0
                                      arrival := 0, fresh := false }))
  ∧ ((∀ g : Fin 16, s.scan.segments[g] = { start := 0, stop := 0, step := 25, enabled := false })
    ∧ s.scan.settings = { recvA := 0, recvB := 0, mode := .once, triggerPeriod := 0, parallel := false, segmentTimeout := 100
                          threshold := -90, mergeWidth := 100, ageLimit := 3 }
    ∧ s.scan.state = .idle ∧ s.scan.number = 0 ∧ s.scan.recvA = { current := none, todo := [], results := [] }
    ∧ s.scan.recvB = { current := none, todo := [], results := [] } ∧ s.scan.failedRanges = [] ∧ s.scan.done = 0 ∧ s.scan.failed = 0
    ∧ s.scan.inserted = 0 ∧ s.scan.removed = 0 ∧ s.scan.foreign = [])
  ∧ ((∀ i : Fin 64, s.tally.pendingSet[i] = .off ∧ s.tally.applied[i] = .off
        ∧ s.tally.written[i] = { links := [], lamps := 0, mix := none } ∧ s.tally.inEffect[i] = { links := [], lamps := 0, mix := none })
    ∧ (∀ n : Fin 16, s.tally.lamps[n] = { written := .program, inEffect := .program, on := false })
    ∧ (∀ l : LinkId, let x := s.tally.cameras[l]
        x.wanted = .off ∧ x.target = some .off ∧ x.delivered = some .off ∧ x.latched = none ∧ x.busy = false ∧ x.unconfirmed = false)
    ∧ s.tally.stale = false ∧ s.tally.count = 0 ∧ s.tally.timeout = 50 ∧ s.tally.action = .hold)
  ∧ ((∀ i : Fin 32, s.mixer.inputs[i] =
        { enabled := false, port := .u, addr := 0, chan := 0, area := 2, link := none, state := .disabled, buffer := []
          lastPlayed := { samples := Vector.replicate 16 0, talk := false }, lastSeq := none, underrun := false, overflow := false
          seqGap := false })
    ∧ (∀ o : Fin 32, s.mixer.outputs[o] = { enabled := false, port := .u, addr := 0, chan := 0, dim := 0, seq := 0, clip := false })
    ∧ (∀ i o : Fin 32, s.mixer.crosspoints[i][o] = { on := false, gain := 0, dimWhenLive := false }) ∧ s.mixer.owned = 0)
  ∧ (s.agent.requests = [] ∧ s.agent.ready = [] ∧ s.agent.enables = 0 ∧ s.agent.quiesce = .running
    ∧ s.agent.flags = { portU := 0, portD := 0, timing := 0, plan := 0, link := 0, scan := 0, tally := 0, mix := 0, mgmt := 0 })

/-- The laws that the next statements keep hold after a cold reset. -/
def Obligations.LawsHoldAtReset : Prop :=
  State.reset.QueueLaw ∧ State.reset.PoolLaw ∧ State.reset.SettingsLaw

/-- RESET_ASSERT, RESET_RELEASE and POWER_UP (R19, R31, R184, R194): the assertion sets every block to its cold-reset
values and holds both timers; the release starts them, the frame timer's first expiry one period away; power-up sets the
cold-reset values, and the timers run unless RESET is asserted.
The instants and the clock after a reset are the model's choices (log 8). -/
def Obligations.ColdResetRows : Prop :=
  (∀ s : State, s.pins.reset = false → exec .resetAssert s = .next
    { State.reset with pins := { s.pins with reset := true }, pending := s.pending
                       timing := { State.reset.timing with nextExpiry := none }, blockTimerRuns := false })
  ∧ (∀ s : State, s.pins.reset = true → exec .resetRelease s = .next
    { s with pins := { s.pins with reset := false }
             timing := { s.timing with nextExpiry := some (s.timing.now + s.timing.rateInForce.period) }
             blockTimerRuns := true })
  ∧ (∀ s : State, s.pins.reset = false → exec .powerUp s = .next
    { State.reset with pins := s.pins, pending := s.pending })
  ∧ (∀ s : State, s.pins.reset = true → exec .powerUp s = .next
    { State.reset with pins := s.pins, pending := s.pending
                       timing := { State.reset.timing with nextExpiry := none }, blockTimerRuns := false })

/-! ### Laws that every step keeps -/

/-- No queue ever holds more than its capacity, and at most one BUSY reply waits (01 section 1.5, R186, R192); the retune queue never
exceeds 16 entries and never holds two of one link (R85, R86); the foreign list never exceeds 32 entries and stays in ascending
frequency (R146); the coordination queue holds at most eight requests, four of them from
other filers than the contexts, and one of each context at most (R45); and slots 12 to 15 are never owned by another owner than tally (R94). -/
def Obligations.QueueLawKept : Prop :=
  ∀ s t : State, s.QueueLaw → step s = .next t → t.QueueLaw

/-- The sum of the area sizes of the enabled inputs never exceeds 512 blocks, and no input holds more blocks than its area
(R170). -/
def Obligations.PoolLawKept : Prop :=
  ∀ s t : State, s.PoolLaw → step s = .next t → t.PoolLaw

/-- Every clamped setting stays in its range (R18, R42, R97, R106, R141, R164). -/
def Obligations.SettingsLawKept : Prop :=
  ∀ s t : State, s.SettingsLaw → step s = .next t → t.SettingsLaw

/-! ### Receivers and the guard (01 sections 1.3 and 1.4, 11 section 11.1) -/

/-- Every cell that the part makes passes the integrity check, carries zero beyond its length, and comes from source 0 with
toggle and last clear unless it is a COMMAND or a refusal (R1, R2). The integrity check (R1): the length is at most 48, and bytes 52-53
hold the CRC of bytes 0 to 51, taken in order, each from bit 7 down to bit 0, by a register that starts at FFFFh, with generator 1021h,
no reflection and no final inversion. -/
def Obligations.MadeCellsAreSealed : Prop :=
  (∀ (kind dest src : Byte) (toggle : Bool) (data : List Byte), data.length ≤ 48 →
    let c := makeCell kind dest src toggle data
    integral c = true ∧ cellData c = data ∧ c.last = false ∧ c.toggle = toggle ∧ c.kind = kind ∧ c.dest = dest ∧ c.src = src
      ∧ ∀ i : Fin 48, data.length ≤ i.val → c.payload[i] = 0)
  ∧ (∀ (kind dest : Byte) (data : List Byte), (ownCell kind dest data).src = 0 ∧ (ownCell kind dest data).toggle = false)
  ∧ ∀ c : Cell,
    let bytes := [c.kind, c.dest, c.src, BitVec.ofNat 8 ((if c.toggle then 128 else 0) + (if c.last then 64 else 0) + c.len.toNat)]
      ++ c.payload.toList
    let bits := bytes.flatMap fun b => [7, 6, 5, 4, 3, 2, 1, 0].map b.getLsbD
    let crc := bits.foldl (fun (r : Half) bit => if r.msb = bit then r <<< 1 else (r <<< 1) ^^^ 0x1021) 0xFFFF
    integral c = true ↔ c.len.toNat ≤ 48 ∧ c.crc = crc

/-- A cell that fails the integrity check, which O10 (MadeCellsAreSealed) spells out, is dropped with CHECK_ERROR for its port, whatever row it arrives by, and under
RESET every arriving cell is discarded without check or notice (R1, R19). A marker's cell lets its time pass as well
(log 5).
A cell of a length that its layout does not allow is dropped with FORMAT_ERROR for its port (R3): TELEMETRY of 8, AUDIO of 34,
SWEEP of 2 + 3n with n at most 14, TALLY of 1 + n + ⌈n/4⌉ with n at most 24. -/
def Obligations.BadCellsAreDropped : Prop :=
  (∀ (s : State) (c : Cell) (e : Nat), s.due = [] →
    let uRows := [Instr.mgmtCell c, .forwardedCell .u c, .commandAtGuard c, .tallyCell c, .audioCell .u c]
    let dRows := [Instr.dPortMgmtCell c, .forwardedCell .d c, .answerCell c, .sweepCell c, .telemetryCell c, .audioCell .d c]
    (s.pins.reset = true → ∀ i ∈ uRows ++ dRows, exec i s = .next s)
    ∧ (s.pins.reset = true → exec (.marker c e) s = .next (s.passTo (s.markerAt e)))
    ∧ (s.pins.reset = false → integral c = false →
        (∀ i ∈ uRows, exec i s = .next (s.raise .checkError 0 []))
        ∧ (∀ i ∈ dRows, exec i s = .next (s.raise .checkError 1 []))
        ∧ exec (.marker c e) s = .next ((s.passTo (s.markerAt e)).raise .checkError 0 [])))
  ∧ (∀ (s : State) (c : Cell), s.due = [] → s.pins.reset = false → integral c = true →
    (c.kind = 4 → c.dest = 0 → c.len ≠ 8 → exec (.telemetryCell c) s = .next (s.raise .formatError 1 []))
    ∧ (c.kind = 3 → c.dest = 0 → c.len ≠ 34 →
        exec (.audioCell .u c) s = .next (s.raise .formatError 0 []) ∧ exec (.audioCell .d c) s = .next (s.raise .formatError 1 []))
    ∧ (∀ n : Nat, c.kind = 7 → c.dest = 0 → n = u8At (cellData c) 1 → (14 < n ∨ c.len.toNat ≠ 2 + 3 * n) →
        exec (.sweepCell c) s = .next (s.raise .formatError 1 []))
    ∧ (∀ n : Nat, c.kind = 2 → n = u8At (cellData c) 0 % 32 → (24 < n ∨ c.len.toNat ≠ 1 + n + (n + 3) / 4) →
        exec (.tallyCell c) s = .next (s.raise .formatError 0 [])))

/-- Raising a notice sets its flag, makes its REPORT when reports of its kind are enabled and the report queue has room,
sets REPORT_OVERFLOW when it has none, and changes nothing else (R190, R192).
A reference notice is raised with the REFERENCE flag beside its own, and while the REFERENCE flag is set none is raised at all (R28). -/
def Obligations.NoticeIsRaised : Prop :=
  (∀ (s : State) (n : Notice) (object : Byte) (detail : List Byte),
    let flagged : State := { s with agent := { s.agent with flags := s.agent.flags.raise n object } }
    let report := ownCell 10 255 ([BitVec.ofNat 8 n.code, object] ++ half s.timing.frame ++ detail)
    s.raise n object detail =
      if s.agent.enables.getLsbD n.code = false then flagged
      else if s.uport.report.length < 32 then { flagged with uport := { s.uport with report := s.uport.report ++ [report] } }
      else { flagged with agent := { flagged.agent with flags := flagged.agent.flags.raise .reportOverflow 0 } })
  ∧ (∀ (s : State) (n : Notice), n = .referenceLost ∨ n = .referenceAcquired ∨ n = .referenceRestored →
    (s.agent.flags.timing.getLsbD 6 = true → s.raiseReference n = s)
    ∧ (s.agent.flags.timing.getLsbD 6 = false →
        (s.raiseReference n).agent.flags.timing = s.agent.flags.timing ||| BitVec.twoPow 7 n.bit ||| BitVec.twoPow 7 6
        ∧ (s.agent.enables.getLsbD n.code = true → s.uport.report.length < 32 →
            (s.raiseReference n).uport.report = s.uport.report ++ [ownCell 10 255 ([BitVec.ofNat 8 n.code, 0] ++ half s.timing.frame)])
        ∧ (s.agent.enables.getLsbD n.code = false → (s.raiseReference n).uport = s.uport)
        ∧ (s.raiseReference n).timing = s.timing ∧ (s.raiseReference n).links = s.links ∧ (s.raiseReference n).plan = s.plan))

/-- FORWARDED_CELL (R4, R5, R6, R13): the cell joins the other port's forward queue exactly as it arrived, or is discarded
with FORWARD_DROP for the port whose transmitter owns the full queue.
D_PORT_MGMT_CELL (R5): dropped with MGMT_ON_D. -/
def Obligations.ForwardedCellPassesThrough : Prop :=
  (∀ (s : State) (c : Cell), s.due = [] → s.pins.reset = false → integral c = true →
    ((Instr.forwardedCell .u c).wf = true → exec (.forwardedCell .u c) s = .next
      (if s.dport.forward.length < 16 then { s with dport := { s.dport with forward := s.dport.forward ++ [c] } }
       else s.raise .forwardDrop 1 []))
    ∧ ((Instr.forwardedCell .d c).wf = true → exec (.forwardedCell .d c) s = .next
      (if s.uport.forward.length < 16 then { s with uport := { s.uport with forward := s.uport.forward ++ [c] } }
       else s.raise .forwardDrop 0 [])))
  ∧ (∀ (s : State) (c : Cell), s.due = [] → s.pins.reset = false → integral c = true → c.kind = 8 →
    exec (.dPortMgmtCell c) s = .next (s.raise .mgmtOnD 1 []))

/-- COMMAND_AT_GUARD (R7, R8): a frequency command to a unit of a link that is not UNUSED, or to 255 while any link is not
UNUSED, is refused with an ANSWER of the refused code and REFUSED when the reply queue has room, and with GUARDED_COMMAND
in every case; any other cell is forwarded. -/
def Obligations.GuardRefusesOrForwards : Prop :=
  ∀ (s : State) (c : Cell), s.due = [] → s.pins.reset = false → integral c = true → c.kind = 5 →
    (isUnit c.dest = true ∨ c.dest = 255) → 1 ≤ c.len.toNat →
    (s.guardHolds c → exec (.commandAtGuard c) s = .next
      ((if s.uport.reply.length < 8 then
          { s with uport := { s.uport with reply := s.uport.reply ++
              [makeCell 6 c.src c.dest c.toggle [byteAt (cellData c) 0, 2]] } }
        else s).raise .guardedCommand 0 [byteAt (cellData c) 0, c.dest]))
    ∧ (¬ s.guardHolds c → exec (.commandAtGuard c) s = .next
      (if s.dport.forward.length < 16 then { s with dport := { s.dport with forward := s.dport.forward ++ [c] } }
       else s.raise .forwardDrop 1 []))

/-- MGMT_CELL (R186, R187): with a place free the request joins the tail of the queue. The requests at the front of those not yet taken
that the common judgement decides are then answered in order, up to the first that an owning rule must judge: so a request behind one not
yet taken waits as it arrived, and one with none before it waits for its row or is answered at once. With four requests in the queue,
taken or not, it is answered BUSY, or discarded while a BUSY reply waits; one shorter than two bytes is dropped with FORMAT_ERROR.
That the agent answers such a request as soon as it is the oldest one is the model's reading (log 3). -/
def Obligations.MgmtCellIntake : Prop :=
  ∀ (s : State) (c : Cell), s.due = [] → s.pins.reset = false → integral c = true → c.kind = 8 → c.dest = 0 →
    let r : Request := { id := s.agent.nextId, tag := byteAt (cellData c) 0, src := c.src, code := byteAt (cellData c) 1
                         args := (cellData c).drop 2, phase := .arrived }
    let queued : State := { s with agent := { s.agent with requests := s.agent.requests ++ [r], nextId := s.agent.nextId + 1 } }
    let untaken := (s.agent.requests ++ [r]).filter fun q => q.phase = .arrived
    let judge (t : State) (q : Request) : State := match commonJudgement q with
      | none => t
      | some (res, data) => t.answer q res data
    (c.len.toNat < 2 → exec (.mgmtCell c) s = .next (s.raise .formatError 0 []))
    ∧ (2 ≤ c.len.toNat → s.agent.requests.length < 4 →
        exec (.mgmtCell c) s = .next ((untaken.takeWhile fun q => (commonJudgement q).isSome).foldl judge queued)
        ∧ (∀ q : Request, s.untaken = some q → commonJudgement q = none → exec (.mgmtCell c) s = .next queued)
        ∧ ((∀ q ∈ s.agent.requests, q.phase ≠ .arrived) → exec (.mgmtCell c) s = .next (judge queued r)))
    ∧ (2 ≤ c.len.toNat → 4 ≤ s.agent.requests.length →
        exec (.mgmtCell c) s = .next (if s.agent.ready.any (·.id.isNone) then s
          else { s with agent := { s.agent with ready := s.agent.ready ++
            [{ id := none, cell := ownCell 9 c.src [byteAt (cellData c) 0, byteAt (cellData c) 1, 1] }] } }))

/-- The common judgement: an unlisted code, and arguments shorter than the request requires, are answered BAD_VALUE; the bytes that each
listed request requires, a list by its count byte; and an answer makes a MGMT_REPLY to the source with the tag, the code, the result and
at most 45 bytes of data (R187, R188). A CONFIG write whose items are not all there is BAD_VALUE; an empty one is OK, and one whose first
identifier is none is BAD_INDEX with it (R189). That these two are answered here is the model's reading (log 3), and so is which bytes
stand behind an identifier that is none (log 44).
REPLY_OFFER (R188): the reply that became ready first joins the reply queue when it has room, and its request's place is
freed; with no room, or none ready, nothing happens. -/
def Obligations.ReplyIsMadeAndJoins : Prop :=
  ((∀ (r : Request), requiredArgs r.code.toNat r.args = none → commonJudgement r = some (.badValue, []))
  ∧ (∀ (r : Request) (n : Nat), requiredArgs r.code.toNat r.args = some n → r.args.length < n →
      commonJudgement r = some (.badValue, []))
  ∧ (∀ (r : Request) (n : Nat), requiredArgs r.code.toNat r.args = some n → n ≤ r.args.length → r.code ≠ 0x29 →
      commonJudgement r = none)
  ∧ (∀ r : Request, r.code = 0x29 →
    (configItems r.args = none → commonJudgement r = some (.badValue, []))
    ∧ (configItems r.args = some [] → commonJudgement r = some (.ok, []))
    ∧ (∀ (x : ConfigItem) (rest : List ConfigItem), configItems r.args = some (x :: rest) →
      ((x.id = 0 ∨ 22 < x.id) → commonJudgement r = some (.badIndex, u8 x.id))
      ∧ (1 ≤ x.id → x.id ≤ 22 → commonJudgement r = none)))
  ∧ (let fixed : List (Nat × Nat) := [(0x10, 1), (0x11, 15), (0x12, 1), (0x13, 5), (0x14, 1), (0x16, 1), (0x17, 9), (0x18, 1), (0x1A, 1),
        (0x1B, 10), (0x1C, 1), (0x1D, 14), (0x1E, 1), (0x20, 1), (0x21, 2), (0x22, 2), (0x23, 7), (0x24, 2), (0x25, 6), (0x26, 2),
        (0x27, 5), (0x30, 7), (0x31, 7), (0x32, 1), (0x33, 6), (0x34, 2), (0x35, 1), (0x38, 7), (0x39, 0), (0x40, 0), (0x41, 0),
        (0x42, 0), (0x48, 2), (0x49, 1), (0x4A, 1), (0x4B, 6), (0x50, 2), (0x58, 0), (0x59, 0), (0x5A, 0), (0x5B, 0), (0x60, 0)]
    (∀ (args : List Byte) (code n : Nat), (code, n) ∈ fixed → requiredArgs code args = some n)
    ∧ (∀ args : List Byte, requiredArgs 0x19 args = some (2 + 4 * u8At args 1) ∧ requiredArgs 0x1F args = some (5 + u8At args 1)
        ∧ requiredArgs 0x28 args = some (1 + u8At args 0))
    ∧ (∀ (args : List Byte) (code : Nat), (∀ n : Nat, (code, n) ∉ fixed) → code ≠ 0x19 → code ≠ 0x1F → code ≠ 0x28 → code ≠ 0x29 →
        requiredArgs code args = none))
  ∧ (∀ (s : State) (r : Request) (res : Result) (data : List Byte), s.answer r res data = { s with agent := { s.agent with
      requests := s.agent.requests.map fun q => if q.id = r.id then { q with phase := .answered } else q
      ready := s.agent.ready ++
        [{ id := some r.id, cell := ownCell 9 r.src ([r.tag, r.code, BitVec.ofNat 8 res.code] ++ data.take 45) }] } }))
  ∧ (∀ (s : State), s.due = [] →
    (∀ (q : ReadyReply) (rest : List ReadyReply), s.agent.ready = q :: rest → s.uport.reply.length < 8 →
      exec .replyOffer s = .next { s with
        uport := { s.uport with reply := s.uport.reply ++ [q.cell] }
        agent := { s.agent with ready := rest, requests := s.agent.requests.filter fun r => q.id ≠ some r.id } })
    ∧ ((s.agent.ready = [] ∨ 8 ≤ s.uport.reply.length) → exec .replyOffer s = .next s))

/-! ### Transmitters (01 sections 1.5 to 1.7) -/

/-- TRANSMIT_START (R9, R12, R15): a free line starts the head of the first non-empty queue of its port in the port's order;
a line in use, the D-port under BACKOFF, and both under RESET start nothing. The cell in the frame slot goes before every queue: even
where an uncommitted locked pair heads the urgent queue, it starts and nothing is committed (R16).
That nothing happens then is the model's reading of a row whose event cannot be (log 1). -/
def Obligations.TransmitStartByPriority : Prop :=
  ∀ s : State, s.due = [] →
    (s.pins.reset = false → s.uport.line = .idle → exec (.transmitStart .u) s = .next { s with uport := s.uport.choice })
    ∧ (s.pins.reset = true ∨ s.uport.line ≠ .idle → exec (.transmitStart .u) s = .next s)
    ∧ (s.pins.reset = false → s.pins.backoff = false → s.dport.line = .idle → s.dport.noPair →
        exec (.transmitStart .d) s = .next { s with dport := s.dport.choice })
    ∧ (∀ c : Cell, s.pins.reset = false → s.pins.backoff = false → s.dport.line = .idle → s.dport.frameSlot = some c →
        exec (.transmitStart .d) s = .next { s with dport := { s.dport with frameSlot := none, line := .frame c } })
    ∧ (s.pins.reset = true ∨ s.pins.backoff = true ∨ s.dport.line ≠ .idle → exec (.transmitStart .d) s = .next s)

/-- A locked pair is committed when its first cell begins its first transmission (R16, R18, R110): F = frame number + switch
lead is stamped into both cells, the CRC is made again, and F is reported to the context. A SWITCH pair is committed only
while its link is not live or the context is exempt, by FORCE or as a FADE with switch_when_live set (R116). For a live link and a
context that is not exempt the commit is refused: the first cell is not started, the retune is given back as for a live change before commit (R116), the pair leaves the urgent queue (R17)
without a stamp, and the arbiter chooses again among the cells that are left, a further uncommitted pair among them committed or refused
in the same way. -/
def Obligations.LockedPairCommits : Prop :=
  (∀ (s : State) (k : ContextId) (q : UnitCell) (rest : List UnitCell), s.due = [] → s.pins.reset = false → s.pins.backoff = false →
    s.dport.line = .idle → s.dport.frameSlot = none → s.dport.urgent = q :: rest → q.context = some k → q.committed = false →
    (byteAt (cellData q.cell) 0 ≠ 0x02 ∨ s.links[s.contexts[k].link].live = false ∨ s.exempt k = true) →
    exec (.transmitStart .d) s = .next { s with
      dport := { s.dport with
        line := .urgent
        urgent := s.dport.urgent.map fun (x : UnitCell) => if x.context = some k ∧ x.committed = false then
          { x with committed := true
                   cell := makeCell 5 x.cell.dest 0 x.cell.toggle
                     ([byteAt (cellData x.cell) 0] ++ half (s.timing.frame + BitVec.ofNat 16 s.switchLead)) }
          else x }
      contexts := put s.contexts k { s.contexts[k] with
        frame := some (s.timing.frame + BitVec.ofNat 16 s.switchLead), committed := true } })
  ∧ (∀ (s : State) (k : ContextId) (q : UnitCell) (rest : List UnitCell), s.due = [] → s.pins.reset = false → s.pins.backoff = false →
    s.dport.line = .idle → s.dport.frameSlot = none → s.dport.urgent = q :: rest → q.context = some k → q.committed = false →
    byteAt (cellData q.cell) 0 = 0x02 → s.links[s.contexts[k].link].live = true → s.exempt k = false →
    s.contexts[k].stage = .switch → s.contexts[k].committed = false →
    let t := s.giveBack k
    let ofPair (x : UnitCell) : Bool := s.unit.slots[x.slot].ownedBy k
    exec (.transmitStart .d) s = exec (.transmitStart .d) t
    ∧ (t.dport.noPair → exec (.transmitStart .d) s = .next { t with dport := t.dport.choice })
    ∧ ((∀ i : SlotId, s.unit.slots[i].ownedBy k = true → s.unit.slots[i].state = .queued ∧ s.unit.slots[i].begun = false
          ∧ ∀ x ∈ s.dport.urgent, x.slot = i → x.committed = false) →
        t.dport = { s.dport with urgent := s.dport.urgent.filter fun x => !ofPair x
                                 command := s.dport.command.filter fun x => !ofPair x }
        ∧ (t.contexts[k].stage = .closing ∨ t.contexts[k].stage = .free)))
  ∧ (∀ (s : State) (k : ContextId), s.exempt k = true ↔ s.contexts[k].force = true
      ∨ s.contexts[k].reason = .fade ∧ s.links[s.contexts[k].link].flags.switchWhenLive = true)

/-- TRANSMIT_COMPLETE (R10, R97, R101): the completed cell leaves its queue and the line is free. The slot of a cell of the urgent or
command queue becomes SENT with its deadline, whether the cell is a TALLY_SET, of a locked pair or any other command; the context of a
locked pair's cell counts the completion. A slot that a START met in transmission becomes WAITING instead, to offer its cell again
without counting an attempt, and the scan engine sets aside the points of a segment that is so sent again (R102, R145).
BACKOFF_ASSERT and BACKOFF_RELEASE (R12, R15): the transmission in progress is abandoned and its cell stays where it was,
a FRAME cell returning to the frame slot unless a newer one waits there; at the release the arbiter chooses again, as
TRANSMIT_START does without BACKOFF (O17, O18): so an uncommitted locked pair at the head of the urgent queue is committed or refused there.
That the choice is part of the release is the model's reading (log 22). -/
def Obligations.TransmitCompletesOrIsAbandoned : Prop :=
  (∀ s : State, s.due = [] →
    let slotsWith (i : SlotId) (x : Slot) : UnitChannel := { s.unit with slots := put s.unit.slots i x }
    let waitingAgain (i : SlotId) : Slot := { s.unit.slots[i] with state := .waiting, again := false, uncounted := true, begun := true }
    (s.uport.line = .reply → exec (.transmitComplete .u) s = .next { s with uport := { s.uport with line := .idle, reply := s.uport.reply.tail } })
    ∧ (s.uport.line = .report → exec (.transmitComplete .u) s = .next { s with uport := { s.uport with line := .idle, report := s.uport.report.tail } })
    ∧ (s.uport.line = .audio → exec (.transmitComplete .u) s = .next { s with uport := { s.uport with line := .idle, audio := s.uport.audio.tail } })
    ∧ (s.uport.line = .forward → exec (.transmitComplete .u) s = .next { s with uport := { s.uport with line := .idle, forward := s.uport.forward.tail } })
    ∧ (∀ c, s.dport.line = .frame c → exec (.transmitComplete .d) s = .next { s with dport := { s.dport with line := .idle } })
    ∧ (s.dport.line = .audio → exec (.transmitComplete .d) s = .next { s with dport := { s.dport with line := .idle, audio := s.dport.audio.tail } })
    ∧ (s.dport.line = .forward → exec (.transmitComplete .d) s = .next { s with dport := { s.dport with line := .idle, forward := s.dport.forward.tail } })
    ∧ (∀ (q : UnitCell) (rest : List UnitCell) (dport : DPort),
        (s.dport.line = .command ∧ s.dport.command = q :: rest ∧ dport = { s.dport with line := .idle, command := rest }
          ∨ s.dport.line = .urgent ∧ s.dport.urgent = q :: rest ∧ dport = { s.dport with line := .idle, urgent := rest }) →
        (q.context = none → s.unit.slots[q.slot].again = false → exec (.transmitComplete .d) s = .next
          { s with dport, unit := slotsWith q.slot (s.sentSlotOf q.slot) })
        ∧ (∀ k : ContextId, q.context = some k → s.unit.slots[q.slot].again = false → exec (.transmitComplete .d) s = .next
          { s with dport, unit := slotsWith q.slot (s.sentSlotOf q.slot)
                   contexts := put s.contexts k { s.contexts[k] with completions := s.contexts[k].completions + 1 } })
        ∧ (q.context = none → s.unit.slots[q.slot].again = true →
            (∀ rc : Receiver, s.unit.slots[q.slot].owner = some (.scan rc) → s.unit.slots[q.slot].discard = true) →
            exec (.transmitComplete .d) s = .next { s with dport, unit := slotsWith q.slot (waitingAgain q.slot) })
        ∧ (∀ rc : Receiver, q.context = none → s.unit.slots[q.slot].again = true → s.unit.slots[q.slot].owner = some (.scan rc) →
            s.unit.slots[q.slot].discard = false → exec (.transmitComplete .d) s = .next
              (State.setSweeper { s with dport, unit := slotsWith q.slot (waitingAgain q.slot) } rc { s.sweeper rc with results := [] }))))
  ∧ (∀ s : State, s.due = [] →
    (exec .backoffAssert s = .next { s with
      pins := { s.pins with backoff := true }
      dport := { s.dport with line := .idle, frameSlot := match s.dport.line, s.dport.frameSlot with
        | .frame c, none => some c
        | _, x => x } })
    ∧ (s.pins.reset = false → s.dport.line = .idle → s.dport.noPair → exec .backoffRelease s = .next { s with
        pins := { s.pins with backoff := false }, dport := s.dport.choice })
    ∧ (s.pins.reset = false → s.dport.line = .idle →
        exec .backoffRelease s = exec (.transmitStart .d) { s with pins := { s.pins with backoff := false } })
    ∧ (s.pins.reset = true ∨ s.dport.line ≠ .idle → exec .backoffRelease s = .next { s with
        pins := { s.pins with backoff := false } }))

/-! ### Frame timer and reference monitor (02) -/

/-- A frame event (R12, R20, R21, R30): the number rises by one modulo 65,536, the rate as now written takes force, the FRAME
cell with the new number and the reference state holding takes the frame slot, FRAME_WRAP is raised when the number comes
to 0, and the steps that the new number reaches become due. The tables that management alone writes, the mixer, the pins
and the D-port's line are left alone.
Tally (R156, R157, R165): the count rises to at most 255. While the processor is not stale and the count below the timeout an
application is made: the pending set, the written map and modes and the always_live flags come into effect, then the live flags are worked
out link by link, and then the lamp lines and the displays. While it is stale its count of frame events rises and the stale action is
applied: HOLD shows what the applied set gives, DARK turns every line and display off. At the timeout neither is done.
Then the links without a profile are confirmed in each of the four contexts (R112, R115), and the frames since last sample of every link
not UNUSED rise by one, to at most 255 (R137). A lamp line is lit, and a display is RED or GREEN, by the sources whose state is of its
kind (R158, R159, R161).
The list of due steps and the order inside the event, and among links and contexts, are the model's choices (log 4, log 6, log 30,
log 34). -/
def Obligations.FrameEventAdvances : Prop :=
  (∀ s : State,
    let count := min 255 (s.tally.count + 1)
    let placed : State := { s.advanceFrame with
      dport := { s.dport with frameSlot := some (ownCell 1 255 (half (s.timing.frame + 1) ++ [BitVec.ofNat 8 s.timing.ref.code])) }
      tally := { s.tally with count } }
    let shown (u : State) (on : Fin 16 → Bool) (display : LinkId → Display) : State :=
      (List.finRange 80).foldl
        (fun v l => if v.links[l].kind = .camera ∧ v.links[l].state ≠ .unused then v.setWanted l (display l) else v)
        { u with tally := { u.tally with lamps := Vector.ofFn fun n => { u.tally.lamps[n] with on := on n } } }
    let applied : State := (List.finRange 80).foldl State.workLive { placed with
      tally := { placed.tally with
        applied := s.tally.pendingSet, inEffect := s.tally.written
        lamps := Vector.ofFn fun n => { s.tally.lamps[n] with inEffect := s.tally.lamps[n].written } }
      links := Vector.ofFn fun l => { s.links[l] with always := s.links[l].flags.alwaysLive } }
    let staleNow : State := { placed with tally := { placed.tally with staleFrames := s.tally.staleFrames + 1 } }
    let told : State :=
      if s.tally.stale = true then
        match s.tally.action with
        | .hold => shown staleNow s.tally.lit s.tally.display
        | .dark => shown staleNow (fun _ => false) (fun _ => .off)
      else if count < s.tally.timeout then shown applied applied.tally.lit applied.tally.display
      else placed
    let confirmed := (((told.profilelessConfirm 0).profilelessConfirm 1).profilelessConfirm 2).profilelessConfirm 3
    let counted : State := { confirmed with monitors := Vector.ofFn fun l =>
      if confirmed.links[l].state = .unused then confirmed.monitors[l]
      else { confirmed.monitors[l] with silence := min 255 (confirmed.monitors[l].silence + 1) } }
    s.frameEvent = { counted with due := allDue.filter counted.isDue }
    ∧ (s.tally.stale = false → count < s.tally.timeout →
      told = State.applyTally { placed with tally := { s.tally with count } }))
  ∧ (∀ (s : State) (d : DueStep),
    let u := s.frameEvent
    d ∈ u.due ↔ match d with
      | .answerDeadline i => u.unit.slots[i].state = .sent ∧ u.unit.slots[i].deadline = some u.timing.frame
      | .switchFrame k => u.contexts[k].stage = .switch ∧ u.contexts[k].committed = true ∧ u.contexts[k].frame = some u.timing.frame
      | .confirmDeadline k => u.contexts[k].stage = .confirm ∧ u.contexts[k].deadline = some u.timing.frame
      | .revertFrame k => u.contexts[k].stage = .revert ∧ u.contexts[k].committed = true ∧ u.contexts[k].reverted = false
          ∧ u.contexts[k].frame = some u.timing.frame
      | .revertConfirmExpiry k => u.contexts[k].stage = .revert ∧ u.contexts[k].reverted = true
          ∧ u.contexts[k].deadline = some u.timing.frame
      | .telemetryTimeout l => (u.links[l].state = .up ∨ u.links[l].state = .faded)
          ∧ ∃ p ∈ u.links[l].profile, u.profiles[p].timeout ≤ u.monitors[l].silence
      | .tallyTimeout => u.tally.stale = false ∧ u.tally.timeout ≤ u.tally.count
      | .scanTrigger => u.scan.settings.mode = .triggered ∧ 0 < u.scan.settings.triggerPeriod.toNat
          ∧ u.timing.frame.toNat % u.scan.settings.triggerPeriod.toNat = 0)
  ∧ (∀ t : Tally,
    let onProgram (x : TallyState) := x = .program ∨ x = .both
    let onPreview (x : TallyState) := x = .preview ∨ x = .both
    (∀ n : Fin 16, t.lit n = true ↔ ∃ i : Fin 64, t.inEffect[i].lamps.getLsbD n.val = true ∧
      match t.lamps[n].inEffect with
      | .program => onProgram t.applied[i]
      | .preview => onPreview t.applied[i]
      | .either => t.applied[i] ≠ .off)
    ∧ ∀ l : LinkId,
      let sent (p : TallyState → Prop) := ∃ i : Fin 64, p t.applied[i] ∧ l ∈ t.inEffect[i].links
      (t.display l = .red ↔ sent onProgram) ∧ (t.display l = .green ↔ ¬ sent onProgram ∧ sent onPreview))
  ∧ ∀ s : State,
    s.frameEvent.timing = { s.timing with frame := s.timing.frame + 1, rateInForce := s.timing.rate }
    ∧ s.frameEvent.dport.frameSlot = some (ownCell 1 255 (half (s.timing.frame + 1) ++ [BitVec.ofNat 8 s.timing.ref.code]))
    ∧ s.advanceFrame = (let t : State := { s with timing := { s.timing with
          frame := s.timing.frame + 1, rateInForce := s.timing.rate } }
        if s.timing.frame = 65535 then t.raise .frameWrap 0 [] else t)
    ∧ s.frameEvent.due = allDue.filter s.frameEvent.isDue
    ∧ s.frameEvent.pending = s.pending ∧ s.frameEvent.pins = s.pins ∧ s.frameEvent.mixer = s.mixer
    ∧ s.frameEvent.switchLead = s.switchLead ∧ s.frameEvent.confirmWindow = s.confirmWindow
    ∧ s.frameEvent.profiles = s.profiles ∧ s.frameEvent.plan.bands = s.plan.bands
    ∧ s.frameEvent.plan.settings = s.plan.settings ∧ s.frameEvent.scan.settings = s.scan.settings
    ∧ s.frameEvent.tally.written = s.tally.written ∧ s.frameEvent.agent.enables = s.agent.enables
    ∧ s.frameEvent.dport.line = s.dport.line

/-- FLYWHEEL_EXPIRY in LOCKED (R23): a frame event 1.25 P after the window origin, which moves there. The first two raise the
flywheel count; the third enters HOLDOVER, whose state the FRAME cell carries, with the counts at 0, REFERENCE_LOST, and the
frame timer's next expiry one P later. In any other state it is no event.
FRAME_TIMER_EXPIRY (R24): in SEARCHING, HOLDOVER and RELOCKING each expiry is a frame event, and the next one comes one P
later, by the rate as now written. While the timer stands (LOCKED, or under RESET) there is none; and in RELOCKING the
timeout of R25 comes first when it lies before it.
Where there is no event, nothing changes (log 1); that the notice follows the frame event is the model's choice (log 6). -/
def Obligations.TimersExpire : Prop :=
  (∀ s : State, s.due = [] →
    let t := s.timing.windowOrigin + 5 * s.timing.rateInForce.period / 4
    let passed := { s.timing with now := max s.timing.now t, windowOrigin := t }
    (s.timing.ref = .locked → s.timing.flywheel < 2 → exec .flywheelExpiry s = .next
      ({ s with timing := { passed with flywheel := s.timing.flywheel + 1 } }.frameEvent))
    ∧ (s.timing.ref = .locked → 2 ≤ s.timing.flywheel → exec .flywheelExpiry s = .next
      ({ s with timing := { passed with
          ref := .holdover, flywheel := 0, good := 0, nextExpiry := some (t + s.timing.rate.period) } }.frameEvent.raiseReference
        .referenceLost))
    ∧ (s.timing.ref ≠ .locked → exec .flywheelExpiry s = .next s))
  ∧ (∀ s : State, s.due = [] →
    (∀ t : Nat, s.timing.nextExpiry = some t → s.timing.ref ≠ .locked →
      (s.timing.ref = .relocking → t ≤ s.timing.relockDeadline) → exec .frameTimerExpiry s = .next
        ({ s with timing := { s.timing with
            now := max s.timing.now t, lastTimerEvent := t, nextExpiry := some (t + s.timing.rate.period) } }.frameEvent))
    ∧ (s.timing.nextExpiry = none ∨ s.timing.ref = .locked → exec .frameTimerExpiry s = .next s))

/-- A MARKER in LOCKED (R22): up to 0.75 P after the window origin it is a glitch and only its arrival is kept; from 0.75 P on
it is a frame event, the window origin moves to it and the flywheel count is set to 0. `t` is the marker's instant, which the
flywheel's expiry bounds (log 5).
The rounding of the time that GLITCH carries is a free value (log 7). -/
def Obligations.MarkerInLocked : Prop :=
  ∀ (s : State) (c : Cell) (e : Nat), s.due = [] → s.pins.reset = false → integral c = true → c.kind = 1 →
    s.timing.ref = .locked →
    let t := max s.timing.now (min (s.timing.now + e) (s.timing.windowOrigin + 5 * s.timing.rateInForce.period / 4))
    let d := t - s.timing.windowOrigin
    (4 * d < 3 * s.timing.rateInForce.period → exec (.marker c e) s = .next
      ({ s with timing := { s.timing with now := t, lastMarker := t } }.raise .glitch 0 (u32 (glitchMicros d))))
    ∧ (3 * s.timing.rateInForce.period ≤ 4 * d → exec (.marker c e) s = .next
      ({ s with timing := { s.timing with now := t, lastMarker := t, windowOrigin := t, flywheel := 0 } }.frameEvent))

/-- A MARKER in SEARCHING or HOLDOVER (R24): it starts a relock, with a consecutive-good count of 1, whatever its spacing from an
earlier marker; it is no frame event, and the frame timer keeps its phase.
RELOCK_TIMEOUT (R25): 3 P without a marker in RELOCKING enters HOLDOVER, with the count at 0 and the armed condition clear; it is
no frame event and raises no notice. In any other state it is no event.
RELOCK (R27): in RELOCKING with the count at 8 it arms the relock and is answered OK; in RELOCKING below 8 NOT_READY; in any
other state BAD_STATE.
Instants are the model's (log 5), and where there is no event nothing changes (log 1). That RELOCK's OK reply carries no data is its
reading (log 12). -/
def Obligations.RelockStartsArmsAndTimesOut : Prop :=
  (∀ (s : State) (c : Cell) (e : Nat), s.due = [] → s.pins.reset = false → integral c = true → c.kind = 1 →
    let t := s.markerAt e
    let started (o : RelockOrigin) : State := { s with timing := { s.timing with
      now := max s.timing.now t, ref := .relocking, origin := o, good := 1, armed := false
      lastMarker := max s.timing.now t
      relockDeadline := max s.timing.now t + 3 * s.timing.rateInForce.period } }
    (s.timing.ref = .searching → exec (.marker c e) s = .next (started .searching))
    ∧ (s.timing.ref = .holdover → exec (.marker c e) s = .next (started .holdover)))
  ∧ (∀ s : State, s.due = [] →
    (s.timing.ref = .relocking → (∀ t, s.timing.nextExpiry = some t → s.timing.relockDeadline ≤ t) →
      exec .relockTimeout s = .next { s with timing := { s.timing with
        now := max s.timing.now s.timing.relockDeadline, ref := .holdover, good := 0, armed := false } })
    ∧ (s.timing.ref ≠ .relocking → exec .relockTimeout s = .next s))
  ∧ (∀ (s : State) (r : Request), s.Takes r → r.code = 0x39 →
    (s.timing.ref = .relocking → s.timing.good = 8 → exec .relock s = .next
      ({ s with timing := { s.timing with armed := true } }.answer r .ok []))
    ∧ (s.timing.ref = .relocking → s.timing.good ≠ 8 → exec .relock s = .next (s.answer r .notReady []))
    ∧ (s.timing.ref ≠ .relocking → exec .relock s = .next (s.answer r .badState [])))

/-- A MARKER in RELOCKING that completes no relock (R25, R27): a spacing from 0.98 P to 1.02 P raises the count, which stays at 8;
any other sets it to 1 and clears the armed condition. The rise from 7 to 8 with auto-relock clear raises RELOCK_READY.
The completing MARKER (R26): the count is at 8 after a regular marker, and either it has just risen there with auto-relock
set or the relock is armed. The state becomes LOCKED with the window origin at the marker; the marker is a frame event when
half a period or more has passed since the last timer frame event; REFERENCE_ACQUIRED or REFERENCE_RESTORED is raised by
the relock origin.
Instants are the model's (log 5); that the notice follows the frame event is its choice (log 6). -/
def Obligations.MarkerInRelocking : Prop :=
  (∀ (s : State) (c : Cell) (e : Nat), s.due = [] → s.pins.reset = false → integral c = true → c.kind = 1 →
    s.timing.ref = .relocking →
    let t := max s.timing.now (s.markerAt e)
    let p := s.timing.rateInForce.period
    let gap := t - s.timing.lastMarker
    let seen := { s.timing with now := t, lastMarker := t, relockDeadline := t + 3 * p }
    ((100 * gap < 98 * p ∨ 102 * p < 100 * gap) → exec (.marker c e) s = .next
      { s with timing := { seen with good := 1, armed := false } })
    ∧ (98 * p ≤ 100 * gap → 100 * gap ≤ 102 * p → s.timing.good < 7 → exec (.marker c e) s = .next
      { s with timing := { seen with good := s.timing.good + 1 } })
    ∧ (98 * p ≤ 100 * gap → 100 * gap ≤ 102 * p → s.timing.good = 7 → s.timing.autoRelock = false → s.timing.armed = false →
        exec (.marker c e) s = .next ({ s with timing := { seen with good := 8 } }.raise .relockReady 0 []))
    ∧ (98 * p ≤ 100 * gap → 100 * gap ≤ 102 * p → s.timing.good = 8 → s.timing.armed = false → exec (.marker c e) s = .next
      { s with timing := { seen with good := 8 } }))
  ∧ (∀ (s : State) (c : Cell) (e : Nat), s.due = [] → s.pins.reset = false → integral c = true → c.kind = 1 →
    s.timing.ref = .relocking →
    let t := max s.timing.now (s.markerAt e)
    let p := s.timing.rateInForce.period
    let gap := t - s.timing.lastMarker
    98 * p ≤ 100 * gap → 100 * gap ≤ 102 * p →
    (s.timing.good = 7 ∧ s.timing.autoRelock = true) ∨ ((s.timing.good = 7 ∨ s.timing.good = 8) ∧ s.timing.armed = true) →
    let locked : State := { s with timing := { s.timing with
      now := t, lastMarker := t, relockDeadline := t + 3 * p, ref := .locked, flywheel := 0, good := 0, armed := false
      nextExpiry := none, windowOrigin := t } }
    let notice := match s.timing.origin with
      | .searching => Notice.referenceAcquired
      | .holdover => Notice.referenceRestored
    exec (.marker c e) s = .next
      ((if p ≤ 2 * (t - s.timing.lastTimerEvent) then locked.frameEvent else locked).raiseReference notice))

/-! ### The carrier plan and coordination (03, 04) -/

/-- A release (R35, R38, R41): the entry takes the FREE values and the generation rises by one; an entry already FREE is left
alone. The link that owned it no longer records it as ACTIVE or STANDBY (R78), and a queued BACKUP of a link that so loses
its STANDBY takes target NEXT_CANDIDATE (R89).
A state change of a carrier entry keeps its other fields and the generation, and the link table records the entry that enters ACTIVE or
STANDBY and forgets the one that leaves (R36, R78). -/
def Obligations.EntryChangesAndReleases : Prop :=
  (∀ (s : State) (e : EntryId),
    (s.plan.carriers[e].state = .free → s.releaseEntry e = s)
    ∧ (s.plan.carriers[e].state ≠ .free →
        (s.releaseEntry e).plan = { s.plan with carriers := put s.plan.carriers e {}, gen := s.plan.gen + 1 }
        ∧ (∀ l : LinkId, s.plan.carriers[e].link = some l →
            (s.releaseEntry e).links = put s.links l { s.links[l] with
              active := if s.links[l].active = some e then none else s.links[l].active
              standby := if s.links[l].standby = some e then none else s.links[l].standby })
        ∧ (s.plan.carriers[e].link = none → (s.releaseEntry e).links = s.links)
        ∧ (∀ l : LinkId, s.plan.carriers[e].link = some l → s.plan.carriers[e].state = .standby →
            (s.links[l].standby = some e ∨ s.links[l].standby = none) →
            (s.releaseEntry e).retuneQueue = s.retuneQueue.map fun q =>
              if q.link = l ∧ q.target = .backup then { q with target := .nextCandidate } else q)
        ∧ (s.plan.carriers[e].state ≠ .standby → (s.releaseEntry e).retuneQueue = s.retuneQueue)
        ∧ (s.releaseEntry e).unit = s.unit ∧ (s.releaseEntry e).contexts = s.contexts ∧ (s.releaseEntry e).agent = s.agent))
  ∧ (∀ (s : State) (e : EntryId) (l : LinkId), s.plan.carriers[e].link = some l →
    let kept : Link := { s.links[l] with
      active := if s.links[l].active = some e then none else s.links[l].active
      standby := if s.links[l].standby = some e then none else s.links[l].standby }
    let plan (st : CarrierState) := { s.plan with carriers := put s.plan.carriers e { s.plan.carriers[e] with state := st } }
    s.changeEntry e .active = { s with plan := plan .active, links := put s.links l { kept with active := some e } }
    ∧ s.changeEntry e .retiring = { s with plan := plan .retiring, links := put s.links l kept }
    ∧ (s.links[l].standby = none →
        s.changeEntry e .standby = { s with plan := plan .standby, links := put s.links l { kept with standby := some e } }))

/-- BAND_READ and BAND_WRITE (R33, R43): a read gives the entry's five fields, the valid flag, the edges, the step and the allowed classes;
a write is refused BAD_INDEX, PLAN_IN_USE, BAD_VALUE or OVERLAP in that order, and else stored, with its step clamped into 5-1,000 (a
clear valid flag stores the cold-reset entry: edges 0, step 25, no class), answered with the entry as stored, and the attempt in progress
is marked stale.
CARRIER_READ and UNBLOCK (R35, R39): a read gives the entry's fields; an UNBLOCK releases a BLOCKED entry and is answered OK,
BAD_STATE for an entry that is not BLOCKED; both BAD_INDEX outside 0-95.
The allowed classes as one flag byte, and UNBLOCK's OK reply without data, are the model's readings (log 10, log 12), and that the unused
bits of the two flag bytes are ignored and read back clear is its choice (log 33). -/
def Obligations.BandsAndCarriersByRequest : Prop :=
  (∀ (s : State) (r : Request), s.Takes r →
    let fields (b : Band) : List Byte := u8 b.valid.toNat ++ u32 b.lower ++ u32 b.upper ++ u32 b.step
      ++ u8 (b.allowN.toNat + 2 * b.allowW10.toNat + 4 * b.allowW20.toNat)
    (∀ i : Fin 4, r.code = 0x10 → 1 ≤ r.args.length → u8At r.args 0 = i.val →
      exec .bandRead s = .next (s.answer r .ok (fields s.plan.bands[i])))
    ∧ (r.code = 0x10 → 1 ≤ r.args.length → 4 ≤ u8At r.args 0 → exec .bandRead s = .next (s.answer r .badIndex []))
    ∧ (r.code = 0x11 → 15 ≤ r.args.length → 4 ≤ u8At r.args 0 → exec .bandWrite s = .next (s.answer r .badIndex []))
    ∧ (∀ i : Fin 4, r.code = 0x11 → 15 ≤ r.args.length → u8At r.args 0 = i.val →
      let b : Band :=
        if flagAt r.args 1 0 = true then
          { valid := true, lower := u32At r.args 2, upper := u32At r.args 6, step := max 5 (min 1000 (u32At r.args 10))
            allowN := flagAt r.args 14 0, allowW10 := flagAt r.args 14 1, allowW20 := flagAt r.args 14 2 }
        else { valid := false, lower := 0, upper := 0, step := 25, allowN := false, allowW10 := false, allowW20 := false }
      let inUse := ∃ e : EntryId, s.plan.carriers[e].state ≠ .free ∧ s.plan.carriers[e].band = some i
      let edges := 30000 ≤ b.lower ∧ b.lower ≤ 7125000 ∧ 30000 ≤ b.upper ∧ b.upper ≤ 7125000 ∧ b.lower < b.upper
      let shares := ∃ j : Fin 4, j ≠ i ∧ s.plan.bands[j].valid = true ∧ b.lower ≤ s.plan.bands[j].upper
        ∧ s.plan.bands[j].lower ≤ b.upper
      (inUse → exec .bandWrite s = .next (s.answer r .planInUse []))
      ∧ (¬ inUse → b.valid = true → ¬ edges → exec .bandWrite s = .next (s.answer r .badValue []))
      ∧ (¬ inUse → b.valid = true → edges → shares → exec .bandWrite s = .next (s.answer r .overlap []))
      ∧ (¬ inUse → (b.valid = true → edges ∧ ¬ shares) → exec .bandWrite s = .next
          (State.answer { s with
            plan := { s.plan with bands := put s.plan.bands i b }
            engine := { s.engine with run := s.engine.run.map fun x => { x with attempt := { x.attempt with stale := true } } } }
            r .ok (fields b)))))
  ∧ (∀ (s : State) (r : Request), s.Takes r → 1 ≤ r.args.length →
    (r.code = 0x12 → 96 ≤ u8At r.args 0 → exec .carrierRead s = .next (s.answer r .badIndex []))
    ∧ (r.code = 0x14 → 96 ≤ u8At r.args 0 → exec .unblock s = .next (s.answer r .badIndex []))
    ∧ (∀ e : EntryId, u8At r.args 0 = e.val →
      let c := s.plan.carriers[e]
      (r.code = 0x12 → exec .carrierRead s = .next (s.answer r .ok
        (u8 c.state.code ++ u32 c.freq ++ u8 c.cls.code ++ [indexByte c.link] ++ u16 c.margin
          ++ [BitVec.ofNat 8 (c.suspect.toNat + 2 * c.snapped.toNat)] ++ [indexByte c.band])))
      ∧ (r.code = 0x14 → c.state ≠ .blocked → exec .unblock s = .next (s.answer r .badState []))
      ∧ (r.code = 0x14 → c.state = .blocked → exec .unblock s = .next ((s.releaseEntry e).answer r .ok []))))

/-- BLOCK, CHECK and SET_BACKUP file a coordination request and wait for its end, or are answered QUEUE_FULL (R44, R45, R47, R82). A
place is free for them while fewer than eight requests wait and fewer than four of them come from other filers than the
retune contexts. Before that they are refused: BAD_INDEX for a link outside 0-79, BAD_VALUE for a target code that is none or BACKUP, an
EXPLICIT frequency or a class out of range, and a CHECK of no link that is not EXPLICIT, and BAD_STATE for a CHECK of an UNUSED link and a
SET_BACKUP of an UNUSED or IDLE one.
The order of the refusals, and the refusal of a CHECK with target BACKUP, are the model's readings (log 27). -/
def Obligations.CoordinationRequestsAreFiled : Prop :=
  ∀ (s : State) (r : Request), s.Takes r →
    let place := s.engine.queue.length < 8 ∧
      (s.engine.queue.filter fun q => match q.filer with
        | .context _ => false
        | _ => true).length < 4
    let filed (q : CoordRequest) : State := State.defer { s with engine := { s.engine with queue := s.engine.queue ++ [q] } } r
    (∀ (f : Nat) (cls : CarrierClass), r.code = 0x13 → 5 ≤ r.args.length → u32At r.args 0 = f → 30000 ≤ f → f ≤ 7125000 →
      u8At r.args 4 = cls.code →
      (place → exec .block s = .next (filed { kind := .block, filer := .management r.id, link := none, target := .explicit f, cls }))
      ∧ (¬ place → exec .block s = .next (s.answer r .queueFull [])))
    ∧ (∀ (f : Nat) (cls : CarrierClass), r.code = 0x38 → 7 ≤ r.args.length → u8At r.args 0 = 255 → u8At r.args 1 = 0 →
      u32At r.args 2 = f → 30000 ≤ f → f ≤ 7125000 → u8At r.args 6 = cls.code →
      (place → exec .check s = .next (filed { kind := .check, filer := .management r.id, link := none, target := .explicit f, cls }))
      ∧ (¬ place → exec .check s = .next (s.answer r .queueFull [])))
    ∧ (let outside (f : Nat) := f < 30000 ∨ 7125000 < f
      let badTarget := 2 ≤ u8At r.args 1 ∨ u8At r.args 1 = 0 ∧ outside (u32At r.args 2)
      (r.code = 0x13 → 5 ≤ r.args.length → (outside (u32At r.args 0) ∨ 2 < u8At r.args 4) →
        exec .block s = .next (s.answer r .badValue []))
      ∧ (r.code = 0x38 → 7 ≤ r.args.length → u8At r.args 0 = 255 →
        (u8At r.args 1 ≠ 0 ∨ outside (u32At r.args 2) ∨ 2 < u8At r.args 6) → exec .check s = .next (s.answer r .badValue []))
      ∧ (r.code = 0x38 → 7 ≤ r.args.length → 80 ≤ u8At r.args 0 → u8At r.args 0 ≠ 255 → exec .check s = .next (s.answer r .badIndex []))
      ∧ (r.code = 0x33 → 6 ≤ r.args.length → 80 ≤ u8At r.args 0 → exec .setBackup s = .next (s.answer r .badIndex []))
      ∧ (r.code = 0x38 → 7 ≤ r.args.length → u8At r.args 0 < 80 → badTarget → exec .check s = .next (s.answer r .badValue []))
      ∧ (r.code = 0x33 → 6 ≤ r.args.length → u8At r.args 0 < 80 → badTarget → exec .setBackup s = .next (s.answer r .badValue [])))
    ∧ (∀ (l : LinkId) (t : Target), u8At r.args 0 = l.val → (u8At r.args 1 = 1 ∧ t = .nextCandidate ∨
        u8At r.args 1 = 0 ∧ t = .explicit (u32At r.args 2) ∧ 30000 ≤ u32At r.args 2 ∧ u32At r.args 2 ≤ 7125000) →
      (r.code = 0x38 → 7 ≤ r.args.length → s.links[l].state ≠ .unused →
        (place → exec .check s = .next (filed { kind := .check, filer := .management r.id, link := some l, target := t, cls := s.links[l].cls }))
        ∧ (¬ place → exec .check s = .next (s.answer r .queueFull [])))
      ∧ (r.code = 0x38 → 7 ≤ r.args.length → s.links[l].state = .unused → exec .check s = .next (s.answer r .badState []))
      ∧ (r.code = 0x33 → 6 ≤ r.args.length → s.links[l].state ≠ .unused → s.links[l].state ≠ .idle →
        (place → exec .setBackup s = .next
          (filed { kind := .pickBackup, filer := .management r.id, link := some l, target := t, cls := s.links[l].cls }))
        ∧ (¬ place → exec .setBackup s = .next (s.answer r .queueFull [])))
      ∧ (r.code = 0x33 → 6 ≤ r.args.length → (s.links[l].state = .unused ∨ s.links[l].state = .idle) →
        exec .setBackup s = .next (s.answer r .badState [])))

/-- COORD_REQUEST_START (R46, R52, R65, R66): with the engine IDLE the oldest request starts. A request other than CHECK that finds no
FREE entry ends TABLE_FULL, and a PICK_BACKUP for a link that is UNUSED or IDLE ends BAD_STATE. Otherwise its first try starts, with the
class its link has now: EXPLICIT with its frequency, NEXT_CANDIDATE with the first visited candidate that is not a frequency of the link's
own carriers. The attempt keeps the generation, the bands, the settings, the counted carriers and the foreign frequencies as they stand.
With every visit skipped, or none to make, the request ends NO_CANDIDATE with no try (R67). A request that so ends leaves the queue and
its filer is told (R47): management by its reply, a context by the result and the summary, the auto-backup rule by BACKUP_LOST. The
snapped flag of the record of no try is a free value (log 31); when a PICK_BACKUP's link is looked at is the model's reading (log 43).
The order of visits of a candidate search (R66): from after the first position that holds the ACTIVE frequency, wrapping, and
ending with that position; from the first to the last when there is no such position. -/
def Obligations.CoordinationStarts : Prop :=
  (∀ (s : State) (q : CoordRequest) (rest : List CoordRequest), s.due = [] → s.engine.queue = q :: rest → s.engine.run = none →
    let cls := match q.link with
      | some l => s.links[l].cls
      | none => q.cls
    let attempt (f : Nat) : Attempt :=
      { candidate := f, count := 1, gen := s.plan.gen, cls, blocked := q.kind == .block || (q.kind == .check && q.link.isNone)
        bands := s.plan.bands, settings := s.plan.settings, carriers := copyCarriers s.plan
        foreign := s.scan.foreign.map (·.freq), stale := false }
    let started (x : Run) : State := { s with engine := { s.engine with run := some x } }
    let admissible := ((∃ e : EntryId, s.plan.carriers[e].state = .free) ∨ q.kind = .check) ∧
      (q.kind = .pickBackup → ∀ l, q.link = some l → s.links[l].state ≠ .unused ∧ s.links[l].state ≠ .idle)
    let dropped : State := { s with engine := { queue := rest, run := none } }
    let told (res : Result) : State := match q.filer with
      | .management id => dropped.answerId id res (recordBytes noTry s.plan.gen none 0)
      | .context k => dropped.coordEnded k res none { result := BitVec.ofNat 8 res.code, stage := 0, checked := 0, gen := s.plan.gen }
      | .auto => match q.link with
        | some l => dropped.raise .backupLost (linkByte l) ([255] ++ u8 3 ++ u8 res.code)
        | none => dropped
    (q.kind ≠ .check → (∀ e : EntryId, s.plan.carriers[e].state ≠ .free) → exec .coordRequestStart s = .next (told .tableFull))
    ∧ (∀ l : LinkId, (∃ e : EntryId, s.plan.carriers[e].state = .free) → q.kind = .pickBackup → q.link = some l →
        (s.links[l].state = .unused ∨ s.links[l].state = .idle) → exec .coordRequestStart s = .next (told .badState))
    ∧ (∀ l : LinkId, admissible → q.target = .nextCandidate → q.link = some l →
        (∀ g ∈ s.links[l].candidates,
          ∃ e : EntryId, s.plan.carriers[e].state ≠ .free ∧ s.plan.carriers[e].link = some l ∧ s.plan.carriers[e].freq = g) →
        exec .coordRequestStart s = .next (told .noCandidate))
    ∧ (∀ f : Nat, admissible → q.target = .explicit f → exec .coordRequestStart s = .next
        (started { cls, list := [], visits := [], tries := 1, lastTry := none, attempt := attempt f }))
    ∧ (∀ (l : LinkId) (f : Nat) (own visits : List Nat), admissible → q.target = .nextCandidate → q.link = some l →
        visitOrder s.links[l].candidates (s.links[l].active.map fun e => s.plan.carriers[e].freq) = own ++ f :: visits →
        (∀ g ∈ own, ∃ e : EntryId, s.plan.carriers[e].state ≠ .free ∧ s.plan.carriers[e].link = some l ∧ s.plan.carriers[e].freq = g) →
        (∀ e : EntryId, s.plan.carriers[e].state ≠ .free → s.plan.carriers[e].link = some l → s.plan.carriers[e].freq ≠ f) →
        exec .coordRequestStart s = .next
          (started { cls, list := s.links[l].candidates, visits, tries := 1, lastTry := none, attempt := attempt f })))
  ∧ (noTry.result = .fail ∧ noTry.stage = 0 ∧ noTry.requested = 0 ∧ noTry.checked = 0 ∧ noTry.margin = 65535 ∧ noTry.attempts = 0
    ∧ noTry.offence = { a := 255, b := 255, c := 255, v := 255, other := 0, distance := 0, required := 0 })
  ∧ ((∀ list : List Nat, visitOrder list none = list)
  ∧ (∀ (list : List Nat) (f : Nat), f ∉ list → visitOrder list (some f) = list)
  ∧ (∀ (before after : List Nat) (f : Nat), f ∉ before →
      visitOrder (before ++ f :: after) (some f) = after ++ before ++ [f]))

/-- ATTEMPT_COMPLETE (R37, R46, R47, R48, R63 to R69): on a changed generation or a stale mark the attempt is repeated, at most three in
a try, and then the try ends PLAN_BUSY. A failing or PLAN_BUSY try ends an EXPLICIT request; for NEXT_CANDIDATE the next visit that is
no frequency of the link's own carriers is tried, and with none left the request ends NO_CANDIDATE with its last try. A passing CHECK
ends PASS; a passing ADMIT, PICK_BACKUP or BLOCK is admitted into the lowest-numbered FREE entry as RESERVED, STANDBY or BLOCKED, the
generation rises, and a PICK_BACKUP's link records the new STANDBY before its old one is released. With no FREE entry the request ends
TABLE_FULL, and a PICK_BACKUP whose link is UNUSED or IDLE ends BAD_STATE. The outcome goes to the filer: a reply with the result
record, the summary to a retune context, and BACKUP_LOST for the auto-backup rule unless a carrier was admitted. The record carries its
fields in R68's order; an attempt's copy takes every counted carrier in ascending index (R52).
What the record of a PLAN_BUSY try keeps, and that at an admission the link is looked at before the FREE entry, are the model's readings
(log 15); so is that a PICK_BACKUP whose link was released ends BAD_STATE on a pass alone (log 43). -/
def Obligations.AttemptCompletes : Prop :=
  (∀ (y : TryRecord) (gen : Half) (e : Option EntryId) (tries : Nat), recordBytes y gen e tries =
    u8 (match y.result with
      | .pass => 0x11
      | .fail => 0x12
      | .planBusy => 0x14) ++ u8 y.stage ++ u32 y.requested ++ u32 y.checked ++ u8 y.snapped.toNat ++ u16 y.margin ++ half gen
      ++ [indexByte e] ++ u8 y.attempts ++ u8 tries ++ [y.offence.a, y.offence.b, y.offence.c, y.offence.v] ++ u32 y.offence.other
      ++ u32 y.offence.distance ++ u32 y.offence.required)
  ∧ (∀ p : Plan, copyCarriers p = ((List.finRange 96).filter fun e => p.carriers[e].state != .free).map fun e =>
      { entry := e, freq := p.carriers[e].freq, cls := p.carriers[e].cls, blocked := p.carriers[e].state == .blocked })
  ∧ ∀ (s : State) (q : CoordRequest) (rest : List CoordRequest) (x : Run), s.due = [] → s.engine.queue = q :: rest →
    s.engine.run = some x →
    let t := x.attempt
    let o := evaluate t
    let changed := t.gen ≠ s.plan.gen ∨ t.stale = true
    let fresh (f n : Nat) : Attempt :=
      { candidate := f, count := n, gen := s.plan.gen, cls := x.cls
        blocked := q.kind == .block || (q.kind == .check && q.link.isNone), bands := s.plan.bands, settings := s.plan.settings
        carriers := copyCarriers s.plan, foreign := s.scan.foreign.map (·.freq), stale := false }
    let passed : TryRecord := { result := .pass, stage := 0, requested := t.candidate, checked := o.checked, snapped := o.snapped
                                margin := o.margin, attempts := t.count, offence := {} }
    let failed : TryRecord := { result := .fail, stage := o.stage, requested := t.candidate, checked := o.checked, snapped := o.snapped
                                margin := o.margin, attempts := t.count, offence := o.offence }
    let busy : TryRecord := { result := .planBusy, stage := 0, requested := t.candidate, checked := o.checked, snapped := o.snapped
                              margin := 65535, attempts := t.count, offence := {} }
    let handed (u : State) (res : Result) (e : Option EntryId) (y : TryRecord) : State :=
      let v : State := { u with engine := { queue := rest, run := none } }
      match q.filer, e, q.link with
      | .management id, _, _ => v.answerId id res (recordBytes y u.plan.gen e x.tries)
      | .context k, _, _ => v.coordEnded k res e { result := BitVec.ofNat 8 res.code, stage := y.stage, checked := y.checked, gen := u.plan.gen }
      | .auto, none, some l => v.raise .backupLost (linkByte l) [255, 3, BitVec.ofNat 8 res.code]
      | .auto, _, _ => v
    let admitted (e : EntryId) (st : CarrierState) : State := { s with plan := { s.plan with
      carriers := put s.plan.carriers e { state := st, freq := o.checked, cls := x.cls, link := if q.kind = .block then none else q.link
                                          margin := o.margin, suspect := false, snapped := o.snapped, band := o.band }
      gen := s.plan.gen + 1 } }
    let gone := q.kind = .pickBackup ∧ ∃ l : LinkId, q.link = some l ∧ (s.links[l].state = .unused ∨ s.links[l].state = .idle)
    let lowest (e : EntryId) := s.plan.carriers[e].state = .free ∧ ∀ j : EntryId, j < e → s.plan.carriers[j].state ≠ .free
    let own (f : Nat) := ∃ (e : EntryId) (l : LinkId), q.link = some l ∧ s.plan.carriers[e].state ≠ .free
      ∧ s.plan.carriers[e].link = some l ∧ s.plan.carriers[e].freq = f
    (changed → t.count < 3 → exec .attemptComplete s = .next { s with engine := { s.engine with run := some { x with
        attempt := fresh t.candidate (t.count + 1) } } })
    ∧ (∀ f : Nat, q.target = .explicit f →
        (changed → 3 ≤ t.count → exec .attemptComplete s = .next (handed s .planBusy none busy))
        ∧ (¬ changed → o.stage ≠ 0 → exec .attemptComplete s = .next (handed s .fail none failed)))
    ∧ (∀ y : TryRecord, q.target = .nextCandidate → (changed ∧ 3 ≤ t.count ∧ y = busy ∨ ¬ changed ∧ o.stage ≠ 0 ∧ y = failed) →
        (∀ (before after : List Nat) (f : Nat), x.visits = before ++ f :: after → (∀ g ∈ before, own g) → ¬ own f →
          exec .attemptComplete s = .next { s with engine := { s.engine with run := some { x with
            visits := after, tries := x.tries + 1, lastTry := some y, attempt := fresh f 1 } } })
        ∧ ((∀ g ∈ x.visits, own g) → exec .attemptComplete s = .next (handed s .noCandidate none y)))
    ∧ (¬ changed → o.stage = 0 →
      (q.kind = .check → exec .attemptComplete s = .next (handed s .pass none passed))
      ∧ (q.kind ≠ .check → ¬ gone → (∀ e : EntryId, s.plan.carriers[e].state ≠ .free) →
          exec .attemptComplete s = .next (handed s .tableFull none passed))
      ∧ (gone → exec .attemptComplete s = .next (handed s .badState none passed))
      ∧ (∀ e : EntryId, lowest e →
        (q.kind = .admitCarrier → exec .attemptComplete s = .next (handed (admitted e .reserved) .pass (some e) passed))
        ∧ (q.kind = .block → exec .attemptComplete s = .next (handed (admitted e .blocked) .pass (some e) passed))
        ∧ (∀ l : LinkId, q.kind = .pickBackup → ¬ gone → q.link = some l → exec .attemptComplete s = .next
            (handed (State.releaseOpt { admitted e .standby with links := put s.links l { s.links[l] with standby := some e } }
              s.links[l].standby) .pass (some e) passed))))

/-- Stage 1 (R34, R54, R55): the candidate's band is the valid one that holds it, edges included, and none where no valid one does; a class
is allowed by its flag of the band, and its bandwidth is 200, 10,000 or 20,000 kHz; the snap moves it to the nearest raster point, an exact
half down; and the stage fails without a band, with a class the band does not allow, and with an occupied range that leaves
the band. The stage is one comparison. -/
def Obligations.BandAndRaster : Prop :=
  (∀ (bands : Vector Band 4) (f : Nat),
    let holds (i : Fin 4) := bands[i].valid = true ∧ bands[i].lower ≤ f ∧ f ≤ bands[i].upper
    (∀ i : Fin 4, findBand bands f = some i → holds i)
    ∧ (∀ i : Fin 4, holds i → (∀ j : Fin 4, j ≠ i → ¬ holds j) → findBand bands f = some i)
    ∧ (findBand bands f = none ↔ ∀ i : Fin 4, ¬ holds i))
  ∧ (∀ b : Band, b.allows .n = b.allowN ∧ b.allows .w10 = b.allowW10 ∧ b.allows .w20 = b.allowW20)
  ∧ (CarrierClass.n.bandwidth = 200 ∧ CarrierClass.w10.bandwidth = 10000 ∧ CarrierClass.w20.bandwidth = 20000)
  ∧ (∀ (b : Band) (f : Nat), 0 < b.step → b.lower ≤ f →
    (∃ k : Nat, snap b f = b.lower + k * b.step) ∧ 2 * f ≤ 2 * snap b f + b.step ∧ 2 * snap b f < 2 * f + b.step)
  ∧ (∀ t : Attempt, (∀ i : Fin 4, ¬ (t.bands[i].valid = true ∧ t.bands[i].lower ≤ t.candidate ∧ t.candidate ≤ t.bands[i].upper)) →
      (evaluate t).stage = 1 ∧ (evaluate t).band = none ∧ (evaluate t).checked = 0 ∧ (evaluate t).comparisons = 1)
  ∧ (∀ (t : Attempt) (i : Fin 4), findBand t.bands t.candidate = some i → t.bands[i].allows t.cls = false →
      (evaluate t).stage = 1 ∧ (evaluate t).band = some i ∧ (evaluate t).checked = 0 ∧ (evaluate t).comparisons = 1)
  ∧ (∀ (t : Attempt) (i : Fin 4), findBand t.bands t.candidate = some i → t.bands[i].allows t.cls = true →
      let f := snap t.bands[i] t.candidate
      (evaluate t).checked = f ∧ (evaluate t).band = some i ∧ ((evaluate t).snapped = true ↔ f ≠ t.candidate)
      ∧ (¬ (t.bands[i].lower + t.cls.bandwidth / 2 ≤ f ∧ f + t.cls.bandwidth / 2 ≤ t.bands[i].upper) →
          (evaluate t).stage = 1 ∧ (evaluate t).comparisons = 1)
      ∧ (t.bands[i].lower + t.cls.bandwidth / 2 ≤ f → f + t.cls.bandwidth / 2 ≤ t.bands[i].upper → (evaluate t).stage ≠ 1))

/-- A candidate whose stage 1 passes passes the attempt exactly when every comparison of stages 2 to 5 meets its threshold (R53, R56 to
R60): its spacing from every counted carrier, its distance from every foreign entry, and, in class N, every two-signal and, with
W3 above 0, every three-signal product that it takes part in as a signal or a victim, but for comparisons whose members are all
BLOCKED. -/
def Obligations.PassMeansEveryComparisonHolds : Prop :=
  ∀ (t : Attempt) (i : Fin 4), t.proper → findBand t.bands t.candidate = some i → t.bands[i].allows t.cls = true →
    let f := snap t.bands[i] t.candidate
    t.bands[i].lower + t.cls.bandwidth / 2 ≤ f → f + t.cls.bandwidth / 2 ≤ t.bands[i].upper →
    let x : Member := { code := 254, freq := f, blocked := t.blocked }
    let others : List Member := (t.carriers.filter fun j => j.cls == .n).map fun j =>
      { code := BitVec.ofNat 8 j.entry.val, freq := j.freq, blocked := j.blocked }
    let guard (y : CarrierClass) : Nat :=
      if t.cls = .n ∧ y = .n then t.settings.gNN else if t.cls = .n ∨ y = .n then t.settings.gNW else t.settings.gWW
    ((evaluate t).stage = 0 ↔
      (∀ j ∈ t.carriers, ¬ (j.blocked = true ∧ t.blocked = true) →
        (t.cls.bandwidth + j.cls.bandwidth) / 2 + guard j.cls ≤ apart f j.freq)
      ∧ (∀ ff ∈ t.foreign, t.cls.bandwidth / 2 + t.settings.gF ≤ apart f ff)
      ∧ (t.cls = .n → ∀ a ∈ x :: others, ∀ c ∈ x :: others, ∀ v ∈ x :: others, a ≠ c → a ≠ v → c ≠ v →
          a = x ∨ c = x ∨ v = x → ¬ (a.blocked = true ∧ c.blocked = true ∧ v.blocked = true) →
          t.settings.w ≤ apart (2 * a.freq - c.freq) v.freq)
      ∧ (t.cls = .n → 0 < t.settings.w3 → ∀ a ∈ x :: others, ∀ b ∈ x :: others, ∀ c ∈ x :: others, ∀ v ∈ x :: others,
          a ≠ b → a ≠ c → a ≠ v → b ≠ c → b ≠ v → c ≠ v → a = x ∨ b = x ∨ c = x ∨ v = x →
          ¬ (a.blocked = true ∧ b.blocked = true ∧ c.blocked = true ∧ v.blocked = true) →
          t.settings.w3 ≤ apart (a.freq + b.freq - c.freq) v.freq))

/-! ### Links and the retune queue (05) -/

/-- LINK_READ and CANDIDATES_READ (R72, R76): the written fields, the state, the entries, the live flags, the queue status, the serving
context and the last retune result of a link; and its candidate list. Both BAD_INDEX outside 0-79.
CANDIDATES_WRITE (R76): a list of at most 8 frequencies from 30,000 to 7,125,000 kHz is stored, in order; BAD_INDEX and BAD_VALUE
otherwise.
The bytes of the flags and of the last retune result, a CANDIDATES reply without data, and the zero summary of a retune that ended before
its coordination request did, are the model's readings (log 10, log 12, log 42). A context serves its link until it is FREE (R109). -/
def Obligations.LinkTableIsReadAndCandidatesWritten : Prop :=
  (∀ (s : State) (l : LinkId),
    let serves (k : ContextId) := s.contexts[k].stage ≠ .free ∧ s.contexts[k].link = l
    (s.serving l = none ↔ ∀ k : ContextId, ¬ serves k)
    ∧ ∀ k : ContextId, s.serving l = some k ↔ serves k ∧ ∀ j : ContextId, j < k → ¬ serves j)
  ∧ (∀ (s : State) (r : Request), s.Takes r → 1 ≤ r.args.length →
    let condition (c : Option Condition) : Nat := match c with
      | none => 0
      | some .done => 1
      | some .refused => 2
      | some .lengthError => 4
      | some .retryError => 5
    (∀ l : LinkId, u8At r.args 0 = l.val →
      let x := s.links[l]
      (r.code = 0x16 → exec .linkRead s = .next (s.answer r .ok
        (u8 x.kind.code ++ u8 x.cls.code ++ [x.rack] ++ u8 x.chan ++ [x.portable] ++ [indexByte x.profile]
          ++ u8 (x.flags.autoSwitchover.toNat + 2 * x.flags.autoBackup.toNat + 4 * x.flags.autoAvoid.toNat
            + 8 * x.flags.switchWhenLive.toNat + 16 * x.flags.alwaysLive.toNat + 32 * x.flags.telemetryRelay.toNat)
          ++ s8 x.offset ++ u8 x.state.code ++ [indexByte x.active] ++ [indexByte x.standby] ++ u8 x.live.toNat ++ u8 x.always.toNat
          ++ u8 (match s.retuneQueue.find? (·.link = l) with
            | none => 0
            | some e => if e.held then 2 else 1)
          ++ [indexByte (s.serving l)] ++ u8 x.last.ending.code ++ u8 x.last.reason.code ++ u8 x.last.target.code
          ++ u8 x.last.stage.code
          ++ (match x.last.summary with
            | some m => [m.result] ++ u8 m.stage ++ u32 m.checked ++ half m.gen
            | none => [0, 0, 0, 0, 0, 0, 0, 0])
          ++ u8 (condition x.last.rack) ++ u8 (condition x.last.portable) ++ half x.last.frame)))
      ∧ (r.code = 0x18 → exec .candidatesRead s = .next (s.answer r .ok (u8 x.candidates.length ++ x.candidates.flatMap u32))))
    ∧ (80 ≤ u8At r.args 0 →
      (r.code = 0x16 → exec .linkRead s = .next (s.answer r .badIndex []))
      ∧ (r.code = 0x18 → exec .candidatesRead s = .next (s.answer r .badIndex []))))
  ∧ (∀ (s : State) (r : Request) (fs : List Nat), s.Takes r → r.code = 0x19 → 2 + 4 * u8At r.args 1 ≤ r.args.length →
    fs = (List.range (u8At r.args 1)).map (fun i => u32At r.args (2 + 4 * i)) →
    (80 ≤ u8At r.args 0 → exec .candidatesWrite s = .next (s.answer r .badIndex []))
    ∧ (∀ l : LinkId, u8At r.args 0 = l.val →
      (fs.length ≤ 8 → (∀ f ∈ fs, 30000 ≤ f ∧ f ≤ 7125000) → exec .candidatesWrite s = .next
        (State.answer { s with links := put s.links l { s.links[l] with candidates := fs } } r .ok []))
      ∧ ((8 < fs.length ∨ ∃ f ∈ fs, f < 30000 ∨ 7125000 < f) → exec .candidatesWrite s = .next (s.answer r .badValue []))))

/-- LINK_WRITE (R73, R74): BAD_INDEX outside 0-79; BAD_VALUE for a kind, class or profile that is none, a class the kind does not allow,
and a channel or units out of range or equal; BUSY when it would change the kind, class or units of a link that is neither UNUSED nor
IDLE; DUPLICATE when another link not UNUSED has its rack unit and channel, or one of its units in another part. Otherwise the eight
fields are stored, the offset clamped into -20..+20, every other link is as it was, and the reply carries the fields as stored. A link that
it defines becomes IDLE, and gives up a STANDBY it still recorded (R77). A link so defined, or whose profile becomes none, restarts its
monitor (R122, R123), and a camera so defined or addressed anew has a record of UNKNOWN target and delivered display (R160). The held flag
of the link's queue entry is evaluated again by the flags as written (R75, R87).
That the reply carries the eight written fields alone is the model's reading (log 32), and that bits 6 and 7 of the flags are ignored its
choice (log 33). -/
def Obligations.LinkIsWritten : Prop :=
  ∀ (s : State) (r : Request), s.Takes r → r.code = 0x17 → 9 ≤ r.args.length →
    (80 ≤ u8At r.args 0 → exec .linkWrite s = .next (s.answer r .badIndex []))
    ∧ (u8At r.args 0 < 80 → (2 < u8At r.args 1 ∨ 2 < u8At r.args 2 ∨ 8 ≤ u8At r.args 6 ∧ u8At r.args 6 ≠ 255) →
        exec .linkWrite s = .next (s.answer r .badValue []))
    ∧ (∀ (l : LinkId) (kind : LinkKind) (cls : CarrierClass) (profile : Option (Fin 8)), u8At r.args 0 = l.val →
        u8At r.args 1 = kind.code → u8At r.args 2 = cls.code → byteAt r.args 6 = indexByte profile →
      let old := s.links[l]
      let rack := byteAt r.args 3
      let chan := u8At r.args 4
      let portable := byteAt r.args 5
      let flags : LinkFlags :=
        { autoSwitchover := flagAt r.args 7 0, autoBackup := flagAt r.args 7 1, autoAvoid := flagAt r.args 7 2
          switchWhenLive := flagAt r.args 7 3, alwaysLive := flagAt r.args 7 4, telemetryRelay := flagAt r.args 7 5 }
      let offset := max (-20) (min 20 (s8At r.args 8))
      let reply := u8 kind.code ++ u8 cls.code ++ [rack] ++ u8 chan ++ [portable] ++ [indexByte profile] ++ [byteAt r.args 7 &&& 0x3F]
        ++ s8 offset
      let fits := (kind = .camera ↔ cls ≠ .n) ∧ chan ≤ 3 ∧ isUnit rack = true ∧ isUnit portable = true ∧ rack ≠ portable
      let moves := kind ≠ old.kind ∨ cls ≠ old.cls ∨ rack ≠ old.rack ∨ chan ≠ old.chan ∨ portable ≠ old.portable
      let fixed := old.state ≠ .unused ∧ old.state ≠ .idle
      let clash := ∃ m : LinkId, m ≠ l ∧ s.links[m].state ≠ .unused ∧ (rack = s.links[m].rack ∧ chan = s.links[m].chan
        ∨ portable = s.links[m].portable ∨ portable = s.links[m].rack ∨ rack = s.links[m].portable)
      let record : Link := { old with
        kind, cls, rack, chan, portable, profile, flags, offset, state := if old.state = .unused then .idle else old.state }
      let stored : State := { s with links := put s.links l record }
      let settled : State := if old.state = .unused then stored.releaseOpt old.standby else stored
      let unknown : Camera := { s.tally.cameras[l] with target := none, delivered := none, latched := none, unconfirmed := false }
      let restarted : Monitor :=
        { batteryLow := s.monitors[l].batteryLow, lowCrossed := s.monitors[l].lowCrossed, highCrossed := s.monitors[l].highCrossed }
      (¬ fits → exec .linkWrite s = .next (s.answer r .badValue []))
      ∧ (fits → fixed → moves → exec .linkWrite s = .next (s.answer r .busy []))
      ∧ (fits → ¬ (fixed ∧ moves) → clash → exec .linkWrite s = .next (s.answer r .duplicate []))
      ∧ (fits → ¬ (fixed ∧ moves) → ¬ clash → exec .linkWrite s = .next (State.answer { settled with
          monitors := if old.state = .unused ∨ old.profile ≠ none ∧ profile = none then put s.monitors l restarted else s.monitors
          tally := if kind = .camera ∧ (old.state = .unused ∨ old.kind ≠ .camera ∨ old.portable ≠ portable) then
              { s.tally with cameras := put s.tally.cameras l unknown }
            else s.tally
          retuneQueue := settled.retuneQueue.map fun e => if e.link = l then
            { e with held := old.live && !e.force && !(e.reason == .fade && flags.switchWhenLive) } else e } r .ok reply)))

/-- ASSIGN and RETUNE (R80, R81, R85, R86, R87): accepted for a link in IDLE, or in UP, FADED or LOST, the request replaces the link's entry in
place, or joins the tail, or finds the queue full; the reply says whether an entry was replaced, whether it is held, and its
position. BAD_STATE in any other link state; NO_BACKUP for target BACKUP without a STANDBY. Before these, BAD_INDEX for a link outside 0-79,
and BAD_VALUE for a target code that is none, an EXPLICIT frequency out of range, and an ASSIGN with target BACKUP. The entry is held while
its link is live, without FORCE. -/
def Obligations.RetunesAreFiled : Prop :=
  (∀ (s : State) (r : Request), s.Takes r → 7 ≤ r.args.length →
    (80 ≤ u8At r.args 0 →
      (r.code = 0x30 → exec .assign s = .next (s.answer r .badIndex []))
      ∧ (r.code = 0x31 → exec .retune s = .next (s.answer r .badIndex [])))
    ∧ (u8At r.args 0 < 80 → (2 < u8At r.args 1 ∨ u8At r.args 1 = 0 ∧ (u32At r.args 2 < 30000 ∨ 7125000 < u32At r.args 2)) →
      (r.code = 0x30 → exec .assign s = .next (s.answer r .badValue []))
      ∧ (r.code = 0x31 → exec .retune s = .next (s.answer r .badValue []))))
  ∧ ∀ (s : State) (r : Request) (l : LinkId) (t : Target), s.Takes r → 7 ≤ r.args.length → u8At r.args 0 = l.val →
    (u8At r.args 1 = 1 ∧ t = .nextCandidate ∨ u8At r.args 1 = 2 ∧ t = .backup ∨
      u8At r.args 1 = 0 ∧ t = .explicit (u32At r.args 2) ∧ 30000 ≤ u32At r.args 2 ∧ u32At r.args 2 ≤ 7125000) →
    let force := byteAt r.args 6 != 0
    let filed (e : QueueEntry) : State :=
      match s.retuneQueue.findIdx? (·.link = l) with
      | some p => State.answer { s with retuneQueue := s.retuneQueue.set p e } r .ok (u8 1 ++ u8 e.held.toNat ++ u8 p)
      | none =>
        if s.retuneQueue.length < 16 then
          State.answer { s with retuneQueue := s.retuneQueue ++ [e] } r .ok (u8 0 ++ u8 e.held.toNat ++ u8 s.retuneQueue.length)
        else s.answer r .queueFull []
    let entry (reason : Reason) : QueueEntry := { link := l, target := t, reason, force, held := s.links[l].live && !force }
    let onCarrier := s.links[l].state = .up ∨ s.links[l].state = .faded ∨ s.links[l].state = .lost
    (r.code = 0x30 → t ≠ .backup → s.links[l].state = .idle → exec .assign s = .next (filed (entry .assign)))
    ∧ (r.code = 0x30 → t ≠ .backup → s.links[l].state ≠ .idle → exec .assign s = .next (s.answer r .badState []))
    ∧ (r.code = 0x30 → t = .backup → exec .assign s = .next (s.answer r .badValue []))
    ∧ (r.code = 0x31 → onCarrier → (t = .backup → s.links[l].standby ≠ none) →
        exec .retune s = .next (filed (entry .operator)))
    ∧ (r.code = 0x31 → ¬ onCarrier → exec .retune s = .next (s.answer r .badState []))
    ∧ (r.code = 0x31 → onCarrier → t = .backup → s.links[l].standby = none → exec .retune s = .next (s.answer r .noBackup []))

/-- ABORT_RETUNE (R89, R117): the link's entry leaves the retune queue in every case. With no context serving the link, or one in CLOSING,
the reply is OK when there was an entry and BAD_STATE when not; with a context past its commit it is TOO_LATE; before the commit the
retune ends CANCELLED, with RETUNE_CANCELLED, and the reply is OK.
A live change (R116): before the commit of its SWITCH pair the retune is given back, and afterwards nothing happens. A retune given back
is settled with ending RETURNED, and its request returns to the tail of the retune queue with RETUNE_HELD, is discarded with
RETUNE_DROPPED when the queue is full, or gives way in silence to an entry of the link (R88).
The settlement before the commit (R109): the new entry is released, or a BACKUP's returns to STANDBY; the link takes its prior state,
giving up its STANDBY in IDLE, and its last retune result is written. The context then closes: each of its slots that is WAITING or QUEUED,
with a cell that has begun no transmission and is of no committed pair, becomes FREE, its cell leaving the queue, its waiting requests
are withdrawn (R14, R17, R103), CANCEL is asked for to each unit whose PRELOAD ended DONE, and the context is FREE once it holds nothing,
with the drain condition tested (R193). Which of the two CANCELs is asked for first is the model's choice (log 30).
RELEASE and UNDEFINE (R83, R84): RELEASE of a link that is on its carrier releases its ACTIVE and then its STANDBY entry and makes the
link IDLE; it is BAD_STATE for UNUSED, BUSY for a link being moved or with a queued entry, OK with nothing done for IDLE, and LIVE for
a live link without FORCE. UNDEFINE makes an IDLE link UNUSED; BAD_STATE in any other state, BUSY with a queued entry. All three are
BAD_INDEX outside 0-79.
That these replies carry no data, and that a cell which BACKOFF abandoned has not begun, are the model's readings (log 12, log 21). -/
def Obligations.AbortReleaseUndefine : Prop :=
  (∀ (s : State) (r : Request), s.Takes r → 80 ≤ u8At r.args 0 →
    (r.code = 0x32 → 1 ≤ r.args.length → exec .abortRetune s = .next (s.answer r .badIndex []))
    ∧ (r.code = 0x34 → 2 ≤ r.args.length → exec .release s = .next (s.answer r .badIndex []))
    ∧ (r.code = 0x35 → 1 ≤ r.args.length → exec .undefine s = .next (s.answer r .badIndex [])))
  ∧ (∀ (s : State) (r : Request) (l : LinkId), s.Takes r → r.code = 0x32 → 1 ≤ r.args.length → u8At r.args 0 = l.val →
    let t : State := { s with retuneQueue := s.retuneQueue.filter fun e => e.link ≠ l }
    ((∀ k : ContextId, s.contexts[k].stage = .free ∨ s.contexts[k].link ≠ l) →
      exec .abortRetune s = .next (t.answer r (if s.queued l then .ok else .badState) []))
    ∧ (∀ k : ContextId, s.serving l = some k →
        (s.contexts[k].stage = .confirm ∨ s.contexts[k].stage = .revert ∨ s.contexts[k].stage = .switch ∧ s.contexts[k].committed = true) →
        exec .abortRetune s = .next (t.answer r .tooLate []))
    ∧ (∀ k : ContextId, s.serving l = some k → s.contexts[k].stage = .closing →
        exec .abortRetune s = .next (t.answer r (if s.queued l then .ok else .badState) []))
    ∧ (∀ (k : ContextId) (stage : RetuneStage), s.serving l = some k →
        (s.contexts[k].stage = .coordinate ∧ stage = .coordinate ∨ s.contexts[k].stage = .prepare ∧ stage = .prepare
          ∨ s.contexts[k].stage = .switch ∧ s.contexts[k].committed = false ∧ stage = .switch) →
        exec .abortRetune s = .next (((((t.settleEarly k .cancelled stage).raise .retuneCancelled (linkByte l)
          (u8 stage.code ++ u8 (conditionCode s.contexts[k].rack) ++ u8 (conditionCode s.contexts[k].portable))).closeEarly k).answer r
            .ok []))))
  ∧ (∀ (s : State) (k : ContextId),
    let c := s.contexts[k]
    (∀ stage : RetuneStage, (c.stage = .coordinate ∧ stage = .coordinate ∨ c.stage = .prepare ∧ stage = .prepare
        ∨ c.stage = .switch ∧ c.committed = false ∧ stage = .switch) →
      let t := s.settleEarly k .returned stage
      let held := t.links[c.link].live = true ∧ c.force = false ∧ ¬ (c.reason = .fade ∧ t.links[c.link].flags.switchWhenLive = true)
      let detail := u8 c.reason.code ++ u8 c.target.code ++ u32 c.target.freq
      let waits := ∃ e ∈ t.retuneQueue, e.link = c.link
      s.liveChange k = s.giveBack k
      ∧ (waits → s.giveBack k = t.closeEarly k)
      ∧ (¬ waits → t.retuneQueue.length < 16 → s.giveBack k =
          (State.raise { t with retuneQueue := t.retuneQueue ++
              [{ link := c.link, target := c.target, reason := c.reason, force := c.force, held := decide held }] }
            .retuneHeld (linkByte c.link) detail).closeEarly k)
      ∧ (¬ waits → 16 ≤ t.retuneQueue.length → s.giveBack k =
          (t.raise .retuneDropped (linkByte c.link) detail).closeEarly k))
    ∧ (c.stage = .free ∨ c.stage = .confirm ∨ c.stage = .revert ∨ c.stage = .closing ∨ c.stage = .switch ∧ c.committed = true →
      s.liveChange k = s))
  ∧ (∀ (s : State) (k : ContextId) (ending : Ending) (stage : RetuneStage),
    let c := s.contexts[k]
    let t := if c.target = .backup then s.changeOpt c.newEntry .standby else s.releaseOpt c.newEntry
    let last : RetuneResult := { ending, reason := c.reason, target := c.target, stage, summary := c.summary, rack := c.rack
                                 portable := c.portable, frame := s.timing.frame }
    (c.prior ≠ .idle → s.settleEarly k ending stage =
      { t with links := put t.links c.link { t.links[c.link] with state := c.prior, last } })
    ∧ (c.prior = .idle →
      let u := State.releaseOpt { t with links := put t.links c.link { t.links[c.link] with state := .idle } } t.links[c.link].standby
      s.settleEarly k ending stage = { u with links := put u.links c.link { u.links[c.link] with last } }))
  ∧ (∀ (s : State) (k : ContextId),
    let c := s.contexts[k]
    let x : Context := { c with stage := .closing, newEntry := none, preloadRack := none, preloadPortable := none }
    let t := State.withdrawContext { s with contexts := put s.contexts k x } k
    let sending (i : SlotId) : Bool := match s.dport.line with
      | .urgent => s.dport.urgent.head?.any fun q => q.slot = i
      | .command => s.dport.command.head?.any fun q => q.slot = i
      | _ => false
    let gone (i : SlotId) : Bool :=
      (s.unit.slots[i].owner == some (.context k .rack) || s.unit.slots[i].owner == some (.context k .portable))
      && (s.unit.slots[i].state == .waiting || s.unit.slots[i].state == .queued) && !s.unit.slots[i].begun && !sending i
      && !s.dport.urgent.any fun q => q.slot = i && q.committed
    let cancel (v : State) (side : Side) (unit : Option Byte) : State := match unit with
      | some u => v.askSlot { owner := .context k side, unit := u, command := [0x03] }
      | none => v
    let u := cancel (cancel t .rack c.preloadRack) .portable c.preloadPortable
    ((u.holdsSlot k = true ∨ c.coordinating = true) → s.closeEarly k = u)
    ∧ (u.holdsSlot k = false → c.coordinating = false → s.closeEarly k = State.testDrain { u with contexts := put s.contexts k {} })
    ∧ (c.preloadRack ≠ none ∨ c.preloadPortable ≠ none → u.holdsSlot k = true)
    ∧ t = { s with
        contexts := put s.contexts k x
        unit := { s.unit with
          waiting := s.unit.waiting.filter fun q => !decide (q.owner = .context k .rack) && !decide (q.owner = .context k .portable)
          slots := Vector.ofFn fun i => if gone i = true then {} else s.unit.slots[i] }
        dport := { s.dport with urgent := s.dport.urgent.filter fun q => !gone q.slot
                                command := s.dport.command.filter fun q => !gone q.slot } })
  ∧ (∀ (s : State) (r : Request) (l : LinkId), s.Takes r → u8At r.args 0 = l.val →
    let st := s.links[l].state
    let waits := ∃ e ∈ s.retuneQueue, e.link = l
    (r.code = 0x34 → 2 ≤ r.args.length →
      (st = .unused → exec .release s = .next (s.answer r .badState []))
      ∧ (st ≠ .unused → (st = .assigning ∨ st = .retuning ∨ waits) → exec .release s = .next (s.answer r .busy []))
      ∧ (st = .idle → ¬ waits → exec .release s = .next (s.answer r .ok []))
      ∧ ((st = .up ∨ st = .faded ∨ st = .lost) → ¬ waits → s.links[l].live = true → byteAt r.args 1 = 0 →
          exec .release s = .next (s.answer r .live []))
      ∧ ((st = .up ∨ st = .faded ∨ st = .lost) → ¬ waits → (s.links[l].live = false ∨ byteAt r.args 1 ≠ 0) →
          exec .release s = .next
            ((((s.releaseOpt s.links[l].active).releaseOpt s.links[l].standby).setLinkState l .idle).answer r .ok [])))
    ∧ (r.code = 0x35 → 1 ≤ r.args.length →
      (st ≠ .idle → exec .undefine s = .next (s.answer r .badState []))
      ∧ (st = .idle → waits → exec .undefine s = .next (s.answer r .busy []))
      ∧ (st = .idle → ¬ waits → exec .undefine s = .next
          (State.answer { s with links := put s.links l { s.links[l] with state := .unused } } r .ok []))))

/-! ### The unit channel (06 sections 6.1 to 6.4) -/

/-- SLOT_GRANT (R94): a FREE slot goes to the oldest waiting request that may use it: the lowest-numbered FREE slot among 0-11, and
for tally among 12-15 first. The slot is WAITING with the request's owner, unit and command, attempt count 0 and no condition. The two
slots of a locked pair name each other once both are allocated (R110).
Asking for a slot (R94): the request joins the allocation queue at its tail. Where no request waiting before it may use a FREE slot, it is
granted such a slot at once if it may use one itself, and else waits; where one may, that one is granted first.
Which of several waiting requests is passed over, and that a request is granted as it is made, is the model's reading (log 19). -/
def Obligations.SlotIsGranted : Prop :=
  ∀ (s : State) (q : SlotRequest),
    let tally (p : SlotRequest) := ∃ l, p.owner = .tally l
    let may (p : SlotRequest) (j : SlotId) := s.unit.slots[j].state = .free ∧ (j.val < 12 ∨ tally p)
    let first (i : SlotId) := s.unit.slots[i].state = .free ∧
      ((¬ tally q ∧ i.val < 12 ∧ ∀ j : SlotId, j < i → s.unit.slots[j].state ≠ .free)
        ∨ (tally q ∧ 12 ≤ i.val ∧ ∀ j : SlotId, 12 ≤ j.val → j < i → s.unit.slots[j].state ≠ .free)
        ∨ (tally q ∧ i.val < 12 ∧ ∀ j : SlotId, (12 ≤ j.val ∨ j < i) → s.unit.slots[j].state ≠ .free))
    let partner (i j : SlotId) := j ≠ i ∧ s.unit.slots[j].pair = true ∧ s.unit.slots[j].state ≠ .free
      ∧ ∃ (k : ContextId) (a b : Side), q.owner = .context k a ∧ s.unit.slots[j].owner = some (.context k b)
    let pairs (i : SlotId) (mate : Option SlotId) := match mate with
      | none => q.pair = false ∨ ∀ j : SlotId, ¬ partner i j
      | some j => q.pair = true ∧ partner i j ∧ ∀ n : SlotId, n < j → ¬ partner i n
    let granted (i : SlotId) (mate : Option SlotId) (waiting : List SlotRequest) : State :=
      let slots := put s.unit.slots i { state := .waiting, owner := some q.owner, unit := q.unit, command := q.command
                                        single := q.single, pair := q.pair, mate, serial := s.unit.serial }
      { s with unit := { s.unit with
        waiting, serial := s.unit.serial + 1
        slots := match mate with
          | none => slots
          | some j => put slots j { s.unit.slots[j] with mate := some i } } }
    (∀ (older younger : List SlotRequest) (i : SlotId) (mate : Option SlotId), s.due = [] →
      s.unit.waiting = older ++ q :: younger → (∀ p ∈ older, ∀ j : SlotId, ¬ may p j) → first i → pairs i mate →
      exec .slotGrant s = .next (granted i mate (older ++ younger)))
    ∧ (s.due = [] → exec .slotGrant s = .next s.grantOne)
    ∧ ((∀ p ∈ s.unit.waiting, ∀ j : SlotId, ¬ may p j) →
      s.grantOne = s
      ∧ ((∀ j : SlotId, ¬ may q j) → s.askSlot q = { s with unit := { s.unit with waiting := s.unit.waiting ++ [q] } })
      ∧ (∀ (i : SlotId) (mate : Option SlotId), first i → pairs i mate → s.askSlot q = granted i mate s.unit.waiting))
    ∧ ((∃ p ∈ s.unit.waiting, ∃ j : SlotId, may p j) → s.askSlot q = s.grantOne.askSlot q)

/-- SLOT_OFFER (R95, R96, R14): a slot of no locked pair is ready when it is WAITING and holds its unit's turn, or may take it: the turn is
free and no WAITING slot of the unit was allocated before it. A ready slot offers its cell when its queue has room and no slot or pair
allocated before it is ready for that queue: it becomes QUEUED with the turn, takes the unit's toggle at its first attempt, and counts
an attempt unless the offer is one of R101. TALLY_SET of the tally processor goes by the urgent queue, any other command by the command
queue. A slot that is not ready, that finds no room, or that would pass one allocated before it, is not offered, and nothing happens.
That the turn is taken at the offer is the model's reading (log 17), and that nothing happens where the offer cannot be, too (log 1). -/
def Obligations.SlotOffersItsCell : Prop :=
  ∀ (s : State) (i : SlotId), s.due = [] →
    let slot (j : SlotId) := s.unit.slots[j]
    let free (u : Byte) := ∀ j : SlotId, (slot j).turn = false ∨ (slot j).unit ≠ u
    let behind (j : SlotId) := ∃ m : SlotId, (slot m).state = .waiting ∧ (slot m).unit = (slot j).unit ∧ (slot m).serial < (slot j).serial
    let ready (j : SlotId) := (slot j).state = .waiting ∧ (slot j).pair = false ∧ ((slot j).turn = true ∨ free (slot j).unit ∧ ¬ behind j)
    let tally (j : SlotId) := ∃ l : LinkId, (slot j).owner = some (.tally l)
    let pairSlot (m : ContextId) (d : Side) (a : SlotId) := (slot a).pair = true ∧ (slot a).owner = some (.context m d)
      ∧ ∀ a' : SlotId, a' < a → ¬ ((slot a').pair = true ∧ (slot a').owner = some (.context m d))
    let pairReady (m : ContextId) (a b : SlotId) := pairSlot m .rack a ∧ pairSlot m .portable b ∧ (slot a).state = .waiting
      ∧ (slot b).state = .waiting ∧ free (slot a).unit ∧ free (slot b).unit ∧ ¬ behind a ∧ ¬ behind b
    let passed (n : Nat) := (∃ j : SlotId, ready j ∧ tally j ∧ (slot j).serial < n)
      ∨ ∃ (m : ContextId) (a b : SlotId), pairReady m a b ∧ max (slot a).serial (slot b).serial < n
    let passedCommand (n : Nat) := ∃ j : SlotId, ready j ∧ ¬ tally j ∧ (slot j).serial < n
    let x := slot i
    let toggle := if x.attempts = 0 then s.unit.toggles[x.unit.toNat] else x.toggle
    let offered : Slot := { x with state := .queued, turn := true, toggle, uncounted := false
                                   attempts := if x.uncounted then x.attempts else x.attempts + 1 }
    let entry : UnitCell := { cell := makeCell 5 x.unit 0 toggle x.command, slot := i }
    let unit := { s.unit with slots := put s.unit.slots i offered }
    (ready i → tally i → ¬ passed x.serial → s.dport.urgent.length < 8 →
      exec (.slotOffer i) s = .next { s with unit, dport := { s.dport with urgent := s.dport.urgent ++ [entry] } })
    ∧ (tally i → (passed x.serial ∨ 8 ≤ s.dport.urgent.length) → exec (.slotOffer i) s = .next s)
    ∧ (ready i → ¬ tally i → ¬ passedCommand x.serial → s.dport.command.length < 16 →
      exec (.slotOffer i) s = .next { s with unit, dport := { s.dport with command := s.dport.command ++ [entry] } })
    ∧ (¬ tally i → (passedCommand x.serial ∨ 16 ≤ s.dport.command.length) → exec (.slotOffer i) s = .next s)
    ∧ (¬ ready i → exec (.slotOffer i) s = .next s)

/-- PAIR_SUBMIT (R16, R95, R110, R115): with both slots of the pair allocated and WAITING, both units' turns free, no WAITING slot of either
unit allocated before, two places free in the urgent queue, and no slot or pair ready for that queue that was allocated before the later
of its slots, the pair joins it as two consecutive entries, the rack unit's cell first, and takes both turns. Otherwise it waits, and
nothing happens.
That nothing happens then is the model's reading of a row whose event cannot be (log 1). -/
def Obligations.PairIsSubmitted : Prop :=
  ∀ (s : State) (k : ContextId), s.due = [] →
    let slot (j : SlotId) := s.unit.slots[j]
    let free (u : Byte) := ∀ j : SlotId, (slot j).turn = false ∨ (slot j).unit ≠ u
    let behind (j : SlotId) := ∃ m : SlotId, (slot m).state = .waiting ∧ (slot m).unit = (slot j).unit ∧ (slot m).serial < (slot j).serial
    let ready (j : SlotId) := (slot j).state = .waiting ∧ (slot j).pair = false ∧ ((slot j).turn = true ∨ free (slot j).unit ∧ ¬ behind j)
    let tally (j : SlotId) := ∃ l : LinkId, (slot j).owner = some (.tally l)
    let pairSlot (m : ContextId) (d : Side) (a : SlotId) := (slot a).pair = true ∧ (slot a).owner = some (.context m d)
      ∧ ∀ a' : SlotId, a' < a → ¬ ((slot a').pair = true ∧ (slot a').owner = some (.context m d))
    let pairReady (m : ContextId) (a b : SlotId) := pairSlot m .rack a ∧ pairSlot m .portable b ∧ (slot a).state = .waiting
      ∧ (slot b).state = .waiting ∧ free (slot a).unit ∧ free (slot b).unit ∧ ¬ behind a ∧ ¬ behind b
    let passed (n : Nat) := (∃ j : SlotId, ready j ∧ tally j ∧ (slot j).serial < n)
      ∨ ∃ (m : ContextId) (a b : SlotId), pairReady m a b ∧ max (slot a).serial (slot b).serial < n
    (∀ i j : SlotId, pairSlot k .rack i → pairSlot k .portable j →
      let offered (x : Slot) : Slot :=
        { x with state := .queued, turn := true, uncounted := false
                 toggle := if x.attempts = 0 then s.unit.toggles[x.unit.toNat] else x.toggle
                 attempts := if x.uncounted then x.attempts else x.attempts + 1 }
      let a := offered (slot i)
      let b := offered (slot j)
      let serial := max (slot i).serial (slot j).serial
      (pairReady k i j → ¬ passed serial → s.dport.urgent.length + 2 ≤ 8 → exec (.pairSubmit k) s = .next { s with
        unit := { s.unit with slots := put (put s.unit.slots i a) j b }
        dport := { s.dport with urgent := s.dport.urgent ++
          [{ cell := makeCell 5 a.unit 0 a.toggle a.command, slot := i, context := some k },
           { cell := makeCell 5 b.unit 0 b.toggle b.command, slot := j, context := some k }] } })
      ∧ ((¬ pairReady k i j ∨ passed serial ∨ 8 < s.dport.urgent.length + 2) → exec (.pairSubmit k) s = .next s))
    ∧ ((∀ i j : SlotId, ¬ (pairSlot k .rack i ∧ pairSlot k .portable j)) → exec (.pairSubmit k) s = .next s)

/-- ANSWER_CELL to the SENT slot of its source, other than START (R96, R98, R100, R103): a wrong echoed code is STRAY_ANSWER; a wrong
length ends the slot LENGTH_ERROR; a wrong toggle, and a condition that is not DONE, REFUSED or START, is a retryable error; DONE
flips the unit's toggle and ends the slot, and REFUSED ends it. With no SENT slot of that source it is STRAY_ANSWER.
ANSWER_CELL with condition START (R101): from a source that is no unit it is STRAY_ANSWER. Otherwise the unit's toggle becomes 0,
UNIT_START is raised, the slot that holds the unit's turn is treated by its state, and the tally processor hears of the START: with no
such slot nothing else happens; one WAITING for a re-send takes toggle 0; a QUEUED cell not in transmission is rewritten with toggle 0;
one in transmission will be offered again; a SENT slot becomes WAITING with toggle 0, and a SENT single attempt ends RETRY_ERROR; a cell of
a committed locked pair is left as it is. That the slot is treated before the tally processor hears is the model's choice (log 39).
A cell too short for its code or condition does not hold it, by the model's reading (log 13), and UNIT_START's detail for a slot that waits
for a re-send or is in transmission is its reading too (log 16). -/
def Obligations.AnswerIsJudged : Prop :=
  (∀ (s : State) (c : Cell), s.due = [] → s.pins.reset = false → integral c = true → c.kind = 6 → c.dest = 0 → 2 ≤ c.len.toNat →
    byteAt (cellData c) 1 ≠ 3 →
    let stray := s.raise .strayAnswer 1 [c.src, 6]
    let answer := exec (.answerCell c) s
    (s.sentSlot c.src = none → answer = .next stray)
    ∧ (∀ i : SlotId, s.sentSlot c.src = some i →
      let x := s.unit.slots[i]
      let echoed := byteAt (cellData c) 0 = byteAt x.command 0
      let expected := (∃ id, x.owner = some (.relay id)) ∨ c.len.toNat = 2
      (¬ echoed → answer = .next stray)
      ∧ (echoed → ¬ expected → answer = .next (s.endSlot i .lengthError []))
      ∧ (echoed → expected → c.toggle ≠ x.toggle → answer = .next (s.retrySlot i))
      ∧ (echoed → expected → c.toggle = x.toggle → byteAt (cellData c) 1 = 1 → answer = .next
          (State.endSlot { s with unit := { s.unit with toggles := s.unit.toggles.set x.unit.toNat (!s.unit.toggles[x.unit.toNat]) } }
            i .done ((cellData c).drop 2)))
      ∧ (echoed → expected → c.toggle = x.toggle → byteAt (cellData c) 1 = 2 → answer = .next (s.endSlot i .refused ((cellData c).drop 2)))
      ∧ (echoed → expected → c.toggle = x.toggle → byteAt (cellData c) 1 ≠ 1 → byteAt (cellData c) 1 ≠ 2 →
          answer = .next (s.retrySlot i))))
  ∧ (∀ (s : State) (c : Cell), s.due = [] → s.pins.reset = false → integral c = true → c.kind = 6 → c.dest = 0 → 2 ≤ c.len.toNat →
    byteAt (cellData c) 1 = 3 →
    let u := c.src
    let answer := exec (.answerCell c) s
    let restarted (detail : Nat) : State :=
      State.raise { s with unit := { s.unit with toggles := s.unit.toggles.set u.toNat false } } .unitStart u (u8 detail)
    let slotWith (detail : Nat) (i : SlotId) (x : Slot) : State :=
      let t := restarted detail
      { t with unit := { t.unit with slots := put t.unit.slots i x } }
    (isUnit u = false → answer = .next (s.raise .strayAnswer 1 [u, 6]))
    ∧ (isUnit u = true → (∀ i : SlotId, s.unit.slots[i].turn = false ∨ s.unit.slots[i].unit ≠ u) →
        answer = .next ((restarted 0).tallyUnitStart u))
    ∧ (∀ i : SlotId, isUnit u = true → s.unit.slots[i].turn = true → s.unit.slots[i].unit = u →
        (∀ j : SlotId, j < i → s.unit.slots[j].turn = false ∨ s.unit.slots[j].unit ≠ u) →
      let x := s.unit.slots[i]
      let x0 : Slot := { x with toggle := false }
      let committed := ∃ q ∈ s.dport.urgent, q.slot = i ∧ q.committed = true
      let sending := s.dport.line = .urgent ∧ (∃ q ∈ s.dport.urgent.head?, q.slot = i)
        ∨ s.dport.line = .command ∧ (∃ q ∈ s.dport.command.head?, q.slot = i)
      let scans := ∃ rc : Receiver, x.owner = some (.scan rc) ∧ x.discard = false
      let rewritten (q : UnitCell) : UnitCell := if q.slot = i then { q with cell := makeCell 5 x.unit 0 false x.command } else q
      (x.state = .waiting → answer = .next ((slotWith 0 i x0).tallyUnitStart u))
      ∧ (x.state = .queued → committed → answer = .next ((restarted 0).tallyUnitStart u))
      ∧ (x.state = .queued → ¬ committed → sending → answer = .next ((slotWith 1 i { x0 with again := true }).tallyUnitStart u))
      ∧ (x.state = .queued → ¬ committed → ¬ sending → answer = .next (State.tallyUnitStart { slotWith 1 i x0 with
          dport := { s.dport with urgent := s.dport.urgent.map rewritten, command := s.dport.command.map rewritten } } u))
      ∧ (x.state = .sent → x.single = true → answer = .next (((restarted 2).endSlot i .retryError []).tallyUnitStart u))
      ∧ (x.state = .sent → x.single = false → ¬ scans → answer = .next
          ((slotWith 1 i { x0 with state := .waiting, deadline := none, uncounted := true }).tallyUnitStart u))
      ∧ (∀ rc : Receiver, x.state = .sent → x.single = false → x.owner = some (.scan rc) → x.discard = false → answer = .next
          (((slotWith 1 i { x0 with state := .waiting, deadline := none, uncounted := true }).setSweeper rc
            { s.sweeper rc with results := [] }).tallyUnitStart u))))

/-- The end of a relay's slot (R103, R104): the slot is FREE, and its UNIT COMMAND is answered OK with the condition and, after DONE or
REFUSED, the answer's data; then the drain condition is tested. In QUIESCING, with every context FREE, no scan running and no relay's
slot allocated, that test makes the state QUIESCED with its notice; otherwise it changes nothing (R193). The end of a scan's slot whose
discard mark is set is handed to nobody (R145).
A retryable error at the third attempt or of a single attempt ends the slot RETRY_ERROR; any earlier one leaves it WAITING with its turn
and toggle, to offer its cell again (R100), and the points that a scan's slot has brought are set aside where its discard mark is clear
(R102, R145).
ANSWER_DEADLINE (R99): a SENT slot whose deadline is the frame number takes a retryable error.
That the slot is FREE before its owner acts is the model's reading (log 18), and the deadline row its choice (log 4). -/
def Obligations.SlotEndsOrRetries : Prop :=
  (∀ (s : State) (i : SlotId),
    let x := s.unit.slots[i]
    let freed : State := { s with unit := { s.unit with slots := put s.unit.slots i {} } }
    (∀ (id : Nat) (cond : Condition) (data : List Byte), x.owner = some (.relay id) →
      s.endSlot i cond data = (freed.answerId id .ok
        (u8 cond.code ++ if cond = .done ∨ cond = .refused then data else [])).testDrain)
    ∧ (∀ (rc : Receiver) (cond : Condition) (data : List Byte), x.owner = some (.scan rc) → x.discard = true →
      s.endSlot i cond data = freed)
    ∧ (∀ (cond : Condition) (data : List Byte), x.owner = none → s.endSlot i cond data = freed)
    ∧ ((x.single = true ∨ 3 ≤ x.attempts) → s.retrySlot i = s.endSlot i .retryError [])
    ∧ (x.single = false → x.attempts < 3 →
      let waits : State := { s with unit := { s.unit with slots := put s.unit.slots i { x with state := .waiting, deadline := none } } }
      (((∀ rc, x.owner ≠ some (.scan rc)) ∨ x.discard = true) → s.retrySlot i = waits)
      ∧ (∀ rc : Receiver, x.owner = some (.scan rc) → x.discard = false → s.retrySlot i =
          waits.setSweeper rc { s.sweeper rc with results := [] })))
  ∧ (∀ s : State,
    let drained := (∀ k : ContextId, s.contexts[k].stage = .free) ∧ s.scan.state ≠ .scanning ∧
      ∀ (i : SlotId) (id : Nat), s.unit.slots[i].owner ≠ some (.relay id)
    (s.agent.quiesce = .quiescing → drained → s.testDrain =
      State.raise { s with agent := { s.agent with quiesce := .quiesced } } .quiesced 0 [])
    ∧ ((s.agent.quiesce ≠ .quiescing ∨ ¬ drained) → s.testDrain = s))
  ∧ (∀ (s : State) (older younger : List Request) (r : Request) (res : Result) (data : List Byte),
    s.agent.requests = older ++ r :: younger → (∀ q ∈ older, q.id ≠ r.id) → s.answerId r.id res data = s.answer r res data)
  ∧ (∀ (s : State) (i : SlotId), .answerDeadline i ∈ s.due → s.unit.slots[i].state = .sent →
    s.unit.slots[i].deadline = some s.timing.frame →
    exec (.answerDeadline i) s = .next (State.retrySlot { s with due := s.due.erase (.answerDeadline i) } i))

/-- SWEEP_CELL (R102, R145): for the SENT slot of its source that carries SWEEP_SEGMENT for the scan engine, with the right toggle, the
points of the receiver's current segment are taken in order and the deadline is set again, one segment timeout from now; the last
flag flips the unit's toggle and ends the slot DONE. For a relay's slot, for one whose discard mark is set, and of another segment, the
points are discarded and the rest is the same. A wrong toggle is a retryable error. With no SENT slot of the source, or one that carries
another command, it is STRAY_ANSWER.
A point (R145) above the segment's stop, below the threshold or within a counted carrier's range is discarded; one within the merge width
of a detection raises the level of the nearest one, the lower in frequency on a tie; any other joins a list of fewer than 32 detections,
or replaces the lowest level of a full one, the lower in frequency on a tie, when its own is higher.
A detection (R146) within a counted carrier's range is discarded; one within the merge width of a foreign entry updates the nearest;
any other is inserted at its place, with the generation raised and FOREIGN_NEW, in a full list only in place of the lowest peak below its
level, which goes with FOREIGN_GONE.
The foreign-conflict rule (R149) takes the counted carriers nearer than b/2 + G_F in ascending index: a STANDBY is released with
BACKUP_LOST and a new backup filed; an ACTIVE one becomes SUSPECT with FOREIGN_ON_CARRIER and may be retuned; a RESERVED or RETIRING one
is reported; at an update the SUSPECT, RESERVED and RETIRING ones are passed over.
That a level above 0 dBm is kept as it stands is the model's choice (log 37). -/
def Obligations.SweepCellIsTaken : Prop :=
  (∀ (s : State) (c : Cell) (n : Nat), s.due = [] → s.pins.reset = false → integral c = true → c.kind = 7 → c.dest = 0 →
    n = u8At (cellData c) 1 → n ≤ 14 → c.len.toNat = 2 + 3 * n →
    let stray := s.raise .strayAnswer 1 [c.src, 7]
    (s.sentSlot c.src = none ↔ ∀ i : SlotId, s.unit.slots[i].state ≠ .sent ∨ s.unit.slots[i].unit ≠ c.src)
    ∧ (s.sentSlot c.src = none → exec (.sweepCell c) s = .next stray)
    ∧ (∀ i : SlotId, s.sentSlot c.src = some i →
      let x := s.unit.slots[i]
      (x.state = .sent ∧ x.unit = c.src)
      ∧ (byteAt x.command 0 ≠ 0x06 → exec (.sweepCell c) s = .next stray)
      ∧ (byteAt x.command 0 = 0x06 → c.toggle ≠ x.toggle → exec (.sweepCell c) s = .next (s.retrySlot i))
      ∧ (byteAt x.command 0 = 0x06 → c.toggle = x.toggle →
        (∀ (rc : Receiver) (g : Fin 16), x.owner = some (.scan rc) → x.discard = false → (s.sweeper rc).current = some g →
          u8At (cellData c) 0 ≠ g.val) →
        let waits := s.setSlot i { x with deadline := some (s.timing.frame + BitVec.ofNat 16 s.scan.settings.segmentTimeout) }
        (c.last = false → exec (.sweepCell c) s = .next waits)
        ∧ (c.last = true → exec (.sweepCell c) s = .next ((waits.flipToggle x.unit).endSlot i .done []))))
    ∧ (∀ (i : SlotId) (rc : Receiver) (g : Fin 16), s.sentSlot c.src = some i → byteAt s.unit.slots[i].command 0 = 0x06 →
      c.toggle = s.unit.slots[i].toggle → s.unit.slots[i].owner = some (.scan rc) → s.unit.slots[i].discard = false →
      (s.sweeper rc).current = some g → u8At (cellData c) 0 = g.val →
      let points := (List.range n).foldl (fun u j => State.takePoint u rc u.scan.segments[g] (u16At (cellData c) (2 + 3 * j))
        (s8At (cellData c) (4 + 3 * j))) s
      let taken := points.setSlot i { s.unit.slots[i] with
        deadline := some (s.timing.frame + BitVec.ofNat 16 s.scan.settings.segmentTimeout) }
      (c.last = false → exec (.sweepCell c) s = .next taken)
      ∧ (c.last = true → exec (.sweepCell c) s = .next ((taken.flipToggle s.unit.slots[i].unit).endSlot i .done []))))
  ∧ (∀ (s : State) (rc : Receiver) (g : Segment) (n : Nat) (level : Int),
    let f := g.start + n * g.step
    let x := s.sweeper rc
    let within (d : Detection) := apart f d.freq ≤ s.scan.settings.mergeWidth
    let kept (ds : List Detection) : State := s.setSweeper rc { x with results := ds }
    let taken := s.takePoint rc g n level
    let ours := ∃ e : EntryId, s.plan.carriers[e].state ≠ .free ∧ apart f s.plan.carriers[e].freq ≤ s.plan.carriers[e].cls.bandwidth / 2
    (g.stop < f ∨ level = -128 ∨ level < s.scan.settings.threshold ∨ ours → taken = s)
    ∧ (f ≤ g.stop → level ≠ -128 → s.scan.settings.threshold ≤ level → ¬ ours →
      (∀ (before after : List Detection) (d : Detection), x.results = before ++ d :: after → within d →
        (∀ b ∈ before, within b → apart f d.freq < apart f b.freq ∨ apart f d.freq = apart f b.freq ∧ d.freq < b.freq) →
        (∀ a ∈ after, within a → apart f d.freq < apart f a.freq ∨ apart f d.freq = apart f a.freq ∧ d.freq ≤ a.freq) →
        taken = kept (before ++ { d with level := max d.level level } :: after))
      ∧ ((∀ d ∈ x.results, ¬ within d) → x.results.length < 32 → taken = kept (x.results ++ [{ freq := f, level }]))
      ∧ (∀ (before after : List Detection) (d : Detection), (∀ d ∈ x.results, ¬ within d) → 32 ≤ x.results.length →
        x.results = before ++ d :: after →
        (∀ b ∈ before, d.level < b.level ∨ d.level = b.level ∧ d.freq < b.freq) →
        (∀ a ∈ after, d.level < a.level ∨ d.level = a.level ∧ d.freq ≤ a.freq) →
        taken = kept (if d.level < level then before ++ { freq := f, level } :: after else x.results))))
  ∧ (∀ (s : State) (d : Detection),
    let within (x : Foreign) := apart d.freq x.freq ≤ s.scan.settings.mergeWidth
    let ours := ∃ e : EntryId, s.plan.carriers[e].state ≠ .free
      ∧ apart d.freq s.plan.carriers[e].freq ≤ s.plan.carriers[e].cls.bandwidth / 2
    let applied := s.applyDetection d
    let new : Foreign := { freq := d.freq, peak := d.level, lastSeen := s.scan.number, misses := 0 }
    let inserted (u : State) (below above : List Foreign) : State :=
      (State.raise { u with
          scan := { u.scan with foreign := below ++ new :: above, inserted := u.scan.inserted + 1 }
          plan := { u.plan with gen := u.plan.gen + 1 } }
        .foreignNew (BitVec.ofNat 8 below.length) (u32 d.freq ++ s8 d.level ++ half s.scan.number)).foreignConflict new false
    (ours → applied = s)
    ∧ (∀ (before after : List Foreign) (x : Foreign), ¬ ours → s.scan.foreign = before ++ x :: after → within x →
        (∀ b ∈ before, within b → apart d.freq x.freq < apart d.freq b.freq ∨ apart d.freq x.freq = apart d.freq b.freq ∧ x.freq < b.freq) →
        (∀ a ∈ after, within a → apart d.freq x.freq < apart d.freq a.freq ∨ apart d.freq x.freq = apart d.freq a.freq ∧ x.freq ≤ a.freq) →
        let y : Foreign := { x with peak := max x.peak d.level, misses := 0, lastSeen := s.scan.number }
        applied = State.foreignConflict { s with scan := { s.scan with foreign := before ++ y :: after } } y true)
    ∧ (∀ below above : List Foreign, ¬ ours → (∀ x ∈ s.scan.foreign, ¬ within x) → s.scan.foreign.length < 32 →
        s.scan.foreign = below ++ above → (∀ x ∈ below, x.freq < d.freq) → (∀ x ∈ above, d.freq ≤ x.freq) →
        applied = inserted s below above)
    ∧ (∀ (before after below above : List Foreign) (x : Foreign), ¬ ours → (∀ x ∈ s.scan.foreign, ¬ within x) → 32 ≤ s.scan.foreign.length →
        s.scan.foreign = before ++ x :: after →
        (∀ b ∈ before, x.peak < b.peak ∨ x.peak = b.peak ∧ x.freq < b.freq) →
        (∀ a ∈ after, x.peak < a.peak ∨ x.peak = a.peak ∧ x.freq ≤ a.freq) →
        before ++ after = below ++ above → (∀ x ∈ below, x.freq < d.freq) → (∀ x ∈ above, d.freq ≤ x.freq) →
        (d.level ≤ x.peak → applied = s)
        ∧ (x.peak < d.level → applied = inserted (State.raise { s with
              scan := { s.scan with foreign := before ++ after, removed := s.scan.removed + 1 }
              plan := { s.plan with gen := s.plan.gen + 1 } }
            .foreignGone (BitVec.ofNat 8 before.length) (u32 x.freq ++ s8 x.peak ++ u8 2 ++ half x.lastSeen)) below above)))
  ∧ (∀ (s : State) (x : Foreign) (update : Bool),
    let near (e : EntryId) := s.plan.carriers[e].state ≠ .free
      ∧ apart x.freq s.plan.carriers[e].freq < s.plan.carriers[e].cls.bandwidth / 2 + s.plan.settings.gF
    (∃ es : List EntryId, s.foreignConflict x update = es.foldl (fun u e => u.conflictWith x update e) s
      ∧ es.Pairwise (· < ·) ∧ ∀ e : EntryId, e ∈ es ↔ near e)
    ∧ (∀ (e : EntryId) (l : LinkId), s.plan.carriers[e].link = some l →
      let c := s.plan.carriers[e]
      let flags := s.links[l].flags
      let told (t : State) : State :=
        t.raise .foreignOnCarrier (linkByte l) (u8 e.val ++ u8 c.state.code ++ u32 x.freq ++ s8 x.peak)
      let suspected : State := { s with plan := { s.plan with carriers := put s.plan.carriers e { c with suspect := true } } }
      let lost := (s.releaseEntry e).raise .backupLost (linkByte l) (u8 e.val ++ u8 1 ++ u8 0)
      let picked : State := { lost with engine := { s.engine with queue := s.engine.queue ++
        [{ kind := .pickBackup, filer := .auto, link := some l, target := .nextCandidate, cls := s.links[l].cls }] } }
      let waits := ∃ q ∈ s.engine.queue, q.kind = .pickBackup ∧ q.link = some l
      let place := s.engine.queue.length < 8 ∧ (s.engine.queue.filter fun q => match q.filer with
          | .context _ => false
          | _ => true).length < 4
      (c.state = .standby → (flags.autoBackup = false ∨ waits ∨ ¬ place) → s.conflictWith x update e = lost)
      ∧ (c.state = .standby → flags.autoBackup = true → ¬ waits → place → s.conflictWith x update e = picked)
      ∧ (c.state = .active → update = true → c.suspect = true → s.conflictWith x update e = s)
      ∧ (c.state = .active → (update = false ∨ c.suspect = false) → flags.autoAvoid = false →
          s.conflictWith x update e = told suspected)
      ∧ (c.state = .active → (update = false ∨ c.suspect = false) → flags.autoAvoid = true →
          s.conflictWith x update e = ((told suspected).autoFile l .nextCandidate .foreign).1)
      ∧ ((c.state = .reserved ∨ c.state = .retiring) → s.conflictWith x update e = if update then s else told s)
      ∧ ((c.state = .blocked ∨ c.state = .free) → s.conflictWith x update e = s)))

/-- UNIT_COMMAND (R104): with nobody waiting for a slot, a command to a unit address while the part is RUNNING, and no frequency command to a
managed unit, takes the lowest-numbered FREE slot among 0-11 with the command bytes, at most 45 of them, and waits for the slot's
end; BAD_VALUE for an address that is no unit's, NO_SLOT while quiescing or without a FREE slot, GUARDED for a guarded one.
That slots go to waiting requests first is the model's reading (log 19). -/
def Obligations.UnitCommandIsRelayed : Prop :=
  ∀ (s : State) (r : Request), s.Takes r → r.code = 0x50 → 2 ≤ r.args.length → s.unit.waiting = [] →
    let u := byteAt r.args 0
    let code := byteAt r.args 1
    let guarded := (code = 0x01 ∨ code = 0x02 ∨ code = 0x04 ∨ code = 0x40) ∧
      ∃ l : LinkId, s.links[l].state ≠ .unused ∧ (s.links[l].portable = u ∨ s.links[l].rack = u)
    (isUnit u = false → exec .unitCommand s = .next (s.answer r .badValue []))
    ∧ (isUnit u = true → s.agent.quiesce ≠ .running → exec .unitCommand s = .next (s.answer r .noSlot []))
    ∧ (isUnit u = true → s.agent.quiesce = .running → guarded → exec .unitCommand s = .next (s.answer r .guarded []))
    ∧ (isUnit u = true → s.agent.quiesce = .running → ¬ guarded → (∀ j : SlotId, j.val < 12 → s.unit.slots[j].state ≠ .free) →
        exec .unitCommand s = .next (s.answer r .noSlot []))
    ∧ (∀ i : SlotId, isUnit u = true → s.agent.quiesce = .running → ¬ guarded → i.val < 12 → s.unit.slots[i].state = .free →
        (∀ j : SlotId, j < i → s.unit.slots[j].state ≠ .free) →
        exec .unitCommand s = .next (State.defer { s with unit := { s.unit with
          slots := put s.unit.slots i { state := .waiting, owner := some (.relay r.id), unit := u, command := (r.args.drop 1).take 45
                                        single := code == 0x02 || code == 0x04, serial := s.unit.serial }
          serial := s.unit.serial + 1 } } r))

/-! ### The retune contexts (06 sections 6.5 to 6.10) -/

/-- CONTEXT_TAKE (R90, R106, R107): while the part is RUNNING the lowest-numbered free context takes the oldest entry that is neither held
nor of a served link. An entry that is to be coordinated leaves the queue, its link becomes ASSIGNING from IDLE and RETUNING from any
other state, and an ADMIT request is filed; with target BACKUP the link's STANDBY entry becomes RESERVED and the new entry, and the
context starts in PREPARE. With no free context, no such entry, or the part quiescing, nothing is taken.
The outcome of the ADMIT request (R107, R109): in COORDINATE a PASS makes the admitted entry the new entry and the stage PREPARE, and any
other ending ends the retune FAILED with the summary; in CLOSING an admitted entry is released at once.
PREPARE (R108): PRELOAD with the new entry's frequency and class is asked for, for the rack unit and then for the portable unit. When
both have ended DONE the stage is SWITCH, and the two slots of its locked pair are asked for (R110); when either ends otherwise the
retune ends FAILED with PREPARE_FAILED. A PRELOAD that ends DONE in CLOSING is followed by CANCEL to the unit it was sent to (R109).
CLOSING (R109): at the end of any other slot, and of its coordination request, the context is FREE once it holds no slot, waits for none and
has no coordination request, and the drain condition is tested (R193); until then it stays CLOSING. A slot that ends in SWITCH, in
CONFIRM or in REVERT once its REVERT pair is asked for records its condition, and nothing else happens (R111 to R115).
That the ended slot is FREE before the context asks for its next one is the model's reading (log 18). -/
def Obligations.ContextTakesOldestEntry : Prop :=
  (∀ (s : State), s.due = [] →
    (s.agent.quiesce ≠ .running → exec .contextTake s = .next s)
    ∧ ((∀ k : ContextId, s.contexts[k].stage ≠ .free) → exec .contextTake s = .next s)
    ∧ ((∀ e ∈ s.retuneQueue, e.held = true ∨ (s.serving e.link).isSome) → exec .contextTake s = .next s)
    ∧ (∀ (k : ContextId) (older younger : List QueueEntry) (e : QueueEntry), s.agent.quiesce = .running →
        s.contexts[k].stage = .free → (∀ j : ContextId, j < k → s.contexts[j].stage ≠ .free) →
        s.retuneQueue = older ++ e :: younger → (∀ o ∈ older, o ≠ e ∧ (o.held = true ∨ (s.serving o.link).isSome)) →
        e.held = false → s.serving e.link = none →
        let moving : LinkState := if s.links[e.link].state = .idle then .assigning else .retuning
        let taken (st : Stage) (target : Target) : Context :=
          { stage := st, link := e.link, target, reason := e.reason, force := e.force
            prior := s.links[e.link].state, oldEntry := s.links[e.link].active }
        ((e.target = .backup → s.links[e.link].standby = none) →
          let target := if e.target = .backup then .nextCandidate else e.target
          exec .contextTake s = .next { s with
            retuneQueue := older ++ younger
            contexts := put s.contexts k { taken .coordinate target with coordinating := true }
            links := put s.links e.link { s.links[e.link] with state := moving }
            engine := { s.engine with queue := s.engine.queue ++
              [{ kind := .admitCarrier, filer := .context k, link := some e.link, target, cls := s.links[e.link].cls }] } })
        ∧ (∀ b : EntryId, e.target = .backup → s.links[e.link].standby = some b → s.links[e.link].active ≠ some b →
            s.plan.carriers[b].link = some e.link →
            let c := s.plan.carriers[b]
            let t : State := { s with
              retuneQueue := older ++ younger
              contexts := put s.contexts k { taken .prepare .backup with newEntry := some b, newFreq := c.freq }
              links := put s.links e.link { s.links[e.link] with state := moving, standby := none }
              plan := { s.plan with carriers := put s.plan.carriers b { c with state := .reserved } } }
            let ask (u : State) (side : Side) (unit : Byte) : State :=
              u.askSlot { owner := .context k side, unit, command := [0x01] ++ u32 c.freq ++ u8 c.cls.code }
            exec .contextTake s = .next (ask (ask t .rack s.links[e.link].rack) .portable s.links[e.link].portable))))
  ∧ (∀ (s : State) (k : ContextId) (res : Result) (entry : Option EntryId) (m : CoordSummary),
    let c := s.contexts[k]
    let l := c.link
    let t (c : Context) : State := { s with contexts := put s.contexts k c }
    (∀ e : EntryId, c.stage = .coordinate → res = .pass → entry = some e →
      let x := s.plan.carriers[e]
      let ask (u : State) (side : Side) (unit : Byte) : State :=
        u.askSlot { owner := .context k side, unit, command := [0x01] ++ u32 x.freq ++ u8 x.cls.code }
      s.coordEnded k res entry m = ask (ask (t { c with
        coordinating := false, summary := some m, stage := .prepare, newEntry := some e, newFreq := x.freq }) .rack s.links[l].rack)
          .portable s.links[l].portable)
    ∧ (c.stage = .coordinate → res ≠ .pass →
      s.coordEnded k res entry m = (((t { c with coordinating := false, summary := some m }).settleEarly k .failed .coordinate).raise
        .retuneFailed (linkByte l) ([m.result] ++ u8 m.stage ++ u32 m.checked ++ half m.gen)).closeEarly k)
    ∧ (c.stage = .closing → s.holdsSlot k = true →
      s.coordEnded k res entry m = (t { c with coordinating := false }).releaseOpt entry)
    ∧ (c.stage = .closing → s.holdsSlot k = false → s.coordEnded k res entry m =
      State.testDrain { (t { c with coordinating := false }).releaseOpt entry with contexts := put s.contexts k {} }))
  ∧ (∀ (s : State) (i : SlotId) (k : ContextId) (side : Side) (cond : Condition) (data : List Byte),
    s.unit.slots[i].owner = some (.context k side) → byteAt s.unit.slots[i].command 0 = 0x01 →
    let c : Context := match side with
      | .rack => { s.contexts[k] with rack := some cond }
      | .portable => { s.contexts[k] with portable := some cond }
    let answered : Context := match side with
      | .rack => { c with preloadRack := some s.unit.slots[i].unit }
      | .portable => { c with preloadPortable := some s.unit.slots[i].unit }
    let t (c : Context) : State := { s with
      unit := { s.unit with slots := put s.unit.slots i {} }, contexts := put s.contexts k c }
    (c.stage = .prepare → cond = .done → (answered.preloadRack = none ∨ answered.preloadPortable = none) →
      s.endSlot i cond data = t answered)
    ∧ (c.stage = .prepare → cond = .done → answered.preloadRack ≠ none → answered.preloadPortable ≠ none →
      let ask (u : State) (side : Side) (unit : Byte) : State :=
        u.askSlot { owner := .context k side, unit, command := [0x02, 0, 0], single := true, pair := true }
      s.endSlot i cond data = ask (ask (t { answered with stage := .switch, completions := 0 }) .rack s.links[c.link].rack)
        .portable s.links[c.link].portable)
    ∧ (c.stage = .prepare → cond ≠ .done →
      s.endSlot i cond data = (((t c).settleEarly k .failed .prepare).raise .retuneFailed (linkByte c.link)
        (u8 2 ++ u8 1 ++ u8 (conditionCode c.rack) ++ u8 (conditionCode c.portable) ++ u8 c.cause.code)).closeEarly k)
    ∧ (c.stage = .closing → cond = .done →
      s.endSlot i cond data = (t c).askSlot { owner := .context k side, unit := s.unit.slots[i].unit, command := [0x03] }))
  ∧ (∀ (s : State) (i : SlotId) (k : ContextId) (side : Side) (cond : Condition) (data : List Byte),
    s.unit.slots[i].owner = some (.context k side) →
    let c : Context := match side with
      | .rack => { s.contexts[k] with rack := some cond }
      | .portable => { s.contexts[k] with portable := some cond }
    let t (c : Context) : State := { s with
      unit := { s.unit with slots := put s.unit.slots i {} }, contexts := put s.contexts k c }
    let others := (∃ (j : SlotId) (d : Side), j ≠ i ∧ s.unit.slots[j].owner = some (.context k d))
      ∨ ∃ q ∈ s.unit.waiting, ∃ d : Side, q.owner = .context k d
    (c.stage = .closing → (byteAt s.unit.slots[i].command 0 ≠ 0x01 ∨ cond ≠ .done) →
      (others ∨ c.coordinating = true → s.endSlot i cond data = t c)
      ∧ (¬ others → c.coordinating = false → s.endSlot i cond data = (t {}).testDrain))
    ∧ (c.stage = .switch ∨ c.stage = .confirm ∨ c.stage = .revert ∧ c.asked = true → s.endSlot i cond data = t c))

/-- SWITCH_FRAME (R111): at the frame event of a committed pair the new entry becomes ACTIVE and the old one RETIRING, and the monitor of
the link restarts. With both cells complete the context enters CONFIRM with its window; a late pair of a retune enters REVERT, and a
late pair of an assignment ends it with the link LOST.
The confirmation (R112, R113): the old entry is released, the link is UP, its last retune result is DONE in stage CONFIRM, RETUNE_DONE is
raised, for target BACKUP with auto_backup a PICK_BACKUP is filed, or BACKUP_LOST raised where it finds no place, and the context is
FREE when it holds nothing, with the drain condition tested, and CLOSING while it holds a slot or a request. At a frame event a link without a profile is so confirmed in
CONFIRM, and its revert in the confirm part of REVERT, unless the frame event reaches the deadline.
The row takes a step of the due list, which is the model's choice (log 4). -/
def Obligations.SwitchFrameSwitches : Prop :=
  (∀ (s : State) (k : ContextId), .switchFrame k ∈ s.due → s.contexts[k].stage = .switch → s.contexts[k].committed = true →
    s.contexts[k].frame = some s.timing.frame →
    let c := s.contexts[k]
    let switched := (((({ s with due := s.due.erase (.switchFrame k) } : State).changeOpt c.newEntry .active).changeOpt c.oldEntry
      .retiring).restartMonitor c.link)
    (2 ≤ c.completions → exec (.switchFrame k) s = .next (switched.modContext k fun x =>
      { x with stage := .confirm, deadline := some (s.timing.frame + BitVec.ofNat 16 s.confirmWindow) }))
    ∧ (c.completions < 2 → c.oldEntry ≠ none → exec (.switchFrame k) s = .next (switched.enterRevert k .pairLate))
    ∧ (c.completions < 2 → c.oldEntry = none → exec (.switchFrame k) s = .next (switched.endLost k .switch .pairLate)))
  ∧ (∀ (s : State) (k : ContextId),
    let c := s.contexts[k]
    let u := s.releaseOpt c.oldEntry
    let done : State := State.raise { u with links := put u.links c.link { u.links[c.link] with
        state := .up
        last := { ending := .done, reason := c.reason, target := c.target, stage := .confirm, summary := c.summary, rack := c.rack
                  portable := c.portable, frame := s.timing.frame } } }
      .retuneDone (linkByte c.link) ([indexByte c.newEntry] ++ u8 c.target.code ++ u8 c.reason.code ++ u32 c.newFreq)
    let wants := c.target = .backup ∧ s.links[c.link].flags.autoBackup = true
    let waits := ∃ q ∈ s.engine.queue, q.kind = .pickBackup ∧ q.link = some c.link
    let place := s.engine.queue.length < 8 ∧ (s.engine.queue.filter fun q => match q.filer with
        | .context _ => false
        | _ => true).length < 4
    let closed (v : State) : State :=
      if s.holdsSlot k = true ∨ c.coordinating = true then { v with contexts := put s.contexts k { c with stage := .closing } }
      else State.testDrain { v with contexts := put s.contexts k {} }
    (¬ wants ∨ waits → s.confirmMove k = closed done)
    ∧ (wants → ¬ waits → place → s.confirmMove k = closed { done with engine := { s.engine with queue := s.engine.queue ++
        [{ kind := .pickBackup, filer := .auto, link := some c.link, target := .nextCandidate, cls := s.links[c.link].cls }] } })
    ∧ (wants → ¬ waits → ¬ place → s.confirmMove k = closed (done.raise .backupLost (linkByte c.link)
        ([255] ++ u8 2 ++ u8 Result.queueFull.code))))
  ∧ (∀ (s : State) (k : ContextId),
    let c := s.contexts[k]
    (c.stage = .confirm → s.links[c.link].profile = none → c.deadline ≠ some s.timing.frame → s.profilelessConfirm k = s.confirmMove k)
    ∧ (c.stage = .revert → c.reverted = true → s.links[c.link].profile = none → c.deadline ≠ some s.timing.frame →
        s.profilelessConfirm k = s.endFailed k .up .revert .reverted)
    ∧ (s.links[c.link].profile ≠ none ∨ c.deadline = some s.timing.frame ∨ c.stage ≠ .confirm ∧ c.stage ≠ .revert
          ∨ c.stage = .revert ∧ c.reverted = false → s.profilelessConfirm k = s))

/-- CONFIRM_DEADLINE, REVERT_FRAME and REVERT_CONFIRM_EXPIRY (R114, R115): an unconfirmed retune reverts, and an unconfirmed assignment ends
with the link LOST. At the revert frame the new entry is released and the old one is ACTIVE again; with both cells complete a window
runs, and otherwise, as at its expiry, the link is LOST.
The start of a revert (R115): the context is in REVERT with its cause, and asks for the two slots of its REVERT pair as soon as it holds
no slot, at once or when the last of its SWITCH slots has ended.
The end of a retune that failed after its switch frame (R79, R114, R115, R118): the link takes its state, UP or LOST, its last retune
result names the stage, the reason and the frame, RETUNE_FAILED is raised with the stage, the cause, the two conditions and the revert
cause, and the context is FREE, with the drain condition tested, or CLOSING while it holds a slot or a request.
The rows take steps of the due list, which is the model's choice (log 4); that the last SWITCH slot is FREE before the REVERT pair is asked
for is its reading (log 18). -/
def Obligations.RevertAndFailure : Prop :=
  (∀ (s : State) (k : ContextId),
    let c := s.contexts[k]
    (.confirmDeadline k ∈ s.due → c.stage = .confirm → c.deadline = some s.timing.frame →
      let t : State := { s with due := s.due.erase (.confirmDeadline k) }
      (c.oldEntry ≠ none → exec (.confirmDeadline k) s = .next (t.enterRevert k .unconfirmed))
      ∧ (c.oldEntry = none → exec (.confirmDeadline k) s = .next (t.endLost k .confirm .unconfirmed)))
    ∧ (.revertFrame k ∈ s.due → c.stage = .revert → c.committed = true → c.reverted = false → c.frame = some s.timing.frame →
      let t := ((({ s with due := s.due.erase (.revertFrame k) } : State).releaseOpt c.newEntry).changeOpt c.oldEntry
        .active).restartMonitor c.link
      (2 ≤ c.completions → exec (.revertFrame k) s = .next (t.modContext k fun x =>
        { x with reverted := true, deadline := some (s.timing.frame + BitVec.ofNat 16 s.confirmWindow) }))
      ∧ (c.completions < 2 → exec (.revertFrame k) s = .next (t.endFailed k .lost .revert .revertLate)))
    ∧ (.revertConfirmExpiry k ∈ s.due → c.stage = .revert → c.reverted = true → c.deadline = some s.timing.frame →
      exec (.revertConfirmExpiry k) s = .next
        (State.endFailed { s with due := s.due.erase (.revertConfirmExpiry k) } k .lost .revert .revertUnconfirmed)))
  ∧ (∀ (s : State) (k : ContextId),
    let c := s.contexts[k]
    let ask (u : State) (side : Side) (unit : Byte) : State :=
      u.askSlot { owner := .context k side, unit, command := [0x04, 0, 0], single := true, pair := true }
    let asked (u : State) : State := ask (ask u .rack s.links[c.link].rack) .portable s.links[c.link].portable
    (∀ cause : RevertCause,
      let x : Context := { c with stage := .revert, cause, committed := false, frame := none, deadline := none, asked := false
                                  reverted := false }
      (s.holdsSlot k = true → s.enterRevert k cause = { s with contexts := put s.contexts k x })
      ∧ (s.holdsSlot k = false → s.enterRevert k cause =
          asked { s with contexts := put s.contexts k { x with asked := true, completions := 0 } }))
    ∧ (∀ (i : SlotId) (side : Side) (cond : Condition) (data : List Byte), c.stage = .revert → c.asked = false →
      s.unit.slots[i].owner = some (.context k side) →
      let x : Context := match side with
        | .rack => { c with rack := some cond }
        | .portable => { c with portable := some cond }
      let t (x : Context) : State := { s with
        unit := { s.unit with slots := put s.unit.slots i {} }, contexts := put s.contexts k x }
      ((t x).holdsSlot k = true → s.endSlot i cond data = t x)
      ∧ ((t x).holdsSlot k = false → s.endSlot i cond data = asked (t { x with asked := true, completions := 0 }))))
  ∧ (∀ (s : State) (k : ContextId) (st : LinkState) (stage : RetuneStage) (cause : FailCause), st = .up ∨ st = .lost →
    let c := s.contexts[k]
    let settled : State := { s with links := put s.links c.link { s.links[c.link] with
      state := st
      last := { ending := .failed, reason := c.reason, target := c.target, stage, summary := c.summary, rack := c.rack
                portable := c.portable, frame := s.timing.frame } } }
    let detail := u8 stage.code ++ u8 cause.code ++ u8 (conditionCode c.rack) ++ u8 (conditionCode c.portable) ++ u8 c.cause.code
    let failed := settled.raise .retuneFailed (linkByte c.link) detail
    s.endFailed k st stage cause =
      if s.holdsSlot k = true ∨ c.coordinating = true then { failed with contexts := put s.contexts k { c with stage := .closing } }
      else State.testDrain { failed with contexts := put s.contexts k {} })

/-! ### The link monitor (07) -/

/-- TELEMETRY_CELL (R5, R112, R115, R124 to R136, R138): a cell that matches no defined link is passed on to the U-port. One that does is
stored as the link's last sample, with the silence count 0, handled by the link's state, and copied to the U-port where the link asks
for it. An IDLE link is tested for its battery alone. An UP or FADED one whose tuned frequency is not its ACTIVE entry's becomes LOST with
MISTUNED; with a profile its sample else goes through the filters and the battery test, and then gives, in order, the limit notices and
OVERLOAD of a change of side, INTERFERENCE at the change to poor quality, and FADE of an UP link or RECOVER of a FADED one, with the
requests they file; with no profile it recovers from FADED at a sample with lock set. A LOST link returns at a sample with lock set on its
ACTIVE frequency, with its monitor restarted, and the sample is then filtered as for an UP link; any other sample tests the battery.
Of an ASSIGNING or RETUNING link the battery is tested, and in a confirm stage the sample confirms the move or the revert on the wanted
frequency with lock and level, ends it with MISTUNED on a frequency that is neither, and has no effect otherwise.
The level filter (R129) moves the recognized side at the last of as many consecutive samples on one other side as the profile asks for,
and at none before: a sample on the recognized side makes the run 0, and one on the third side starts it again at 1; the lock test and the quality filter are those of R130 and R131.
TELEMETRY_TIMEOUT (R137): a link that is UP or FADED, with a profile whose timeout its silence count has reached, becomes LOST with SILENT.
That the sample's level, quality and battery are stored and judged as carried, also outside their ranges (log 45), and the last row's due
list (log 4) are the model's choices. -/
def Obligations.TelemetryIsMonitored : Prop :=
  (∀ (s : State) (c : Cell), s.due = [] → s.pins.reset = false → integral c = true → c.kind = 4 → c.dest = 0 → c.len = 8 →
    let data := cellData c
    let hears (l : LinkId) := s.links[l].state ≠ .unused ∧ s.links[l].rack = c.src ∧ s.links[l].chan = u8At data 0 % 4
    let passed (t : State) : State :=
      if t.uport.forward.length < 16 then { t with uport := { t.uport with forward := t.uport.forward ++ [c] } }
      else t.raise .forwardDrop 0 []
    ((∀ l : LinkId, ¬ hears l) → exec (.telemetryCell c) s = .next (passed s))
    ∧ (∀ l : LinkId, hears l → (∀ m : LinkId, m < l → ¬ hears m) →
      let x : Sample :=
        { raw := s8At data 5
          corrected := if s8At data 5 = -128 then -128 else max (-127) (min 0 (s8At data 5 + s.links[l].offset))
          quality := u8At data 6, battery := u8At data 7, lock := flagAt data 0 7, freq := u32At data 1
          arrival := s.timing.frame, fresh := true }
      let stored : State := { s with samples := put s.samples l x, monitors := put s.monitors l { s.monitors[l] with silence := 0 } }
      let relayed (t : State) : State := if s.links[l].flags.telemetryRelay then passed t else t
      let active := s.links[l].active.map fun e => s.plan.carriers[e].freq
      let watch (t : State) (m : Monitor) : State := { t with monitors := put t.monitors l m }
      let enter (t : State) (st : LinkState) : State := { t with links := put t.links l { t.links[l] with state := st } }
      let tested (t : State) : State := match s.links[l].profile with
        | none => t
        | some p =>
          if x.battery = 255 then t
          else if s.profiles[p].battery ≤ x.battery then watch t { t.monitors[l] with batteryLow := false }
          else if t.monitors[l].batteryLow then t
          else (watch t { t.monitors[l] with batteryLow := true }).raise .batteryLow (linkByte l) (u8 x.battery ++ u8 s.profiles[p].battery)
      let file (t : State) (target : Target) (reason : Reason) : State × Option Nat :=
        let e := t.entryOf l target reason false
        match t.retuneQueue.findIdx? (·.link = l) with
        | some n => ({ t with retuneQueue := t.retuneQueue.set n e }, if e.held then some n else none)
        | none =>
          if t.retuneQueue.length < 16 then
            ({ t with retuneQueue := t.retuneQueue ++ [e] }, if e.held then some t.retuneQueue.length else none)
          else (t.raise .retuneDropped (linkByte l) (u8 reason.code ++ u8 target.code ++ u32 0), none)
      let crossed (t : State) (p : Profile) (before after : LevelSide) : State :=
        let low (t : State) (rising : Bool) : State :=
          let v := watch t { t.monitors[l] with lowCrossed := true }
          if p.lowDir = .both ∨ p.lowDir = (if rising then .rise else .fall) then
            v.raise .lowLimit (linkByte l) (u8 rising.toNat ++ s8 x.corrected ++ s8 p.low)
          else v
        let high (t : State) (rising : Bool) : State :=
          let v := watch t { t.monitors[l] with highCrossed := true }
          if p.highDir = .both ∨ p.highDir = (if rising then .rise else .fall) then
            v.raise .highLimit (linkByte l) (u8 rising.toNat ++ s8 x.corrected ++ s8 p.high)
          else v
        let overload (t : State) : State := t.raise .overload (linkByte l) (s8 x.corrected)
        match before, after with
        | .normal, .low => low t false
        | .low, .normal => low t true
        | .normal, .high => overload (high t true)
        | .high, .normal => high t false
        | .low, .high => overload (high (low t true) true)
        | .high, .low => low (high t false) false
        | _, _ => t
      let interfered (t : State) : State :=
        let t := match t.links[l].active with
          | some e => { t with plan := { t.plan with carriers := put t.plan.carriers e { t.plan.carriers[e] with suspect := true } } }
          | none => t
        let t := t.raise .interference (linkByte l) ([indexByte t.links[l].active] ++ u8 x.quality ++ s8 x.corrected)
        if t.links[l].flags.autoAvoid then (file t .nextCandidate .interference).1 else t
      let faded (t : State) : State :=
        let cause := (if t.monitors[l].side = .low then 1 else 0) + (if t.monitors[l].lockLost then 2 else 0)
        let t := (enter t .faded).raise .fade (linkByte l) (u8 cause ++ s8 x.corrected ++ u8 x.quality)
        if t.links[l].flags.autoSwitchover ∧ t.links[l].standby ≠ none then
          match file t .backup .fade with
          | (u, some n) => u.raise .fadeLive (linkByte l) ([indexByte t.links[l].standby] ++ u8 n)
          | (u, none) => u
        else t
      let recovered (t : State) (cause : Nat) : State :=
        let t := (enter t .up).raise .recover (linkByte l) (u8 cause ++ s8 x.corrected)
        { t with retuneQueue := t.retuneQueue.filter fun e => ¬ (e.link = l ∧ e.reason = .fade) }
      let filtered (t : State) (p : Profile) : State :=
        let m := t.monitors[l]
        let side : LevelSide := if x.corrected < p.low then .low else if p.high < x.corrected then .high else .normal
        let m1 := m.levelFilter p side
        let m2 := m1.lockTest p x.lock
        let m3 := m2.qualityFilter p x
        let t := watch t m3
        let t := tested (if m2.lockLost = true ∧ m1.lockLost = false then t.raise .lockLost (linkByte l) (u32 x.freq) else t)
        let t := crossed t p m.side m3.side
        let t := if m3.poor = true ∧ m2.poor = false then interfered t else t
        if t.links[l].state = .up ∧ (m3.side = .low ∨ m3.lockLost = true) then faded t
        else if t.links[l].state = .faded ∧ x.lock = true ∧ m3.side ≠ .low then recovered t 1
        else t
      (s.links[l].state = .idle → exec (.telemetryCell c) s = .next (relayed (tested stored)))
      ∧ (∀ f : Nat, (s.links[l].state = .up ∨ s.links[l].state = .faded) → active = some f → x.freq ≠ f →
        exec (.telemetryCell c) s = .next (relayed
          (tested (enter (stored.raise .mistuned (linkByte l) (u32 x.freq ++ u32 f)) .lost))))
      ∧ (s.links[l].profile = none → active = some x.freq → (s.links[l].state = .up ∨ s.links[l].state = .faded ∧ x.lock = false) →
        exec (.telemetryCell c) s = .next (relayed stored))
      ∧ (s.links[l].profile = none → active = some x.freq → s.links[l].state = .faded → x.lock = true →
        exec (.telemetryCell c) s = .next (relayed (recovered stored 1)))
      ∧ (∀ p : Fin 8, s.links[l].profile = some p → active = some x.freq → (s.links[l].state = .up ∨ s.links[l].state = .faded) →
        exec (.telemetryCell c) s = .next (relayed (filtered stored s.profiles[p])))
      ∧ (s.links[l].state = .lost → (x.lock = false ∨ active ≠ some x.freq) →
        exec (.telemetryCell c) s = .next (relayed (tested stored)))
      ∧ (s.links[l].state = .lost → x.lock = true → active = some x.freq →
        let back := recovered (watch stored { batteryLow := s.monitors[l].batteryLow, lowCrossed := s.monitors[l].lowCrossed
                                              highCrossed := s.monitors[l].highCrossed }) 2
        exec (.telemetryCell c) s = .next (relayed (match s.links[l].profile with
          | some p => filtered back s.profiles[p]
          | none => back)))
      ∧ ((s.links[l].state = .assigning ∨ s.links[l].state = .retuning) →
        (∀ k : ContextId, s.serving l = some k → s.contexts[k].stage ≠ .confirm
          ∧ ¬ (s.contexts[k].stage = .revert ∧ s.contexts[k].reverted = true)) →
        exec (.telemetryCell c) s = .next (relayed (tested stored)))
      ∧ (∀ (k : ContextId) (wanted : Nat) (other : Option Nat), (s.links[l].state = .assigning ∨ s.links[l].state = .retuning) →
        s.serving l = some k →
        let old := s.contexts[k].oldEntry.map fun e => s.plan.carriers[e].freq
        (s.contexts[k].stage = .confirm ∧ wanted = s.contexts[k].newFreq ∧ other = old
          ∨ s.contexts[k].stage = .revert ∧ s.contexts[k].reverted = true ∧ old = some wanted ∧ other = some s.contexts[k].newFreq) →
        let t := tested stored
        let confirms := x.lock = true ∧ ∃ p : Fin 8, s.links[l].profile = some p ∧ s.profiles[p].low ≤ x.corrected
        (x.freq = wanted → confirms → exec (.telemetryCell c) s = .next (relayed
          (if s.contexts[k].stage = .confirm then t.confirmMove k else t.endFailed k .up .revert .reverted)))
        ∧ (x.freq = wanted → ¬ confirms → exec (.telemetryCell c) s = .next (relayed t))
        ∧ (x.freq ≠ wanted → other = some x.freq → exec (.telemetryCell c) s = .next (relayed t))
        ∧ (x.freq ≠ wanted → other ≠ some x.freq →
          let u := t.raise .mistuned (linkByte l) (u32 x.freq ++ u32 wanted)
          exec (.telemetryCell c) s = .next (relayed
            (if s.contexts[k].stage = .confirm then (u.releaseOpt s.contexts[k].oldEntry).endFailed k .lost .confirm .mistuned
             else u.endFailed k .lost .revert .mistuned))))))
  ∧ (∀ (m : Monitor) (p : Profile) (side : LevelSide) (n : Nat), side ≠ m.side → m.run = 0 → p.levelCount ≤ 8 →
      let after := (List.replicate n side).foldl (fun u d => Monitor.levelFilter u p d) m
      (n < p.levelCount → after.side = m.side ∧ after.run = n)
      ∧ (n = p.levelCount → 0 < n → after.side = side ∧ after.run = 0))
  ∧ (∀ (m : Monitor) (p : Profile) (side : LevelSide), 1 ≤ p.levelCount →
      let n := if side = m.runSide ∧ 0 < m.run then min 8 (m.run + 1) else 1
      (side = m.side → m.levelFilter p side = { m with runSide := m.side, run := 0 })
      ∧ (side ≠ m.side → n < p.levelCount → m.levelFilter p side = { m with runSide := side, run := n })
      ∧ (side ≠ m.side → p.levelCount ≤ n → m.levelFilter p side = { m with side, runSide := side, run := 0 }))
  ∧ (∀ (m : Monitor) (p : Profile) (x : Sample),
      m.lockTest p true = { m with lockRun := 0, lockLost := false }
      ∧ (let n := min 8 (m.lockRun + 1)
         m.lockTest p false = { m with lockRun := n, lockLost := m.lockLost || decide (p.levelCount ≤ n) })
      ∧ ((x.lock = false ∨ m.side = .low) → m.qualityFilter p x = m)
      ∧ (x.lock = true → m.side ≠ .low →
        let n := min 8 (m.qualityRun + 1)
        let poor := decide (x.quality < p.qualityLimit)
        (poor = m.poor → m.qualityFilter p x = { m with qualityRun := 0 })
        ∧ (poor ≠ m.poor → n < p.qualityCount → m.qualityFilter p x = { m with qualityRun := n })
        ∧ (poor ≠ m.poor → p.qualityCount ≤ n → m.qualityFilter p x = { m with poor, qualityRun := 0 })))
  ∧ (∀ (s : State) (l : LinkId) (p : Fin 8), .telemetryTimeout l ∈ s.due → (s.links[l].state = .up ∨ s.links[l].state = .faded) →
      s.links[l].profile = some p → s.profiles[p].timeout ≤ s.monitors[l].silence →
      exec (.telemetryTimeout l) s = .next (State.raise { s with
          due := s.due.erase (.telemetryTimeout l), links := put s.links l { s.links[l] with state := .lost } }
        .silent (linkByte l) (u8 s.monitors[l].silence ++ half s.samples[l].arrival)))

/-- PROFILE_READ, PROFILE_WRITE and READ_MONITOR (R120, R121, R125): a profile is returned and stored by its nine fields, the counts and
the timeout clamped, BAD_VALUE for levels, directions, quality or battery out of range; a READ MONITOR returns the link's state,
profile, offset, monitor state and last sample, and then clears the fresh flag and the crossed flags asked for. BAD_INDEX outside the
tables. -/
def Obligations.ProfilesAndMonitorByRequest : Prop :=
  ∀ (s : State) (r : Request), s.Takes r →
    let fields (p : Profile) : List Byte := s8 p.low ++ s8 p.high ++ u8 p.levelCount ++ u8 p.qualityLimit ++ u8 p.qualityCount
      ++ u8 p.lowDir.code ++ u8 p.highDir.code ++ u8 p.timeout ++ u8 p.battery
    (r.code = 0x1A → 1 ≤ r.args.length → 8 ≤ u8At r.args 0 → exec .profileRead s = .next (s.answer r .badIndex []))
    ∧ (r.code = 0x1B → 10 ≤ r.args.length → 8 ≤ u8At r.args 0 → exec .profileWrite s = .next (s.answer r .badIndex []))
    ∧ (r.code = 0x48 → 2 ≤ r.args.length → 80 ≤ u8At r.args 0 → exec .readMonitor s = .next (s.answer r .badIndex []))
    ∧ (∀ i : Fin 8, r.code = 0x1A → 1 ≤ r.args.length → u8At r.args 0 = i.val →
        exec .profileRead s = .next (s.answer r .ok (fields s.profiles[i])))
    ∧ (∀ i : Fin 8, r.code = 0x1B → 10 ≤ r.args.length → u8At r.args 0 = i.val →
      let low := s8At r.args 1
      let high := s8At r.args 2
      let fits := -127 ≤ low ∧ low < high ∧ high ≤ 0 ∧ u8At r.args 4 ≤ 100 ∧ u8At r.args 6 ≤ 3 ∧ u8At r.args 7 ≤ 3 ∧ u8At r.args 9 ≤ 100
      (¬ fits → exec .profileWrite s = .next (s.answer r .badValue []))
      ∧ (∀ lowDir highDir : Direction, fits → u8At r.args 6 = lowDir.code → u8At r.args 7 = highDir.code →
        let p : Profile := { low, high, levelCount := max 1 (min 8 (u8At r.args 3)), qualityLimit := u8At r.args 4
                             qualityCount := max 1 (min 8 (u8At r.args 5)), lowDir, highDir
                             timeout := max 1 (min 250 (u8At r.args 8)), battery := u8At r.args 9 }
        exec .profileWrite s = .next (State.answer { s with profiles := put s.profiles i p } r .ok (fields p))))
    ∧ (∀ l : LinkId, r.code = 0x48 → 2 ≤ r.args.length → u8At r.args 0 = l.val →
      let m := s.monitors[l]
      let x := s.samples[l]
      exec .readMonitor s = .next (State.answer { s with
          monitors := put s.monitors l { m with lowCrossed := m.lowCrossed && !flagAt r.args 1 0
                                                highCrossed := m.highCrossed && !flagAt r.args 1 1 }
          samples := put s.samples l { x with fresh := false } } r .ok
        (u8 s.links[l].state.code ++ [indexByte s.links[l].profile] ++ s8 s.links[l].offset
          ++ u8 m.side.code ++ u8 m.runSide.code ++ u8 m.run ++ u8 m.poor.toNat ++ u8 m.qualityRun ++ u8 m.lockRun ++ u8 m.lockLost.toNat
          ++ u8 m.silence ++ u8 m.batteryLow.toNat ++ u8 (m.lowCrossed.toNat + 2 * m.highCrossed.toNat)
          ++ s8 x.raw ++ s8 x.corrected ++ u8 x.quality ++ u8 x.battery ++ u8 x.lock.toNat ++ u32 x.freq ++ half x.arrival
          ++ u8 x.fresh.toNat)))

/-! ### The scan engine (08) -/

/-- SCAN_LIST_READ and SCAN_LIST_WRITE (R140): a segment is returned and stored by its four fields, the step clamped into 25-1,000;
BUSY while SCANNING, and BAD_VALUE for an enabled segment with edges out of range, above one another, or of more than 65,536 points.
SCAN_START, SCAN_TRIGGER, SCAN_STOP and SCAN_RELEASE (R142, R143, R144, R150): from IDLE, with the agent RUNNING, a scan with segments to
sweep begins: its number rises, its counts are 0, and in the SEQUENTIAL layout receiver A asks for a slot for the first segment. It has
segments while a receiver that is not 0 has the first segment of its half enabled. Where no scan can begin, START is BAD_STATE and a trigger
does nothing; outside IDLE START is START_IGNORED, and so is a trigger while SCANNING. STOP makes the state STOPPED,
withdraws the scan's waiting slot requests, marks its slots' results to be discarded and tests the drain condition; RELEASE makes STOPPED IDLE.
A PARALLEL scan (R142) begins on both halves of the list, each up to its first disabled segment and for a receiver that is not 0.
A segment's end (R144, R146, R147): at DONE its detections are applied in ascending frequency and it is counted done; otherwise it has
failed, with SCAN_SEGMENT_FAILED, its range and its count. The receiver asks for a slot for its next segment, and with both halves done
the scan ends. The end of a scan (R148): each entry not seen and in no failed range gains a miss, those at the age limit are removed with
FOREIGN_GONE and a rise of the generation each, SCAN_DONE is raised, and a LOOP scan begins anew while the agent is RUNNING.
The trigger's due list (log 4), receiver A's asking before B (log 30) and the ignored bits of the enabled byte (log 33) are the model's
choices; OK replies without data (log 12) and the ended slot FREE before the next is asked for (log 18) its readings. The removals' order and
counts above 255 (log 35, log 36) are left out. -/
def Obligations.ScanListAndStates : Prop :=
  (∀ (s : State) (r : Request), s.Takes r →
    let fields (g : Segment) : List Byte := u32 g.start ++ u32 g.stop ++ u32 g.step ++ u8 g.enabled.toNat
    (r.code = 0x1C → 1 ≤ r.args.length → 16 ≤ u8At r.args 0 → exec .scanListRead s = .next (s.answer r .badIndex []))
    ∧ (r.code = 0x1D → 14 ≤ r.args.length → 16 ≤ u8At r.args 0 → exec .scanListWrite s = .next (s.answer r .badIndex []))
    ∧ (∀ i : Fin 16, r.code = 0x1C → 1 ≤ r.args.length → u8At r.args 0 = i.val →
        exec .scanListRead s = .next (s.answer r .ok (fields s.scan.segments[i])))
    ∧ (∀ i : Fin 16, r.code = 0x1D → 14 ≤ r.args.length → u8At r.args 0 = i.val →
      let g : Segment := { start := u32At r.args 1, stop := u32At r.args 5, step := max 25 (min 1000 (u32At r.args 9))
                           enabled := flagAt r.args 13 0 }
      let fits := 30000 ≤ g.start ∧ g.start ≤ g.stop ∧ g.stop ≤ 7125000 ∧ (g.stop - g.start) / g.step + 1 ≤ 65536
      (s.scan.state = .scanning → exec .scanListWrite s = .next (s.answer r .busy []))
      ∧ (s.scan.state ≠ .scanning → g.enabled = true → ¬ fits → exec .scanListWrite s = .next (s.answer r .badValue []))
      ∧ (s.scan.state ≠ .scanning → (g.enabled = true → fits) → exec .scanListWrite s = .next
          (State.answer { s with scan := { s.scan with segments := put s.scan.segments i g } } r .ok (fields g)))))
  ∧ (let begun (s : State) (g : Fin 16) (rest : List (Fin 16)) : State :=
      State.askSlot { s with scan := { s.scan with
          number := s.scan.number + 1, state := .scanning, failedRanges := [], done := 0, failed := 0, inserted := 0, removed := 0
          recvA := { current := some g, todo := rest, results := [] }, recvB := {} } }
        { owner := .scan .a, unit := s.scan.settings.recvA
          command := [0x06] ++ u32 s.scan.segments[g].start ++ u32 s.scan.segments[g].stop ++ u16 s.scan.segments[g].step }
    let sweeps (s : State) := s.scan.settings.recvA ≠ 0 ∧ s.scan.segments[(0 : Fin 16)].enabled = true
      ∨ s.scan.settings.parallel = true ∧ s.scan.settings.recvB ≠ 0 ∧ s.scan.segments[(8 : Fin 16)].enabled = true
    (∀ s : State, s.hasSegments = true ↔ sweeps s)
    ∧ (∀ (s : State) (r : Request), s.Takes r → r.code = 0x40 →
      (∀ (g : Fin 16) (rest : List (Fin 16)), s.scan.state = .idle → s.agent.quiesce = .running → s.scan.settings.parallel = false →
        s.scan.settings.recvA ≠ 0 → ((List.finRange 16).takeWhile fun i => s.scan.segments[i].enabled) = g :: rest →
        exec .scanStart s = .next ((begun s g rest).answer r .ok []))
      ∧ (s.scan.state = .idle → s.agent.quiesce = .running → sweeps s → exec .scanStart s = .next (s.beginScan.answer r .ok []))
      ∧ (s.scan.state = .idle → (s.agent.quiesce ≠ .running ∨ ¬ sweeps s) → exec .scanStart s = .next (s.answer r .badState []))
      ∧ (s.scan.state ≠ .idle → exec .scanStart s = .next
        ((s.raise .startIgnored 0 (u8 s.scan.state.code ++ u8 1)).answer r .ok [])))
    ∧ (∀ s : State, .scanTrigger ∈ s.due →
      let t : State := { s with due := s.due.erase .scanTrigger }
      (∀ (g : Fin 16) (rest : List (Fin 16)), s.scan.state = .idle → s.agent.quiesce = .running → s.scan.settings.parallel = false →
        s.scan.settings.recvA ≠ 0 → ((List.finRange 16).takeWhile fun i => s.scan.segments[i].enabled) = g :: rest →
        exec .scanTrigger s = .next (begun t g rest))
      ∧ (s.scan.state = .idle → s.agent.quiesce = .running → sweeps s → exec .scanTrigger s = .next t.beginScan)
      ∧ (s.scan.state = .idle → (s.agent.quiesce ≠ .running ∨ ¬ sweeps s) → exec .scanTrigger s = .next t)
      ∧ (s.scan.state = .scanning → exec .scanTrigger s = .next (t.raise .startIgnored 0 (u8 1 ++ u8 2)))
      ∧ (s.scan.state = .stopped → exec .scanTrigger s = .next t)))
  ∧ (∀ (s : State) (r : Request), s.Takes r →
    (r.code = 0x41 → s.scan.state ≠ .scanning → exec .scanStop s = .next
      (State.answer { s with scan := { s.scan with state := .stopped } } r .ok []))
    ∧ (r.code = 0x41 → s.scan.state = .scanning → ∃ t : State, exec .scanStop s = .next (t.testDrain.answer r .ok [])
        ∧ t.scan = { s.scan with state := .stopped, recvA := {}, recvB := {} }
        ∧ (∀ q : SlotRequest, q ∈ t.unit.waiting ↔ q ∈ s.unit.waiting ∧ q.owner ≠ .scan .a ∧ q.owner ≠ .scan .b)
        ∧ (∀ i : SlotId, t.unit.slots[i] = if s.unit.slots[i].owner = some (.scan .a) ∨ s.unit.slots[i].owner = some (.scan .b)
            then { s.unit.slots[i] with discard := true } else s.unit.slots[i])
        ∧ t.unit.toggles = s.unit.toggles ∧ t.plan = s.plan ∧ t.links = s.links ∧ t.contexts = s.contexts ∧ t.tally = s.tally
        ∧ t.agent = s.agent ∧ t.uport = s.uport ∧ t.dport = s.dport ∧ t.mixer = s.mixer ∧ t.timing = s.timing)
    ∧ (r.code = 0x42 → s.scan.state = .stopped → exec .scanRelease s = .next
      (State.answer { s with scan := { s.scan with state := .idle } } r .ok []))
    ∧ (r.code = 0x42 → s.scan.state ≠ .stopped → exec .scanRelease s = .next (s.answer r .badState [])))
  ∧ (∀ s : State, s.scan.settings.parallel = true →
      let half (lo hi : Nat) : List (Fin 16) :=
        ((List.finRange 16).filter fun i => lo ≤ i.val ∧ i.val < hi).takeWhile fun i => s.scan.segments[i].enabled
      let sweep (g : Fin 16) : List Byte :=
        [0x06] ++ u32 s.scan.segments[g].start ++ u32 s.scan.segments[g].stop ++ u16 s.scan.segments[g].step
      let ask (u : State) (rc : Receiver) (unit : Byte) (g : Fin 16) : State := u.askSlot
        { owner := .scan rc, unit, command := sweep g }
      let begun (a b : Sweeper) : State := { s with scan := { s.scan with
        number := s.scan.number + 1, state := .scanning, failedRanges := [], done := 0, failed := 0, inserted := 0, removed := 0
        recvA := a, recvB := b } }
      let unitA := s.scan.settings.recvA
      let unitB := s.scan.settings.recvB
      let idleA := unitA = 0 ∨ half 0 8 = []
      let idleB := unitB = 0 ∨ half 8 16 = []
      (∀ (g h : Fin 16) (todoA todoB : List (Fin 16)), unitA ≠ 0 → unitB ≠ 0 → half 0 8 = g :: todoA → half 8 16 = h :: todoB →
        s.beginScan = ask (ask (begun { current := some g, todo := todoA, results := [] } { current := some h, todo := todoB, results := [] })
          .a unitA g) .b unitB h)
      ∧ (∀ (g : Fin 16) (todo : List (Fin 16)), unitA ≠ 0 → half 0 8 = g :: todo → idleB →
        s.beginScan = ask (begun { current := some g, todo, results := [] } {}) .a unitA g)
      ∧ (∀ (h : Fin 16) (todo : List (Fin 16)), idleA → unitB ≠ 0 → half 8 16 = h :: todo →
        s.beginScan = ask (begun {} { current := some h, todo, results := [] }) .b unitB h))
  ∧ (∀ (s : State) (i : SlotId) (rc : Receiver) (g : Fin 16) (cond : Condition) (data : List Byte),
    s.unit.slots[i].owner = some (.scan rc) → s.unit.slots[i].discard = false → (s.sweeper rc).current = some g →
    let freed : State := { s with unit := { s.unit with slots := put s.unit.slots i {} } }
    let emptied (t : State) : State := t.setSweeper rc { t.sweeper rc with results := [] }
    ∃ (ds : List Detection) (closed : State), ds.Perm (s.sweeper rc).results ∧ ds.Pairwise (fun a b => a.freq ≤ b.freq)
      ∧ closed = (if cond = .done then
          let t := emptied (ds.foldl State.applyDetection freed)
          { t with scan := { t.scan with done := s.scan.done + 1 } }
        else
          let t := (emptied freed).raise .scanSegmentFailed (BitVec.ofNat 8 g.val) (u8 rc.code ++ u8 cond.code ++ half s.scan.number)
          { t with scan := { t.scan with
            failedRanges := s.scan.failedRanges ++ [(s.scan.segments[g].start, s.scan.segments[g].stop)], failed := s.scan.failed + 1 } })
      ∧ (∀ (h : Fin 16) (todo : List (Fin 16)), (s.sweeper rc).todo = h :: todo → s.endSlot i cond data =
          let sweep := [0x06] ++ u32 s.scan.segments[h].start ++ u32 s.scan.segments[h].stop ++ u16 s.scan.segments[h].step
          (closed.setSweeper rc { current := some h, todo, results := [] }).askSlot
            { owner := .scan rc, unit := s.recvAddress rc, command := sweep })
      ∧ ((s.sweeper rc).todo = [] →
        let last := ∀ r : Receiver, r ≠ rc → (s.sweeper r).current = none
        (s.scan.state = .scanning → last → s.endSlot i cond data = (closed.setSweeper rc {}).endScan)
        ∧ ((s.scan.state ≠ .scanning ∨ ¬ last) → s.endSlot i cond data = closed.setSweeper rc {})))
  ∧ (∀ s : State,
    let aged := s.scan.foreign.map fun x =>
      if x.lastSeen ≠ s.scan.number ∧ ¬ ∃ r ∈ s.scan.failedRanges, r.1 ≤ x.freq ∧ x.freq ≤ r.2 then { x with misses := x.misses + 1 } else x
    let old := aged.filter fun x => s.scan.settings.ageLimit ≤ x.misses
    let left (foreign : List Foreign) : State := { s with
      scan := { s.scan with foreign, removed := s.scan.removed + old.length }
      plan := { s.plan with gen := s.plan.gen + BitVec.ofNat 16 old.length } }
    let t := s.ageForeign
    t.scan = (left (aged.filter fun x => x.misses < s.scan.settings.ageLimit)).scan
    ∧ t.plan = { s.plan with gen := s.plan.gen + BitVec.ofNat 16 old.length }
    ∧ t.links = s.links ∧ t.engine = s.engine ∧ t.retuneQueue = s.retuneQueue ∧ t.unit = s.unit ∧ t.contexts = s.contexts
    ∧ t.timing = s.timing ∧ t.tally = s.tally ∧ t.mixer = s.mixer ∧ t.monitors = s.monitors ∧ t.dport = s.dport
    ∧ (old = [] → t = left aged)
    ∧ (∀ (before after : List Foreign) (x : Foreign), aged = before ++ x :: after → old = [x] → s.scan.settings.ageLimit ≤ x.misses →
        t = (left (before ++ after)).raise .foreignGone (BitVec.ofNat 8 before.length) (u32 x.freq ++ s8 x.peak ++ u8 1 ++ half x.lastSeen))
    ∧ (t.scan.inserted < 256 → t.scan.removed < 256 →
      let u : State := t.raise .scanDone 0 (half s.scan.number ++ u8 s.scan.done ++ u8 s.scan.failed ++ u8 t.scan.foreign.length
        ++ u8 t.scan.inserted ++ u8 t.scan.removed)
      let idle : State := { u with scan := { u.scan with state := .idle } }
      (s.scan.settings.mode = .loop → s.agent.quiesce = .running → s.hasSegments = true → s.endScan = idle.beginScan)
      ∧ (s.scan.settings.mode = .loop → s.agent.quiesce = .running → s.hasSegments = false → s.endScan = idle)
      ∧ (s.scan.settings.mode ≠ .loop → s.agent.quiesce ≠ .quiescing → s.endScan = idle)
      ∧ (s.agent.quiesce = .quiesced → s.endScan = idle)
      ∧ (s.agent.quiesce = .quiescing → s.endScan = idle.testDrain)))

/-! ### The tally processor (09) -/

/-- TALLY_CELL (R153, R165): the pending set keeps its entries in mode Delta and starts from all OFF in mode Complete; a source that the
cell names takes its last entry's state, any other keeps the base; the count is 0, and a stale condition ends with TALLY_RESUMED.
An application (R157, R158, R159, R161): the pending set, the written map, the written lamp modes and the always_live flags come into
effect; a link is live while a source in PROGRAM or BOTH lists it or it is always live; and a lamp line is lit while a source in a state
of its mode has the line in its set.
TALLY_TIMEOUT (R164, R165): with no TALLY cell for as many frame events as the timeout, the processor becomes stale with TALLY_STALE;
HOLD keeps the lamps and displays as the applied set gives them, and DARK turns them off. The links and the applied set are left as
they were.
A change of one link's live flag (R87, R116, R158) is told to its queue entry, whose held flag is evaluated, and to the context that serves
it, for which it is a live change when it makes the link live and the context is not exempt.
A camera record (R160 to R163): a wanted display that differs from the target becomes the target and is sent by TALLY_SET, or latched
behind the transaction in progress. At the transaction's end DONE makes the sent display the delivered one, and any other condition marks
the record unconfirmed with TALLY_UNDELIVERED; a latch that differs from the delivered display is then sent. The end of a transaction to a
unit that is no longer the camera's sends the known target anew, and one of a record out of use changes nothing more. A START from the
camera sends its known target when no transaction is in progress.
The due list of the timeout is the model's choice (log 4), and the ended slot FREE before the next is asked for its reading (log 18). That
the stale count, which TALLY_RESUMED carries, is 1 at the frame event that begins the condition is the model's choice (log 14); the count
from 65,536 on is left out. -/
def Obligations.TallyIsTakenAppliedAndStale : Prop :=
  (∀ (s : State) (c : Cell) (n : Nat), s.due = [] → s.pins.reset = false → integral c = true → c.kind = 2 →
    n = u8At (cellData c) 0 % 32 → n ≤ 24 → c.len.toNat = 1 + n + (n + 3) / 4 →
    let data := cellData c
    let source (j : Nat) := u8At data (1 + j)
    ∃ set : Vector TallyState 64,
      (∀ i : Fin 64, (∀ j : Nat, j < n → source j ≠ i.val + 1) →
        set[i] = if flagAt data 0 7 then s.tally.pendingSet[i] else .off)
      ∧ (∀ (i : Fin 64) (j : Nat), j < n → source j = i.val + 1 → (∀ k : Nat, j < k → k < n → source k ≠ i.val + 1) →
        set[i].code = u8At data (n + 1 + j / 4) / 4 ^ (3 - j % 4) % 4)
      ∧ (s.tally.stale = false → exec (.tallyCell c) s = .next
          { s with tally := { s.tally with pendingSet := set, count := 0 } })
      ∧ (s.tally.stale = true → s.tally.staleFrames < 65536 → exec (.tallyCell c) s = .next
          (State.raise { s with tally := { s.tally with pendingSet := set, count := 0, stale := false } }
            .tallyResumed 0 (u16 s.tally.staleFrames))))
  ∧ ((∀ s : State,
    let t := s.applyTally
    t.tally.applied = s.tally.pendingSet ∧ t.tally.inEffect = s.tally.written ∧ t.tally.written = s.tally.written
    ∧ (∀ l : LinkId, t.links[l].always = s.links[l].flags.alwaysLive)
    ∧ (∀ l : LinkId, t.links[l].live = true ↔ s.links[l].flags.alwaysLive = true ∨
        ∃ i : Fin 64, (s.tally.pendingSet[i] = .program ∨ s.tally.pendingSet[i] = .both) ∧ l ∈ s.tally.written[i].links)
    ∧ (∀ n : Fin 16, t.tally.lamps[n].written = s.tally.lamps[n].written ∧ t.tally.lamps[n].inEffect = s.tally.lamps[n].written
        ∧ (t.tally.lamps[n].on = true ↔ ∃ i : Fin 64, s.tally.written[i].lamps.getLsbD n.val = true ∧
          match s.tally.lamps[n].written with
          | .program => s.tally.pendingSet[i] = .program ∨ s.tally.pendingSet[i] = .both
          | .preview => s.tally.pendingSet[i] = .preview ∨ s.tally.pendingSet[i] = .both
          | .either => s.tally.pendingSet[i] ≠ .off)))
  ∧ (∀ s : State, .tallyTimeout ∈ s.due → s.tally.stale = false → s.tally.timeout ≤ s.tally.count →
    ∃ t : State, exec .tallyTimeout s = .next t ∧ t.tally.stale = true ∧ t.tally.staleFrames = 1
      ∧ t.tally.applied = s.tally.applied ∧ t.tally.pendingSet = s.tally.pendingSet ∧ t.tally.inEffect = s.tally.inEffect
      ∧ t.tally.written = s.tally.written ∧ t.tally.count = s.tally.count ∧ t.links = s.links ∧ t.plan = s.plan ∧ t.mixer = s.mixer
      ∧ t.agent.flags.tally = s.agent.flags.tally ||| 1
      ∧ (∀ n : Fin 16, t.tally.lamps[n].on = match s.tally.action with
          | .hold => s.tally.lit n
          | .dark => false)
      ∧ (∀ l : LinkId, s.links[l].kind = .camera → s.links[l].state ≠ .unused →
          t.tally.cameras[l].wanted = match s.tally.action with
            | .hold => s.tally.display l
            | .dark => .off)))
  ∧ (∀ (s : State) (l : LinkId),
    let live := s.tally.liveByTally l || s.links[l].always
    let told : State := { s with
      links := put s.links l { s.links[l] with live }
      retuneQueue := s.retuneQueue.map fun e => if e.link = l then
        { e with held := live && !e.force && !(e.reason == .fade && s.links[l].flags.switchWhenLive) } else e }
    (s.tally.liveByTally l = true ↔ ∃ i : Fin 64, (s.tally.applied[i] = .program ∨ s.tally.applied[i] = .both)
        ∧ l ∈ s.tally.inEffect[i].links)
    ∧ (live = s.links[l].live → s.workLive l = s)
    ∧ (live ≠ s.links[l].live → s.serving l = none → s.workLive l = told)
    ∧ (∀ k : ContextId, live ≠ s.links[l].live → s.serving l = some k →
        s.workLive l = if live = true ∧ s.exempt k = false then told.liveChange k else told))
  ∧ (∀ (s : State) (l : LinkId),
    let c := s.tally.cameras[l]
    let camera (t : State) (y : Camera) : State := { t with tally := { t.tally with cameras := put t.tally.cameras l y } }
    let start (t : State) (y : Camera) (d : Display) : State := (camera t { y with busy := true, sent := d }).askSlot
      { owner := .tally l, unit := s.links[l].portable, command := [0x05, BitVec.ofNat 8 d.code] }
    let known (x : Option Display) (f : Display → State) (t : State) : State := match x with
      | some d => f d
      | none => t
    let inUse := s.links[l].kind = .camera ∧ s.links[l].state ≠ .unused
    (∀ d : Display,
      (c.target = some d → s.setWanted l d = camera s { c with wanted := d })
      ∧ (c.target ≠ some d → c.busy = false → s.setWanted l d = start s { c with wanted := d, target := some d } d)
      ∧ (c.target ≠ some d → c.busy = true → s.setWanted l d = camera s { c with wanted := d, target := some d, latched := some d }))
    ∧ (∀ (i : SlotId) (cond : Condition) (data : List Byte), s.unit.slots[i].owner = some (.tally l) →
      let freed : State := { s with unit := { s.unit with slots := put s.unit.slots i {} } }
      let ended : Camera := { c with busy := false, latched := none }
      let ours := s.unit.slots[i].unit = s.links[l].portable
      (¬ inUse → s.endSlot i cond data = camera freed ended)
      ∧ (inUse → ¬ ours → s.endSlot i cond data = known c.target (start freed ended) (camera freed ended))
      ∧ (inUse → ours → cond = .done →
        let y : Camera := { ended with delivered := some c.sent, unconfirmed := false }
        (c.latched = none ∨ c.latched = some c.sent → s.endSlot i cond data = camera freed y)
        ∧ (∀ d : Display, c.latched = some d → d ≠ c.sent → s.endSlot i cond data = start freed y d))
      ∧ (inUse → ours → cond ≠ .done →
        let y : Camera := { ended with unconfirmed := true }
        let t := (camera freed y).raise .tallyUndelivered (linkByte l) (u8 c.sent.code ++ u8 cond.code ++ [s.links[l].portable])
        (c.latched = none ∨ c.latched = c.delivered → s.endSlot i cond data = t)
        ∧ (∀ d : Display, c.latched = some d → c.delivered ≠ some d → s.endSlot i cond data = start t y d)))
    ∧ (inUse → (∀ m : LinkId, m ≠ l → s.links[m].kind = .camera → s.links[m].state ≠ .unused →
          s.links[m].portable ≠ s.links[l].portable) →
        (c.busy = true → s.tallyUnitStart s.links[l].portable = s)
        ∧ (c.busy = false → s.tallyUnitStart s.links[l].portable = known c.target (start s c) s)))
  ∧ (∀ (s : State) (u : Byte), (∀ l : LinkId, s.links[l].kind = .camera → s.links[l].state ≠ .unused → s.links[l].portable ≠ u) →
      s.tallyUnitStart u = s)

/-- TALLY_MAP_READ, TALLY_MAP_WRITE, LAMP_LINE_READ and LAMP_LINE_WRITE (R154, R155): a map entry is returned with whether it waits for
the next application, and stored from at most four different links, the lamp line set and an output mix; a lamp line is returned with
its two modes and its level, and its written mode is stored. BAD_INDEX outside the tables, and BAD_VALUE for a link, an output mix or a
mode that is none.
That an accepted write's OK reply carries no data is the model's reading (log 12). -/
def Obligations.TallyMapAndLampsByRequest : Prop :=
  ∀ (s : State) (r : Request), s.Takes r →
    (r.code = 0x1E → 1 ≤ r.args.length → (u8At r.args 0 = 0 ∨ 64 < u8At r.args 0) →
      exec .tallyMapRead s = .next (s.answer r .badIndex []))
    ∧ (r.code = 0x1F → 5 + u8At r.args 1 ≤ r.args.length → (u8At r.args 0 = 0 ∨ 64 < u8At r.args 0) →
      exec .tallyMapWrite s = .next (s.answer r .badIndex []))
    ∧ (r.code = 0x20 → 1 ≤ r.args.length → 16 ≤ u8At r.args 0 → exec .lampLineRead s = .next (s.answer r .badIndex []))
    ∧ (r.code = 0x21 → 2 ≤ r.args.length → 16 ≤ u8At r.args 0 → exec .lampLineWrite s = .next (s.answer r .badIndex []))
    ∧ (∀ i : Fin 64, u8At r.args 0 = i.val + 1 →
      let e := s.tally.written[i]
      let n := u8At r.args 1
      let mix := u8At r.args (4 + n)
      let bad := 4 < n ∨ (∃ j : Nat, j < n ∧ 80 ≤ u8At r.args (2 + j))
        ∨ (∃ j k : Nat, j < k ∧ k < n ∧ u8At r.args (2 + j) = u8At r.args (2 + k)) ∨ (32 ≤ mix ∧ mix ≠ 255)
      (r.code = 0x1E → 1 ≤ r.args.length → exec .tallyMapRead s = .next (s.answer r .ok
        (u8 e.links.length ++ e.links.map linkByte ++ half e.lamps ++ [indexByte e.mix]
          ++ u8 (if e = s.tally.inEffect[i] then 0 else 1))))
      ∧ (r.code = 0x1F → 5 + n ≤ r.args.length → bad → exec .tallyMapWrite s = .next (s.answer r .badValue []))
      ∧ (∀ (ls : List LinkId) (o : Option (Fin 32)), r.code = 0x1F → 5 + n ≤ r.args.length → ¬ bad →
        ls.map (·.val) = (List.range n).map (fun j => u8At r.args (2 + j)) → byteAt r.args (4 + n) = indexByte o →
        let w : MapEntry := { links := ls, lamps := BitVec.ofNat 16 (u16At r.args (2 + n)), mix := o }
        exec .tallyMapWrite s = .next (State.answer { s with tally := { s.tally with written := put s.tally.written i w } } r .ok [])))
    ∧ (∀ n : Fin 16, u8At r.args 0 = n.val →
      let x := s.tally.lamps[n]
      (r.code = 0x20 → 1 ≤ r.args.length → exec .lampLineRead s = .next (s.answer r .ok
        (u8 x.written.code ++ u8 x.inEffect.code ++ u8 x.on.toNat)))
      ∧ (r.code = 0x21 → 2 ≤ r.args.length → 3 ≤ u8At r.args 1 → exec .lampLineWrite s = .next (s.answer r .badValue []))
      ∧ (∀ m : LampMode, r.code = 0x21 → 2 ≤ r.args.length → u8At r.args 1 = m.code → exec .lampLineWrite s = .next
          (State.answer { s with tally := { s.tally with lamps := put s.tally.lamps n { x with written := m } } } r .ok [])))

/-! ### The talkback mixer (10) -/

/-- AUDIO_CELL (R172, R173, R176): a cell that matches no enabled input is dropped. Of the input that it matches, the last sequence becomes
the cell's, with SEQ_GAP when it does not follow the one before; its block joins the tail of the buffer, a full buffer giving up its
oldest block with OVERFLOW; and play starts once half the area is filled. Each notice is raised when its flag becomes set; a block that is
out of sequence and meets a full buffer raises SEQ_GAP and then OVERFLOW. -/
def Obligations.AudioBlockIsBuffered : Prop :=
  ∀ (s : State) (p : Port) (c : Cell), s.due = [] → s.pins.reset = false → integral c = true → c.kind = 3 → c.dest = 0 → c.len = 34 →
    let data := cellData c
    let hears (i : Fin 32) := s.mixer.inputs[i].enabled = true ∧ s.mixer.inputs[i].port = p
      ∧ s.mixer.inputs[i].chan = u8At data 0 % 4 ∧ (p = .u ∨ s.mixer.inputs[i].addr = c.src)
    ((∀ i : Fin 32, ¬ hears i) → exec (.audioCell p c) s = .next s)
    ∧ (∀ i : Fin 32, hears i → (∀ j : Fin 32, j < i → ¬ hears j) →
      let x := s.mixer.inputs[i]
      let block : Block := { samples := Vector.ofFn fun k => BitVec.ofNat 16 (u16At data (2 + 2 * k.val)), talk := flagAt data 0 7 }
      let follows := ∀ last : Byte, x.lastSeq = some last → byteAt data 1 = last + 1
      let room := x.buffer.length < x.area
      let buffer := (if room then x.buffer else x.buffer.drop 1) ++ [block]
      let y : Input := { x with lastSeq := some (byteAt data 1), buffer
                                state := if x.state = .buffering ∧ (x.area + 1) / 2 ≤ buffer.length then .playing else x.state }
      let kept (t : State) (z : Input) : State := { t with mixer := { s.mixer with inputs := put s.mixer.inputs i z } }
      (follows → room → exec (.audioCell p c) s = .next (kept s y))
      ∧ (∀ last : Byte, x.lastSeq = some last → byteAt data 1 ≠ last + 1 → x.seqGap = false → room →
          exec (.audioCell p c) s = .next (kept (s.raise .seqGap (BitVec.ofNat 8 i.val) [last + 1, byteAt data 1]) { y with seqGap := true }))
      ∧ (¬ follows → x.seqGap = true → room → exec (.audioCell p c) s = .next (kept s y))
      ∧ (follows → ¬ room → x.overflow = false → exec (.audioCell p c) s = .next
          (kept (s.raise .overflow (BitVec.ofNat 8 i.val) (u8 x.area)) { y with overflow := true }))
      ∧ (follows → ¬ room → x.overflow = true → exec (.audioCell p c) s = .next (kept s y))
      ∧ (∀ last : Byte, x.lastSeq = some last → byteAt data 1 ≠ last + 1 → ¬ room →
        let gap (t : State) : State :=
          if x.seqGap = true then t else t.raise .seqGap (BitVec.ofNat 8 i.val) [last + 1, byteAt data 1]
        let full (t : State) : State := if x.overflow = true then t else t.raise .overflow (BitVec.ofNat 8 i.val) (u8 x.area)
        exec (.audioCell p c) s = .next (kept (full (gap s)) { y with seqGap := true, overflow := true })))

/-- BLOCK_TIMER_EXPIRY (R169, R174 to R177, R180 to R182). The mute condition of an enabled input is that its linked link is FADED, LOST,
RETUNING or ASSIGNING; it makes the input MUTED, and its end BUFFERING, or PLAYING with half the area filled. Then each enabled input
gives its block by its state: PLAYING and CONCEALING the oldest block, PLAYING with an empty buffer the last one again with UNDERRUN, and
silence otherwise; a block with its talk flag clear is silence. Each sample of an enabled output is the sum of those of the enabled inputs
with an ON crosspoint to it, by the coefficients of their steps, which a dim amount raises while the output is dimmed, to at most 127;
the sum plus 16,384 is divided by 32,768 toward minus infinity and held in the range of 16 bits. A sample out of that range sets CLIP.
The sequence rises, and the AUDIO cells join their port's audio queue in ascending output index, as many as it has room for; for each
other one AUDIO_DROP is raised for the port. UNDERRUN and CLIP are raised when their flag becomes set. The disabled inputs and outputs, the
crosspoints and every other part of the state are left alone. While the timer stands there is no expiry.
The order of the notices of one expiry is the model's choice (log 6); where there is no expiry nothing changes (log 1). -/
def Obligations.BlockTimerMixes : Prop :=
  ∀ s : State, s.due = [] →
    let muted (i : Fin 32) := ∃ l : LinkId, s.mixer.inputs[i].link = some l ∧
      (s.links[l].state = .faded ∨ s.links[l].state = .lost ∨ s.links[l].state = .retuning ∨ s.links[l].state = .assigning)
    let spoken (b : Block) : Block := if b.talk then b else { samples := Vector.replicate 16 0, talk := false }
    let silence : Block := { samples := Vector.replicate 16 0, talk := false }
    let row (x : Input) (st : InputState) : Block × Input := match st, x.buffer with
      | .playing, b :: rest => (spoken b, { x with state := .playing, buffer := rest, lastPlayed := b })
      | .playing, [] => (spoken x.lastPlayed, { x with state := .concealing, underrun := true })
      | .concealing, b :: rest => (spoken b, { x with state := .playing, buffer := rest, lastPlayed := b })
      | .concealing, [] => (silence, { x with state := .buffering })
      | .muted, _ :: rest => (silence, { x with state := .muted, buffer := rest })
      | st, _ => (silence, { x with state := st })
    (s.blockTimerRuns = false → exec .blockTimerExpiry s = .next s)
    ∧ (s.blockTimerRuns = true → s.uport.audio.length ≤ 16 → s.dport.audio.length ≤ 16 →
      ∃ (t : State) (given : Fin 32 → Block) (mixed : Fin 32 → Fin 16 → Int) (cell : Fin 32 → Cell),
      exec .blockTimerExpiry s = .next t
      ∧ (∀ i : Fin 32, s.mixer.inputs[i].enabled = false → given i = silence ∧ t.mixer.inputs[i] = s.mixer.inputs[i])
      ∧ (∀ i : Fin 32, s.mixer.inputs[i].enabled = true →
        let x := s.mixer.inputs[i]
        (muted i → (given i, t.mixer.inputs[i]) = row x .muted)
        ∧ (¬ muted i → x.state ≠ .muted → (given i, t.mixer.inputs[i]) = row x x.state)
        ∧ (¬ muted i → x.state = .muted → (given i, t.mixer.inputs[i]) =
            row x (if (x.area + 1) / 2 ≤ x.buffer.length then .playing else .buffering)))
      ∧ (∀ o : Fin 32, s.mixer.outputs[o].enabled = true →
        let out := s.mixer.outputs[o]
        let heard (i : Fin 32) : Bool := s.mixer.inputs[i].enabled && s.mixer.crosspoints[i][o].on
        let dimmed := ∃ k : Fin 64, s.tally.inEffect[k].mix = some o ∧ (s.tally.applied[k] = .program ∨ s.tally.applied[k] = .both)
        (∃ step : Fin 32 → Nat,
          (∀ i : Fin 32, let x := s.mixer.crosspoints[i][o]
            (x.dimWhenLive = true ∧ dimmed → step i = min 127 (x.gain + out.dim))
            ∧ (¬ (x.dimWhenLive = true ∧ dimmed) → step i = min 127 x.gain))
          ∧ ∀ k : Fin 16, mixed o k = Int.fdiv ((((List.finRange 32).filter heard).map fun i =>
              BitVec.toInt (given i).samples[k] * (coefficient (step i) : Int)).sum + 16384) 32768)
        ∧ (cell o).kind = 3 ∧ (cell o).dest = out.addr ∧ (cell o).src = 0 ∧ (cell o).len = 34 ∧ integral (cell o) = true
        ∧ (let talk := (List.finRange 32).any fun i => heard i && (given i).talk
           byteAt (cellData (cell o)) 0 = BitVec.ofNat 8 ((if talk then 128 else 0) + out.chan))
        ∧ byteAt (cellData (cell o)) 1 = out.seq
        ∧ (∀ k : Fin 16, BitVec.toInt (BitVec.ofNat 16 (u16At (cellData (cell o)) (2 + 2 * k.val))) =
            max (-32768) (min 32767 (mixed o k)))
        ∧ t.mixer.outputs[o] = { out with
            seq := out.seq + 1, clip := out.clip || decide (∃ k : Fin 16, mixed o k < -32768 ∨ 32767 < mixed o k) })
      ∧ (∀ o : Fin 32, s.mixer.outputs[o].enabled = false → t.mixer.outputs[o] = s.mixer.outputs[o])
      ∧ (let sent (p : Port) : List Cell :=
          ((List.finRange 32).filter fun o => s.mixer.outputs[o].enabled && s.mixer.outputs[o].port == p).map cell
        t.uport.audio = (s.uport.audio ++ sent .u).take 16 ∧ t.dport.audio = (s.dport.audio ++ sent .d).take 16)
      ∧ (let full (o : Fin 32) : Bool :=
          let waiting := match s.mixer.outputs[o].port with
            | .u => s.uport.audio.length
            | .d => s.dport.audio.length
          decide (16 ≤ waiting + ((List.finRange 32).filter fun q =>
            decide (q < o) && s.mixer.outputs[q].enabled && s.mixer.outputs[q].port == s.mixer.outputs[o].port).length)
        let saturated (o : Fin 32) : Nat := ((List.finRange 16).filter fun k => decide (mixed o k < -32768 ∨ 32767 < mixed o k)).length
        let ofInput (i : Fin 32) : List (Notice × Byte × List Byte) :=
          if s.mixer.inputs[i].underrun = false ∧ t.mixer.inputs[i].underrun = true then
            [(.underrun, BitVec.ofNat 8 i.val, u8 s.mixer.inputs[i].area)]
          else []
        let ofOutput (o : Fin 32) : List (Notice × Byte × List Byte) :=
          if s.mixer.outputs[o].enabled = false then []
          else (if s.mixer.outputs[o].clip = false ∧ saturated o ≠ 0 then [(.clip, BitVec.ofNat 8 o.val, u8 (saturated o))] else [])
            ++ (if full o then [(.audioDrop, BitVec.ofNat 8 (portCode s.mixer.outputs[o].port), [])] else [])
        let told : State := ((List.finRange 32).flatMap ofInput ++ (List.finRange 32).flatMap ofOutput).foldl
          (fun u n => u.raise n.1 n.2.1 n.2.2) s
        t = { told with
          uport := { told.uport with audio := t.uport.audio }
          dport := { s.dport with audio := t.dport.audio }
          mixer := { s.mixer with inputs := t.mixer.inputs, outputs := t.mixer.outputs } }))

/-- The coefficient of a step e, 0-127, is the integer nearest to 32,767 × 10^(−e/40) (R179): both sides are raised to the 40th power, so
that the statement is one of whole numbers. The mixer takes it from a table of 128 entries. -/
def Obligations.CoefficientIsNearestInteger : Prop :=
  (∀ e : Nat, e < 128 →
    (2 * coefficient e - 1) ^ 40 * 10 ^ e ≤ 65534 ^ 40 ∧ 65534 ^ 40 ≤ (2 * coefficient e + 1) ^ 40 * 10 ^ e ∧ 0 < coefficient e)
  ∧ (coefficients0 ++ coefficients1 ++ coefficients2 ++ coefficients3).length = 128
  ∧ ∀ e : Nat, e < 128 → (coefficients0 ++ coefficients1 ++ coefficients2 ++ coefficients3)[e]? = some (coefficient e)

/-- INPUT_READ and INPUT_WRITE (R170, R171): a write with its area clamped is refused BAD_INDEX, BAD_VALUE, BUSY, DUPLICATE or NO_SPACE, in
that order, and else stored by the enabled flag before and after it, the reply carrying the six fields as stored; a read returns the
input and then clears the flags asked for.
That a write's reply carries those six alone is the model's reading (log 32), and that a write which disables an input stores its linked
link is its choice (log 40), as is that the unused bits of the enabled byte are ignored and read back clear (log 33). The byte of a last sequence that is unknown is a free value (log 41). -/
def Obligations.InputsByRequest : Prop :=
  ∀ (s : State) (r : Request), s.Takes r →
    let written (x : Input) : List Byte := u8 x.enabled.toNat ++ u8 (portCode x.port) ++ [x.addr] ++ u8 x.chan ++ u8 x.area ++ [indexByte x.link]
    (r.code = 0x22 → 2 ≤ r.args.length → 32 ≤ u8At r.args 0 → exec .inputRead s = .next (s.answer r .badIndex []))
    ∧ (r.code = 0x23 → 7 ≤ r.args.length → 32 ≤ u8At r.args 0 → exec .inputWrite s = .next (s.answer r .badIndex []))
    ∧ (∀ i : Fin 32, u8At r.args 0 = i.val →
      let x := s.mixer.inputs[i]
      let stored (t : State) (y : Input) : State := { t with mixer := { t.mixer with inputs := put t.mixer.inputs i y } }
      (r.code = 0x22 → 2 ≤ r.args.length → ∃ last : Byte, (∀ n : Byte, x.lastSeq = some n → last = n) ∧ exec .inputRead s = .next (State.answer
        (stored s { x with underrun := x.underrun && !flagAt r.args 1 0, overflow := x.overflow && !flagAt r.args 1 1
                           seqGap := x.seqGap && !flagAt r.args 1 2 }) r .ok
        (written x ++ u8 x.state.code ++ u8 x.buffer.length ++ [last] ++ u8 x.lastSeq.isSome.toNat
          ++ u8 (x.underrun.toNat + 2 * x.overflow.toNat + 4 * x.seqGap.toNat))))
      ∧ (r.code = 0x23 → 7 ≤ r.args.length →
        (1 < u8At r.args 2 ∨ 3 < u8At r.args 4 ∨ (u8At r.args 2 = 0 ∧ u8At r.args 3 ≠ 0)
          ∨ (u8At r.args 2 = 1 ∧ isUnit (byteAt r.args 3) = false) ∨ (80 ≤ u8At r.args 6 ∧ u8At r.args 6 ≠ 255)) →
        exec .inputWrite s = .next (s.answer r .badValue []))
      ∧ (∀ (port : Port) (link : Option LinkId), r.code = 0x23 → 7 ≤ r.args.length → u8At r.args 2 = portCode port →
        u8At r.args 4 ≤ 3 → (port = .u → u8At r.args 3 = 0) → (port = .d → isUnit (byteAt r.args 3) = true) →
        byteAt r.args 6 = indexByte link →
        let on := flagAt r.args 1 0
        let area := max 2 (min 32 (u8At r.args 5))
        let moves := x.port ≠ port ∨ x.addr ≠ byteAt r.args 3 ∨ x.chan ≠ u8At r.args 4 ∨ x.area ≠ area
        let clash := ∃ j : Fin 32, j ≠ i ∧ s.mixer.inputs[j].enabled = true ∧ s.mixer.inputs[j].port = port
          ∧ s.mixer.inputs[j].addr = byteAt r.args 3 ∧ s.mixer.inputs[j].chan = u8At r.args 4
        let fresh : Input := { enabled := on, port, addr := byteAt r.args 3, chan := u8At r.args 4, area, link
                               state := if on then .buffering else .disabled }
        (x.enabled = true → moves → exec .inputWrite s = .next (s.answer r .busy []))
        ∧ (¬ (x.enabled = true ∧ moves) → on = true → clash → exec .inputWrite s = .next (s.answer r .duplicate []))
        ∧ (x.enabled = false → on = true → ¬ clash → 512 < s.mixer.owned + area →
            exec .inputWrite s = .next (s.answer r .noSpace []))
        ∧ (x.enabled = false → on = true → ¬ clash → s.mixer.owned + area ≤ 512 →
            exec .inputWrite s = .next ((stored s fresh).answer r .ok (written fresh)))
        ∧ (x.enabled = false → on = false →
            let y : Input := { x with port, addr := byteAt r.args 3, chan := u8At r.args 4, area, link }
            exec .inputWrite s = .next ((stored s y).answer r .ok (written y)))
        ∧ (x.enabled = true → ¬ moves → on = true → ¬ clash →
            exec .inputWrite s = .next ((stored s { x with link }).answer r .ok (written { x with link })))
        ∧ (x.enabled = true → ¬ moves → on = false →
            let y : Input := { fresh with underrun := x.underrun, overflow := x.overflow, seqGap := x.seqGap }
            exec .inputWrite s = .next ((stored s y).answer r .ok (written y)))))

/-- OUTPUT_READ, OUTPUT_WRITE, CROSSPOINT_READ and CROSSPOINT_WRITE (R177, R178): the fields as stored are returned and written, the dim
amount clamped to 60 and the gain step to 127; enabling an output restarts its sequence and clears CLIP; an output read clears CLIP where
asked. BAD_INDEX outside the tables and BAD_VALUE for a port, address or channel that is none. ON is code 0 and OFF code 1, and a code
above 1 is BAD_VALUE (the model's choices, log 10 and log 11). That an output write's reply carries the five written fields alone is its
reading (log 32), and that the unused bits of the enabled and dim_when_live bytes are ignored and read back clear its choice (log 33). -/
def Obligations.OutputsAndCrosspointsByRequest : Prop :=
  ∀ (s : State) (r : Request), s.Takes r →
    let written (x : Output) : List Byte := u8 x.enabled.toNat ++ u8 (portCode x.port) ++ [x.addr] ++ u8 x.chan ++ u8 x.dim
    let entry (x : Crosspoint) : List Byte := u8 (if x.on then 0 else 1) ++ u8 x.gain ++ u8 x.dimWhenLive.toNat
    (r.code = 0x24 → 2 ≤ r.args.length → 32 ≤ u8At r.args 0 → exec .outputRead s = .next (s.answer r .badIndex []))
    ∧ (r.code = 0x25 → 6 ≤ r.args.length → 32 ≤ u8At r.args 0 → exec .outputWrite s = .next (s.answer r .badIndex []))
    ∧ (r.code = 0x26 → 2 ≤ r.args.length → (32 ≤ u8At r.args 0 ∨ 32 ≤ u8At r.args 1) →
      exec .crosspointRead s = .next (s.answer r .badIndex []))
    ∧ (r.code = 0x27 → 5 ≤ r.args.length → (32 ≤ u8At r.args 0 ∨ 32 ≤ u8At r.args 1) →
      exec .crosspointWrite s = .next (s.answer r .badIndex []))
    ∧ (∀ o : Fin 32, u8At r.args 0 = o.val →
      let x := s.mixer.outputs[o]
      let stored (y : Output) : State := { s with mixer := { s.mixer with outputs := put s.mixer.outputs o y } }
      (r.code = 0x24 → 2 ≤ r.args.length → exec .outputRead s = .next
        ((stored { x with clip := x.clip && !flagAt r.args 1 0 }).answer r .ok (written x ++ [x.seq] ++ u8 x.clip.toNat)))
      ∧ (r.code = 0x25 → 6 ≤ r.args.length → (1 < u8At r.args 2 ∨ u8At r.args 3 = 0 ∨ u8At r.args 3 = 255 ∨ 3 < u8At r.args 4) →
        exec .outputWrite s = .next (s.answer r .badValue []))
      ∧ (∀ port : Port, r.code = 0x25 → 6 ≤ r.args.length → u8At r.args 2 = portCode port → u8At r.args 3 ≠ 0 → u8At r.args 3 ≠ 255 →
        u8At r.args 4 ≤ 3 →
        let on := flagAt r.args 1 0
        let y : Output := { enabled := on, port, addr := byteAt r.args 3, chan := u8At r.args 4, dim := min 60 (u8At r.args 5)
                            seq := if x.enabled = false ∧ on = true then 0 else x.seq
                            clip := if x.enabled = false ∧ on = true then false else x.clip }
        exec .outputWrite s = .next ((stored y).answer r .ok (written y))))
    ∧ (∀ i o : Fin 32, u8At r.args 0 = i.val → u8At r.args 1 = o.val →
      (r.code = 0x26 → 2 ≤ r.args.length → exec .crosspointRead s = .next (s.answer r .ok (entry s.mixer.crosspoints[i][o])))
      ∧ (r.code = 0x27 → 5 ≤ r.args.length → 1 < u8At r.args 2 → exec .crosspointWrite s = .next (s.answer r .badValue []))
      ∧ (r.code = 0x27 → 5 ≤ r.args.length → u8At r.args 2 ≤ 1 →
        let y : Crosspoint := { on := u8At r.args 2 == 0, gain := min 127 (u8At r.args 3), dimWhenLive := flagAt r.args 4 0 }
        exec .crosspointWrite s = .next (State.answer { s with mixer := { s.mixer with
          crosspoints := put s.mixer.crosspoints i (put s.mixer.crosspoints[i] o y) } } r .ok (entry y))))

/-! ### Settings (11 section 11.1) -/

/-- CONFIG_READ and the twenty-two CONFIG writes (R189): a read returns the items asked for in order, as many whole ones as fit in 45
bytes, or BAD_INDEX for an identifier that is none. A write is judged item by item; the first refusal is the reply, with the refused
identifier, and nothing is stored; otherwise every item is stored, one after the other, and the reply carries the items as stored. An
item is its identifier and its value, of 4, 2 or 1 bytes by the table. An identifier that is none is BAD_INDEX, one named before in the
write BAD_VALUE, and any other item is judged as in a write of its own; but two sweep receivers named in one write are judged by the
addresses both would hold (R141), and which of the two items the clash refuses first is a free value (log 9).
A write is a command of each row whose setting it names (log 3), a read ends at the first item that does not fit (log 28), and behind an
identifier that is none each item counts as one byte at least (log 44). -/
def Obligations.ConfigIsReadAndWritten : Prop :=
  (let size (id : Nat) : Nat := if id ∈ [4, 5, 6, 7, 8, 9, 19] then 4 else if id = 15 then 2 else 1
    let written (items : List ConfigItem) : List Byte := items.flatMap fun x => u8 x.id ++ x.value
    ∀ items : List ConfigItem, (∀ x ∈ items, 1 ≤ x.id ∧ x.id ≤ 22 ∧ x.value.length = size x.id) →
      (∀ extra : List Byte, items.length ≤ 255 → configItems (u8 items.length ++ written items ++ extra) = some items)
      ∧ (∀ (more : Nat) (b : Byte) (rest : List Byte), items.length + 1 + more ≤ 255 → b = 0 ∨ 22 < b.toNat →
        configItems (u8 (items.length + 1 + more) ++ written items ++ b :: rest) =
          if rest.length < more then none else some (items ++ [{ id := b.toNat, value := [] }]))
      ∧ (∀ (more : Nat) (b : Byte) (rest : List Byte), items.length + 1 + more ≤ 255 → 1 ≤ b.toNat → b.toNat ≤ 22 →
        rest.length < size b.toNat → configItems (u8 (items.length + 1 + more) ++ written items ++ b :: rest) = none)
      ∧ (∀ more : Nat, items.length + 1 + more ≤ 255 → configItems (u8 (items.length + 1 + more) ++ written items) = none))
  ∧ (∀ s : State,
    s.itemBytes 1 = [1] ++ u8 s.timing.rate.code ∧ s.itemBytes 2 = [2] ++ u8 s.timing.autoRelock.toNat
    ∧ s.itemBytes 3 = [3] ++ u8 s.switchLead ∧ s.itemBytes 4 = [4] ++ u32 s.plan.settings.gNN
    ∧ s.itemBytes 5 = [5] ++ u32 s.plan.settings.gWW ∧ s.itemBytes 6 = [6] ++ u32 s.plan.settings.gNW
    ∧ s.itemBytes 7 = [7] ++ u32 s.plan.settings.w ∧ s.itemBytes 8 = [8] ++ u32 s.plan.settings.w3
    ∧ s.itemBytes 9 = [9] ++ u32 s.plan.settings.gF ∧ s.itemBytes 10 = [10] ++ u8 s.unit.answerTimeout
    ∧ s.itemBytes 11 = [11] ++ u8 s.confirmWindow ∧ s.itemBytes 12 = [12, s.scan.settings.recvA]
    ∧ s.itemBytes 13 = [13, s.scan.settings.recvB] ∧ s.itemBytes 14 = [14] ++ u8 s.scan.settings.mode.code
    ∧ s.itemBytes 15 = [15] ++ half s.scan.settings.triggerPeriod ∧ s.itemBytes 16 = [16] ++ u8 s.scan.settings.parallel.toNat
    ∧ s.itemBytes 17 = [17] ++ u8 s.scan.settings.segmentTimeout ∧ s.itemBytes 18 = [18] ++ s8 s.scan.settings.threshold
    ∧ s.itemBytes 19 = [19] ++ u32 s.scan.settings.mergeWidth ∧ s.itemBytes 20 = [20] ++ u8 s.scan.settings.ageLimit
    ∧ s.itemBytes 21 = [21] ++ u8 s.tally.timeout ∧ s.itemBytes 22 = [22] ++ u8 s.tally.action.code)
  ∧ (∀ (s : State) (items : List ConfigItem) (p : Nat) (x : ConfigItem), items[p]? = some x →
    let before := ∃ (q : Nat) (y : ConfigItem), q < p ∧ items[q]? = some y ∧ y.id = x.id
    ((x.id = 0 ∨ 22 < x.id) → s.judgeItem items p x = some .badIndex)
    ∧ (1 ≤ x.id → x.id ≤ 22 → before → s.judgeItem items p x = some .badValue)
    ∧ (¬ before → (x.id = 12 → ∀ y ∈ items, y.id ≠ 13) → (x.id = 13 → ∀ y ∈ items, y.id ≠ 12) →
        s.judgeItem items p x = s.judgeItem [x] 0 x))
  ∧ (∀ (s : State) (items : List ConfigItem) (p q : Nat) (x y : ConfigItem), items[p]? = some x → items[q]? = some y →
    x.id = 12 → y.id = 13 → (∀ (m : Nat) (z : ConfigItem), items[m]? = some z → (z.id = 12 → m = p) ∧ (z.id = 13 → m = q)) →
    let a := u8At x.value 0
    let b := u8At y.value 0
    let alone (n : Nat) : Option Result := if 239 < n then some .badValue else if s.scan.state = .scanning then some .busy else none
    ((a ≠ b ∨ a = 0) → s.judgeItem items p x = alone a ∧ s.judgeItem items q y = alone b)
    ∧ (a = b → a ≠ 0 → p < q → s.judgeItem items q y = some .badValue
        ∧ (s.judgeItem items p x = some .badValue ∨ s.judgeItem items p x = alone a))
    ∧ (a = b → a ≠ 0 → q < p → s.judgeItem items p x = some .badValue
        ∧ (s.judgeItem items q y = some .badValue ∨ s.judgeItem items q y = alone b)))
  ∧ (∀ (s : State) (x : ConfigItem) (items : List ConfigItem),
    s.storeItems [] = s ∧ s.storeItems (x :: items) = (s.storeItems [x]).storeItems items)
  ∧   (∀ (s : State) (r : Request) (ids : List Nat), s.Takes r → r.code = 0x28 → 1 + u8At r.args 0 ≤ r.args.length →
    ids = (List.range (u8At r.args 0)).map (fun i => u8At r.args (1 + i)) →
    ((∃ id ∈ ids, id = 0 ∨ 22 < id) → exec .configRead s = .next (s.answer r .badIndex []))
    ∧ ((∀ id ∈ ids, 1 ≤ id ∧ id ≤ 22) → ∃ k : Nat, k ≤ ids.length
        ∧ exec .configRead s = .next (s.answer r .ok ((ids.take k).flatMap s.itemBytes))
        ∧ ((ids.take k).flatMap s.itemBytes).length ≤ 45
        ∧ (k < ids.length → 45 < ((ids.take (k + 1)).flatMap s.itemBytes).length)))
  ∧ (∀ (s : State) (r : Request) (items : List ConfigItem) (row : Instr) (id : Nat), s.Takes r → r.code = 0x29 →
    configItems r.args = some items → (row, id) ∈ configRows → (∃ x ∈ items, x.id = id) →
    (s.firstRefusal items = none → exec row s = .next
      ((s.storeItems items).answer r .ok (items.flatMap fun x => (s.storeItems items).itemBytes x.id)))
    ∧ (∀ (res : Result) (n : Nat), s.firstRefusal items = some (res, n) → exec row s = .next (s.answer r res (u8 n))))
  ∧ (∀ (s : State) (items : List ConfigItem),
    (s.firstRefusal items = none ↔ ∀ (p : Nat) (x : ConfigItem), items[p]? = some x → s.judgeItem items p x = none)
    ∧ ∀ (p : Nat) (x : ConfigItem) (res : Result), items[p]? = some x → s.judgeItem items p x = some res →
      (∀ (q : Nat) (y : ConfigItem), q < p → items[q]? = some y → s.judgeItem items q y = none) →
      s.firstRefusal items = some (res, x.id))

/-- Each setting's judgement and storing in a write of that one item (R18, R20, R42, R43, R97, R106, R141, R164): codes out of range are
BAD_VALUE; the coordination settings are PLAN_IN_USE while a counted carrier other than a BLOCKED one exists, are rounded down to a
multiple of 25 kHz and clamped, and mark an attempt in progress stale; the sweep receivers and the layout are BUSY while SCANNING; the
merge width is BUSY when it would join two adjacent foreign entries; the others are clamped and never refused.
The order of a sweep receiver's refusals is the model's reading (log 28), and that of the layout's its choice (log 38). -/
def Obligations.SettingsAreJudgedAndStored : Prop :=
  ∀ (s : State) (v : List Byte),
    let b := u8At v 0
    let judged (id : Nat) : Option Result := s.judgeItem [{ id, value := v }] 0 { id, value := v }
    let stored (id : Nat) : State := s.storeItems [{ id, value := v }]
    let rounded (lo hi : Nat) : Nat := max lo (min hi (u32At v 0 / 25 * 25))
    let coord (g : CoordSettings) : State := { s with
      plan := { s.plan with settings := g }
      engine := { s.engine with run := s.engine.run.map fun x => { x with attempt := { x.attempt with stale := true } } } }
    let scan (g : ScanSettings) : State := { s with scan := { s.scan with settings := g } }
    let inUse := ∃ e : EntryId, s.plan.carriers[e].state ≠ .free ∧ s.plan.carriers[e].state ≠ .blocked
    (5 < b → judged 1 = some .badValue)
    ∧ (∀ rate : FrameRate, b = rate.code → judged 1 = none ∧ stored 1 = { s with timing := { s.timing with rate } })
    ∧ (1 < b → judged 2 = some .badValue)
    ∧ (b ≤ 1 → judged 2 = none ∧ stored 2 = { s with timing := { s.timing with autoRelock := b == 1 } })
    ∧ (judged 3 = none ∧ stored 3 = { s with switchLead := max 2 (min 50 b) })
    ∧ (∀ id : Nat, 4 ≤ id → id ≤ 9 → (inUse → judged id = some .planInUse) ∧ (¬ inUse → judged id = none))
    ∧ stored 4 = coord { s.plan.settings with gNN := rounded 0 1000 }
    ∧ stored 5 = coord { s.plan.settings with gWW := rounded 0 10000 }
    ∧ stored 6 = coord { s.plan.settings with gNW := rounded 0 10000 }
    ∧ stored 7 = coord { s.plan.settings with w := rounded 25 500 }
    ∧ stored 8 = coord { s.plan.settings with w3 := rounded 0 500 }
    ∧ stored 9 = coord { s.plan.settings with gF := rounded 25 1000 }
    ∧ (judged 10 = none ∧ stored 10 = { s with unit := { s.unit with answerTimeout := max 1 (min 15 b) } })
    ∧ (judged 11 = none ∧ stored 11 = { s with confirmWindow := max 2 (min 100 b) })
    ∧ ((239 < b ∨ (b = s.scan.settings.recvB.toNat ∧ b ≠ 0)) → judged 12 = some .badValue)
    ∧ ((239 < b ∨ (b = s.scan.settings.recvA.toNat ∧ b ≠ 0)) → judged 13 = some .badValue)
    ∧ (b ≤ 239 → (b ≠ s.scan.settings.recvB.toNat ∨ b = 0) → s.scan.state = .scanning → judged 12 = some .busy)
    ∧ (b ≤ 239 → (b ≠ s.scan.settings.recvA.toNat ∨ b = 0) → s.scan.state = .scanning → judged 13 = some .busy)
    ∧ (b ≤ 239 → (b ≠ s.scan.settings.recvB.toNat ∨ b = 0) → s.scan.state ≠ .scanning →
        judged 12 = none ∧ stored 12 = scan { s.scan.settings with recvA := byteAt v 0 })
    ∧ (b ≤ 239 → (b ≠ s.scan.settings.recvA.toNat ∨ b = 0) → s.scan.state ≠ .scanning →
        judged 13 = none ∧ stored 13 = scan { s.scan.settings with recvB := byteAt v 0 })
    ∧ (2 < b → judged 14 = some .badValue)
    ∧ (∀ mode : ScanMode, b = mode.code → judged 14 = none ∧ stored 14 = scan { s.scan.settings with mode })
    ∧ (judged 15 = none ∧ stored 15 = scan { s.scan.settings with triggerPeriod := BitVec.ofNat 16 (u16At v 0) })
    ∧ (1 < b → judged 16 = some .badValue)
    ∧ (b ≤ 1 → s.scan.state = .scanning → judged 16 = some .busy)
    ∧ (b ≤ 1 → s.scan.state ≠ .scanning → judged 16 = none ∧ stored 16 = scan { s.scan.settings with parallel := b == 1 })
    ∧ (judged 17 = none ∧ stored 17 = scan { s.scan.settings with segmentTimeout := max 1 (min 250 b) })
    ∧ (judged 18 = none ∧ stored 18 = scan { s.scan.settings with threshold := max (-127) (min 0 (s8At v 0)) })
    ∧ (let width := max 25 (min 500 (u32At v 0))
      let joins := ∃ (below above : List Foreign) (x y : Foreign),
        s.scan.foreign = below ++ x :: y :: above ∧ apart x.freq y.freq ≤ width
      (joins → judged 19 = some .busy) ∧ (¬ joins → judged 19 = none)
      ∧ stored 19 = scan { s.scan.settings with mergeWidth := width })
    ∧ (judged 20 = none ∧ stored 20 = scan { s.scan.settings with ageLimit := max 1 (min 15 b) })
    ∧ (judged 21 = none ∧ stored 21 = { s with tally := { s.tally with timeout := max 1 (min 250 b) } })
    ∧ (1 < b → judged 22 = some .badValue)
    ∧ (∀ action : StaleAction, b = action.code → judged 22 = none ∧ stored 22 = { s with tally := { s.tally with action } })

/-! ### The management agent (11) -/

/-- READ_STATUS, CLEAR_STATUS and REPORT_ENABLE (R190, R191, R192): BAD_INDEX for a group that is none, BAD_VALUE for a mask shorter
than the group's flags; each flag whose mask bit is one is cleared, and the reply carries the summary and the group's flags after the
clearing. A read gives the summary, the group's flags and its fields, those of each group in the order of R49, R91, R151, R166, R183 and
R190. A bit of the summary is set while any flag of its group is. The report enables are replaced; the bits for code 0 and above 2Eh are
ignored and stored clear (the storing is the model's choice, log 20); the records counted for TALLY are those of links of kind CAMERA
(log 26). That the LINK group's byte with bits 0-7 goes first is the model's reading (log 10). -/
def Obligations.StatusIsReadAndCleared : Prop :=
  (∀ f : StatusFlags, f.bytes .port = [f.portU.setWidth 8, f.portD.setWidth 8] ∧ f.bytes .timing = [f.timing.setWidth 8]
    ∧ f.bytes .plan = [f.plan.setWidth 8] ∧ f.bytes .scan = [f.scan.setWidth 8] ∧ f.bytes .tally = [f.tally.setWidth 8]
    ∧ f.bytes .mix = [f.mix.setWidth 8] ∧ f.bytes .mgmt = [f.mgmt.setWidth 8]
    ∧ (∀ j : Nat, j < 24 → (byteAt (f.bytes .link) (j / 8)).getLsbD (j % 8) = f.link.getLsbD j))
  ∧ (∀ (f : StatusFlags) (g : Group), (f.summary.getLsbD g.code = true ↔ ∃ b ∈ f.bytes g, b ≠ 0))
  ∧ ∀ (s : State) (r : Request), s.Takes r →
    let f := s.agent.flags
    (r.code = 0x49 → 1 ≤ r.args.length → 8 ≤ u8At r.args 0 → exec .readStatus s = .next (s.answer r .badIndex []))
    ∧ (r.code = 0x4A → 1 ≤ r.args.length → 8 ≤ u8At r.args 0 → exec .clearStatus s = .next (s.answer r .badIndex []))
    ∧ (∀ g : Group, u8At r.args 0 = g.code →
      let size := match g with
        | .port => 2
        | .link => 3
        | _ => 1
      (f.bytes g).length = size
      ∧ (r.code = 0x49 → 1 ≤ r.args.length → exec .readStatus s = .next (s.answer r .ok
          ([f.summary] ++ f.bytes g ++ s.groupFields g (u8At r.args 1))))
      ∧ (r.code = 0x4A → 1 ≤ r.args.length → r.args.length < 1 + size → exec .clearStatus s = .next (s.answer r .badValue []))
      ∧ (r.code = 0x4A → 1 + size ≤ r.args.length → ∃ h : StatusFlags,
          exec .clearStatus s = .next
            (State.answer { s with agent := { s.agent with flags := h } } r .ok ([h.summary] ++ h.bytes g))
          ∧ (∀ j : Nat, j < size → byteAt (h.bytes g) j = byteAt (f.bytes g) j &&& ~~~(byteAt r.args (1 + j)))
          ∧ (∀ g' : Group, g' ≠ g → h.bytes g' = f.bytes g')))
    ∧ (∀ p : Nat, s.groupFields .timing p = half s.timing.frame ++ u8 s.timing.ref.code ++ u8 s.timing.flywheel ++ u8 s.timing.good
          ++ u8 s.timing.origin.code ++ u8 s.timing.armed.toNat
        ∧ s.groupFields .port p = u8 s.uport.reply.length ++ u8 s.uport.report.length ++ u8 s.uport.audio.length
          ++ u8 s.uport.forward.length ++ u8 s.dport.frameSlot.isSome.toNat ++ u8 s.dport.urgent.length ++ u8 s.dport.command.length
          ++ u8 s.dport.audio.length ++ u8 s.dport.forward.length ++ u8 s.pins.backoff.toNat
        ∧ s.groupFields .mgmt p = u8 s.agent.quiesce.code ++ u8 s.agent.requests.length ++ u8 s.uport.report.length
          ++ u8 (s.agent.ready.any (·.id.isNone)).toNat
        ∧ (let carriers (q : Carrier → Bool) : List Byte := u8 ((List.finRange 96).filter fun e => q s.plan.carriers[e]).length
          s.groupFields .plan p = half s.plan.gen ++ carriers (·.state == .free) ++ carriers (·.state == .reserved)
            ++ carriers (·.state == .active) ++ carriers (·.state == .standby) ++ carriers (·.state == .retiring)
            ++ carriers (·.state == .blocked) ++ carriers (·.suspect) ++ u8 (if s.engine.queue = [] then 0 else 1)
            ++ u8 s.engine.queue.length
            ++ u8 (s.engine.queue.filter fun q => match q.filer with
                | .context _ => false
                | _ => true).length
            ++ [match s.engine.queue with
                | q :: _ => BitVec.ofNat 8 q.kind.code
                | [] => 255])
        ∧ (let links (st : LinkState) : List Byte := u8 ((List.finRange 80).filter fun l => s.links[l].state == st).length
          s.groupFields .link p = links .unused ++ links .idle ++ links .assigning ++ links .up ++ links .faded ++ links .retuning
            ++ links .lost ++ u8 s.retuneQueue.length ++ u8 (s.retuneQueue.filter (·.held)).length
            ++ u8 ((List.finRange 4).filter fun k => s.contexts[k].stage != .free).length)
        ∧ s.groupFields .scan p = u8 s.scan.state.code ++ u8 s.scan.settings.mode.code ++ u8 s.scan.settings.parallel.toNat
          ++ half s.scan.number ++ [indexByte s.scan.recvA.current] ++ [indexByte s.scan.recvB.current] ++ u8 s.scan.foreign.length
          ++ ((s.scan.foreign.drop p).take 4).flatMap (fun x => u32 x.freq ++ s8 x.peak ++ half x.lastSeen ++ u8 x.misses)
        ∧ (let cameras (q : Camera → Bool) : List Byte :=
            u8 ((List.finRange 80).filter fun l => s.links[l].kind == .camera && q s.tally.cameras[l]).length
          ∃ (lamps : Half) (states : List Byte),
            s.groupFields .tally p = u8 s.tally.stale.toNat ++ u8 s.tally.count ++ half lamps
              ++ u8 ((List.finRange 80).filter fun l => s.links[l].live).length ++ cameras (·.unconfirmed) ++ cameras (·.busy) ++ states
            ∧ (∀ n : Fin 16, lamps.getLsbD n.val = s.tally.lamps[n].on) ∧ states.length = 16
            ∧ ∀ i : Fin 64, u8At states (i.val / 4) / 4 ^ (3 - i.val % 4) % 4 = s.tally.applied[i].code)
        ∧ (let inputs (q : Input → Bool) : List Byte := u8 ((List.finRange 32).filter fun i => q s.mixer.inputs[i]).length
          let outputs (q : Output → Bool) : List Byte := u8 ((List.finRange 32).filter fun o => q s.mixer.outputs[o]).length
          s.groupFields .mix p =
            u16 (((List.finRange 32).filter fun i => s.mixer.inputs[i].enabled).map fun i => s.mixer.inputs[i].area).sum
            ++ inputs (·.enabled) ++ inputs (fun x => x.enabled && x.state == .buffering) ++ inputs (fun x => x.enabled && x.state == .playing)
            ++ inputs (fun x => x.enabled && x.state == .concealing) ++ inputs (fun x => x.enabled && x.state == .muted)
            ++ outputs (·.enabled) ++ inputs (fun x => x.underrun || x.overflow || x.seqGap) ++ outputs (·.clip)))
    ∧ (r.code = 0x4B → 6 ≤ r.args.length → ∃ e : BitVec 48,
        exec .reportEnable s = .next (State.answer { s with agent := { s.agent with enables := e } } r .ok
          ((List.range 6).map fun i => BitVec.ofNat 8 (e.toNat / 256 ^ i)))
        ∧ ∀ k : Nat, k < 48 → (e.getLsbD k = true ↔ 1 ≤ k ∧ k ≤ 0x2E ∧ (byteAt r.args (k / 8)).getLsbD (k % 8) = true))

/-- QUIESCE and RESUME (R193): QUIESCE in RUNNING makes the state QUIESCED with its notice when the drain condition holds, and QUIESCING when
it does not; in the other states it changes nothing. RESUME makes the state RUNNING, and is BAD_STATE in RUNNING.
WARM_RESET and COLD_RESET (R194, R195): a warm reset drops the work of every queue, engine and slot, makes every context and slot FREE,
clears the flags, keeps the tables, the settings and the frame timing (R105, R185), leaves tally stale and the enabled inputs buffering,
clears every input's and output's flags, and is answered OK in the emptied reply queue. Each busy context is settled by its stage (R119): its new or old entry is released, or a BACKUP's returns to
STANDBY, and its link takes its prior state or LOST, giving up its STANDBY in IDLE; then each FADED link becomes UP and each link in UP
restarts its monitor (R93, R139). A camera record whose transaction was dropped has an UNKNOWN target and no latch (R168). A cold reset sets the cold-reset values and is not answered.
The instants after a cold reset (log 8) and the count of a stale condition's frame events through a warm reset (log 14) are the model's
choices, and QUIESCE and RESUME reply without data by its reading (log 12). -/
def Obligations.QuiesceAndResets : Prop :=
  ∀ (s : State) (r : Request), s.Takes r →
    let state (q : Quiesce) : State := { s with agent := { s.agent with quiesce := q } }
    let drained := (∀ k : ContextId, s.contexts[k].stage = .free) ∧ s.scan.state ≠ .scanning ∧
      ∀ (i : SlotId) (id : Nat), s.unit.slots[i].owner ≠ some (.relay id)
    (r.code = 0x58 → s.agent.quiesce = .running → drained → exec .quiesce s = .next
      (((state .quiesced).raise .quiesced 0 []).answer r .ok []))
    ∧ (r.code = 0x58 → s.agent.quiesce = .running → ¬ drained → exec .quiesce s = .next ((state .quiescing).answer r .ok []))
    ∧ (r.code = 0x58 → s.agent.quiesce ≠ .running → exec .quiesce s = .next (s.answer r .ok []))
    ∧ (r.code = 0x59 → s.agent.quiesce ≠ .running → exec .resume s = .next ((state .running).answer r .ok []))
    ∧ (r.code = 0x59 → s.agent.quiesce = .running → exec .resume s = .next (s.answer r .badState []))
    ∧ (r.code = 0x5B → s.pins.reset = false → exec .coldReset s = .next
      { State.reset with pins := s.pins, pending := s.pending })
    ∧ (r.code = 0x5B → s.pins.reset = true → exec .coldReset s = .next
      { State.reset with pins := s.pins, pending := s.pending
                         timing := { State.reset.timing with nextExpiry := none }, blockTimerRuns := false })
    ∧ (r.code = 0x5A → ∃ t : State, exec .warmReset s = .next t
      ∧ t.uport = { reply := [ownCell 9 r.src [r.tag, r.code, 0]] } ∧ t.dport = {}
      ∧ t.agent = { s.agent with requests := [], ready := [], flags := {}, quiesce := .running }
      ∧ t.engine = {} ∧ t.retuneQueue = [] ∧ t.unit.waiting = [] ∧ t.unit.toggles = s.unit.toggles
      ∧ t.unit.answerTimeout = s.unit.answerTimeout
      ∧ (∀ i : SlotId, t.unit.slots[i] = {}) ∧ (∀ k : ContextId, t.contexts[k] = {})
      ∧ t.timing = s.timing ∧ t.switchLead = s.switchLead ∧ t.confirmWindow = s.confirmWindow ∧ t.profiles = s.profiles
      ∧ t.plan.bands = s.plan.bands ∧ t.plan.settings = s.plan.settings ∧ t.samples = s.samples
      ∧ t.scan = { segments := s.scan.segments, settings := s.scan.settings, number := s.scan.number, foreign := s.scan.foreign }
      ∧ t.tally.stale = true ∧ t.tally.applied = s.tally.applied ∧ t.tally.pendingSet = s.tally.pendingSet
      ∧ t.tally.written = s.tally.written ∧ t.tally.inEffect = s.tally.inEffect ∧ t.tally.lamps = s.tally.lamps
      ∧ t.tally.count = s.tally.count ∧ t.tally.timeout = s.tally.timeout ∧ t.tally.action = s.tally.action
      ∧ t.tally.staleFrames = (if s.tally.stale = true then s.tally.staleFrames else 0)
      ∧ t.mixer.crosspoints = s.mixer.crosspoints ∧ t.pins = s.pins ∧ t.blockTimerRuns = s.blockTimerRuns
      ∧ (∀ i : Fin 32, t.mixer.inputs[i] =
          if s.mixer.inputs[i].enabled = true then
            { s.mixer.inputs[i] with
              state := .buffering, buffer := [], lastSeq := none, lastPlayed := { samples := Vector.replicate 16 0, talk := false }
              underrun := false, overflow := false, seqGap := false }
          else { s.mixer.inputs[i] with underrun := false, overflow := false, seqGap := false })
      ∧ (∀ o : Fin 32, t.mixer.outputs[o] = { s.mixer.outputs[o] with seq := 0, clip := false })
      ∧ ((∀ k : ContextId, s.contexts[k].stage = .free) → t.plan = s.plan ∧ ∀ l : LinkId, t.links[l] =
          if s.links[l].state = .faded then { s.links[l] with state := .up } else s.links[l])
      ∧ (∃ u : State, u = (List.finRange 4).foldl State.warmSettle
            { s with engine := {}, unit := { s.unit with slots := Vector.replicate 16 {}, waiting := [] }, retuneQueue := [] }
          ∧ t.plan = u.plan ∧ ∀ l : LinkId,
            t.links[l] = (if u.links[l].state = .faded then { u.links[l] with state := .up } else u.links[l])
            ∧ t.monitors[l] = (if t.links[l].state = .up then
                { batteryLow := s.monitors[l].batteryLow, lowCrossed := s.monitors[l].lowCrossed, highCrossed := s.monitors[l].highCrossed }
              else s.monitors[l]))
      ∧ (∀ l : LinkId, t.tally.cameras[l] = if s.tally.cameras[l].busy then
          { s.tally.cameras[l] with busy := false, latched := none, target := none } else s.tally.cameras[l]))
    ∧ (∀ (v : State) (k : ContextId),
      let c := v.contexts[k]
      let enters (u : State) (st : LinkState) : State := { u with links := put u.links c.link { u.links[c.link] with state := st } }
      let back (u : State) : State :=
        if c.prior = .idle then State.releaseOpt (enters u .idle) u.links[c.link].standby else enters u c.prior
      (c.stage = .free ∨ c.stage = .closing → v.warmSettle k = v)
      ∧ (c.stage = .coordinate → v.warmSettle k = back v)
      ∧ ((c.stage = .prepare ∨ c.stage = .switch ∧ c.committed = false) → v.warmSettle k =
          back (if c.target = .backup then v.changeOpt c.newEntry .standby else v.releaseOpt c.newEntry))
      ∧ (c.stage = .switch → c.committed = true → c.oldEntry ≠ none → v.warmSettle k = enters (v.releaseOpt c.newEntry) .lost)
      ∧ (c.stage = .switch → c.committed = true → c.oldEntry = none →
          let u := v.releaseOpt c.newEntry
          v.warmSettle k = State.releaseOpt (enters u .idle) u.links[c.link].standby)
      ∧ (c.stage = .confirm → v.warmSettle k = enters (v.releaseOpt c.oldEntry) .lost)
      ∧ (c.stage = .revert → c.reverted = false → v.warmSettle k = enters (v.releaseOpt c.oldEntry) .lost)
      ∧ (c.stage = .revert → c.reverted = true → v.warmSettle k = enters v .lost))

/-- IDENTIFY (R196) is answered OK in every state with its 24 bytes: the part code, the revision and the capacities. -/
def Obligations.IdentifyNamesThePart : Prop :=
  ∀ (s : State) (r : Request), s.Takes r → r.code = 0x60 → exec .identify s = .next (s.answer r .ok
    [0x03, 0x12, 1, 4, 96, 80, 8, 8, 4, 16, 4, 16, 4, 8, 16, 32, 64, 16, 32, 32, 0x02, 0x00, 4, 32])
end

