-- ==== Sys2Proof/Laws/State.lean ====
section
/-! SUPPORT. What one table update reads back as, and one lemma for each field and each plain update of State: true by rfl, for simp. -/

namespace Sys2Proof.Machine

/-! ### Tables -/

theorem put_get {α : Type} {n : Nat} (t : Vector α n) (i : Fin n) (x : α) (j : Nat) (h : j < n) :
    (put t i x)[j] = if i.val = j then x else t[j] := by
  simp only [put, Vector.getElem_set]

@[simp] theorem put_self {α : Type} {n : Nat} (t : Vector α n) (i : Fin n) (x : α) : (put t i x)[i.val] = x := by
  rw [put_get, if_pos rfl]

@[simp] theorem put_other {α : Type} {n : Nat} (t : Vector α n) (i : Fin n) (x : α) (j : Nat) (h : j < n) (hij : i.val ≠ j) :
    (put t i x)[j] = t[j] := by
  rw [put_get, if_neg hij]

@[simp] theorem put_put {α : Type} {n : Nat} (t : Vector α n) (i : Fin n) (x y : α) : put (put t i x) i y = put t i y := by
  simp [put]

@[simp] theorem put_same {α : Type} {n : Nat} (t : Vector α n) (i : Fin n) : put t i t[i.val] = t := by
  simp [put]

@[simp] theorem mapTable_get {α : Type} {n : Nat} (t : Vector α n) (f : Fin n → α → α) (j : Nat) (h : j < n) :
    (mapTable t f)[j] = f ⟨j, h⟩ t[j] := by
  simp [mapTable]

/-! ### Updates -/

@[simp] theorem State.setLink_pins (s : State) (l : LinkId) (r : Link) : (s.setLink l r).pins = s.pins := rfl
@[simp] theorem State.setLink_timing (s : State) (l : LinkId) (r : Link) : (s.setLink l r).timing = s.timing := rfl
@[simp] theorem State.setLink_dport (s : State) (l : LinkId) (r : Link) : (s.setLink l r).dport = s.dport := rfl
@[simp] theorem State.setLink_uport (s : State) (l : LinkId) (r : Link) : (s.setLink l r).uport = s.uport := rfl
@[simp] theorem State.setLink_switchLead (s : State) (l : LinkId) (r : Link) : (s.setLink l r).switchLead = s.switchLead := rfl
@[simp] theorem State.setLink_plan (s : State) (l : LinkId) (r : Link) : (s.setLink l r).plan = s.plan := rfl
@[simp] theorem State.setLink_engine (s : State) (l : LinkId) (r : Link) : (s.setLink l r).engine = s.engine := rfl
@[simp] theorem State.setLink_links (s : State) (l : LinkId) (r : Link) : (s.setLink l r).links = put s.links l r := rfl
@[simp] theorem State.setLink_retuneQueue (s : State) (l : LinkId) (r : Link) : (s.setLink l r).retuneQueue = s.retuneQueue := rfl
@[simp] theorem State.setLink_unit (s : State) (l : LinkId) (r : Link) : (s.setLink l r).unit = s.unit := rfl
@[simp] theorem State.setLink_contexts (s : State) (l : LinkId) (r : Link) : (s.setLink l r).contexts = s.contexts := rfl
@[simp] theorem State.setLink_confirmWindow (s : State) (l : LinkId) (r : Link) : (s.setLink l r).confirmWindow = s.confirmWindow := rfl
@[simp] theorem State.setLink_profiles (s : State) (l : LinkId) (r : Link) : (s.setLink l r).profiles = s.profiles := rfl
@[simp] theorem State.setLink_monitors (s : State) (l : LinkId) (r : Link) : (s.setLink l r).monitors = s.monitors := rfl
@[simp] theorem State.setLink_samples (s : State) (l : LinkId) (r : Link) : (s.setLink l r).samples = s.samples := rfl
@[simp] theorem State.setLink_scan (s : State) (l : LinkId) (r : Link) : (s.setLink l r).scan = s.scan := rfl
@[simp] theorem State.setLink_tally (s : State) (l : LinkId) (r : Link) : (s.setLink l r).tally = s.tally := rfl
@[simp] theorem State.setLink_mixer (s : State) (l : LinkId) (r : Link) : (s.setLink l r).mixer = s.mixer := rfl
@[simp] theorem State.setLink_blockTimerRuns (s : State) (l : LinkId) (r : Link) : (s.setLink l r).blockTimerRuns = s.blockTimerRuns := rfl
@[simp] theorem State.setLink_agent (s : State) (l : LinkId) (r : Link) : (s.setLink l r).agent = s.agent := rfl
@[simp] theorem State.setLink_due (s : State) (l : LinkId) (r : Link) : (s.setLink l r).due = s.due := rfl
@[simp] theorem State.setLink_pending (s : State) (l : LinkId) (r : Link) : (s.setLink l r).pending = s.pending := rfl

@[simp] theorem State.setCarrier_pins (s : State) (e : EntryId) (c : Carrier) : (s.setCarrier e c).pins = s.pins := rfl
@[simp] theorem State.setCarrier_timing (s : State) (e : EntryId) (c : Carrier) : (s.setCarrier e c).timing = s.timing := rfl
@[simp] theorem State.setCarrier_dport (s : State) (e : EntryId) (c : Carrier) : (s.setCarrier e c).dport = s.dport := rfl
@[simp] theorem State.setCarrier_uport (s : State) (e : EntryId) (c : Carrier) : (s.setCarrier e c).uport = s.uport := rfl
@[simp] theorem State.setCarrier_switchLead (s : State) (e : EntryId) (c : Carrier) : (s.setCarrier e c).switchLead = s.switchLead := rfl
@[simp] theorem State.setCarrier_plan (s : State) (e : EntryId) (c : Carrier) : (s.setCarrier e c).plan = { s.plan with carriers := put s.plan.carriers e c } := rfl
@[simp] theorem State.setCarrier_engine (s : State) (e : EntryId) (c : Carrier) : (s.setCarrier e c).engine = s.engine := rfl
@[simp] theorem State.setCarrier_links (s : State) (e : EntryId) (c : Carrier) : (s.setCarrier e c).links = s.links := rfl
@[simp] theorem State.setCarrier_retuneQueue (s : State) (e : EntryId) (c : Carrier) : (s.setCarrier e c).retuneQueue = s.retuneQueue := rfl
@[simp] theorem State.setCarrier_unit (s : State) (e : EntryId) (c : Carrier) : (s.setCarrier e c).unit = s.unit := rfl
@[simp] theorem State.setCarrier_contexts (s : State) (e : EntryId) (c : Carrier) : (s.setCarrier e c).contexts = s.contexts := rfl
@[simp] theorem State.setCarrier_confirmWindow (s : State) (e : EntryId) (c : Carrier) : (s.setCarrier e c).confirmWindow = s.confirmWindow := rfl
@[simp] theorem State.setCarrier_profiles (s : State) (e : EntryId) (c : Carrier) : (s.setCarrier e c).profiles = s.profiles := rfl
@[simp] theorem State.setCarrier_monitors (s : State) (e : EntryId) (c : Carrier) : (s.setCarrier e c).monitors = s.monitors := rfl
@[simp] theorem State.setCarrier_samples (s : State) (e : EntryId) (c : Carrier) : (s.setCarrier e c).samples = s.samples := rfl
@[simp] theorem State.setCarrier_scan (s : State) (e : EntryId) (c : Carrier) : (s.setCarrier e c).scan = s.scan := rfl
@[simp] theorem State.setCarrier_tally (s : State) (e : EntryId) (c : Carrier) : (s.setCarrier e c).tally = s.tally := rfl
@[simp] theorem State.setCarrier_mixer (s : State) (e : EntryId) (c : Carrier) : (s.setCarrier e c).mixer = s.mixer := rfl
@[simp] theorem State.setCarrier_blockTimerRuns (s : State) (e : EntryId) (c : Carrier) : (s.setCarrier e c).blockTimerRuns = s.blockTimerRuns := rfl
@[simp] theorem State.setCarrier_agent (s : State) (e : EntryId) (c : Carrier) : (s.setCarrier e c).agent = s.agent := rfl
@[simp] theorem State.setCarrier_due (s : State) (e : EntryId) (c : Carrier) : (s.setCarrier e c).due = s.due := rfl
@[simp] theorem State.setCarrier_pending (s : State) (e : EntryId) (c : Carrier) : (s.setCarrier e c).pending = s.pending := rfl

@[simp] theorem State.bumpGen_pins (s : State) : (s.bumpGen).pins = s.pins := rfl
@[simp] theorem State.bumpGen_timing (s : State) : (s.bumpGen).timing = s.timing := rfl
@[simp] theorem State.bumpGen_dport (s : State) : (s.bumpGen).dport = s.dport := rfl
@[simp] theorem State.bumpGen_uport (s : State) : (s.bumpGen).uport = s.uport := rfl
@[simp] theorem State.bumpGen_switchLead (s : State) : (s.bumpGen).switchLead = s.switchLead := rfl
@[simp] theorem State.bumpGen_plan (s : State) : (s.bumpGen).plan = { s.plan with gen := s.plan.gen + 1 } := rfl
@[simp] theorem State.bumpGen_engine (s : State) : (s.bumpGen).engine = s.engine := rfl
@[simp] theorem State.bumpGen_links (s : State) : (s.bumpGen).links = s.links := rfl
@[simp] theorem State.bumpGen_retuneQueue (s : State) : (s.bumpGen).retuneQueue = s.retuneQueue := rfl
@[simp] theorem State.bumpGen_unit (s : State) : (s.bumpGen).unit = s.unit := rfl
@[simp] theorem State.bumpGen_contexts (s : State) : (s.bumpGen).contexts = s.contexts := rfl
@[simp] theorem State.bumpGen_confirmWindow (s : State) : (s.bumpGen).confirmWindow = s.confirmWindow := rfl
@[simp] theorem State.bumpGen_profiles (s : State) : (s.bumpGen).profiles = s.profiles := rfl
@[simp] theorem State.bumpGen_monitors (s : State) : (s.bumpGen).monitors = s.monitors := rfl
@[simp] theorem State.bumpGen_samples (s : State) : (s.bumpGen).samples = s.samples := rfl
@[simp] theorem State.bumpGen_scan (s : State) : (s.bumpGen).scan = s.scan := rfl
@[simp] theorem State.bumpGen_tally (s : State) : (s.bumpGen).tally = s.tally := rfl
@[simp] theorem State.bumpGen_mixer (s : State) : (s.bumpGen).mixer = s.mixer := rfl
@[simp] theorem State.bumpGen_blockTimerRuns (s : State) : (s.bumpGen).blockTimerRuns = s.blockTimerRuns := rfl
@[simp] theorem State.bumpGen_agent (s : State) : (s.bumpGen).agent = s.agent := rfl
@[simp] theorem State.bumpGen_due (s : State) : (s.bumpGen).due = s.due := rfl
@[simp] theorem State.bumpGen_pending (s : State) : (s.bumpGen).pending = s.pending := rfl

@[simp] theorem State.setSlot_pins (s : State) (i : SlotId) (x : Slot) : (s.setSlot i x).pins = s.pins := rfl
@[simp] theorem State.setSlot_timing (s : State) (i : SlotId) (x : Slot) : (s.setSlot i x).timing = s.timing := rfl
@[simp] theorem State.setSlot_dport (s : State) (i : SlotId) (x : Slot) : (s.setSlot i x).dport = s.dport := rfl
@[simp] theorem State.setSlot_uport (s : State) (i : SlotId) (x : Slot) : (s.setSlot i x).uport = s.uport := rfl
@[simp] theorem State.setSlot_switchLead (s : State) (i : SlotId) (x : Slot) : (s.setSlot i x).switchLead = s.switchLead := rfl
@[simp] theorem State.setSlot_plan (s : State) (i : SlotId) (x : Slot) : (s.setSlot i x).plan = s.plan := rfl
@[simp] theorem State.setSlot_engine (s : State) (i : SlotId) (x : Slot) : (s.setSlot i x).engine = s.engine := rfl
@[simp] theorem State.setSlot_links (s : State) (i : SlotId) (x : Slot) : (s.setSlot i x).links = s.links := rfl
@[simp] theorem State.setSlot_retuneQueue (s : State) (i : SlotId) (x : Slot) : (s.setSlot i x).retuneQueue = s.retuneQueue := rfl
@[simp] theorem State.setSlot_unit (s : State) (i : SlotId) (x : Slot) : (s.setSlot i x).unit = { s.unit with slots := put s.unit.slots i x } := rfl
@[simp] theorem State.setSlot_contexts (s : State) (i : SlotId) (x : Slot) : (s.setSlot i x).contexts = s.contexts := rfl
@[simp] theorem State.setSlot_confirmWindow (s : State) (i : SlotId) (x : Slot) : (s.setSlot i x).confirmWindow = s.confirmWindow := rfl
@[simp] theorem State.setSlot_profiles (s : State) (i : SlotId) (x : Slot) : (s.setSlot i x).profiles = s.profiles := rfl
@[simp] theorem State.setSlot_monitors (s : State) (i : SlotId) (x : Slot) : (s.setSlot i x).monitors = s.monitors := rfl
@[simp] theorem State.setSlot_samples (s : State) (i : SlotId) (x : Slot) : (s.setSlot i x).samples = s.samples := rfl
@[simp] theorem State.setSlot_scan (s : State) (i : SlotId) (x : Slot) : (s.setSlot i x).scan = s.scan := rfl
@[simp] theorem State.setSlot_tally (s : State) (i : SlotId) (x : Slot) : (s.setSlot i x).tally = s.tally := rfl
@[simp] theorem State.setSlot_mixer (s : State) (i : SlotId) (x : Slot) : (s.setSlot i x).mixer = s.mixer := rfl
@[simp] theorem State.setSlot_blockTimerRuns (s : State) (i : SlotId) (x : Slot) : (s.setSlot i x).blockTimerRuns = s.blockTimerRuns := rfl
@[simp] theorem State.setSlot_agent (s : State) (i : SlotId) (x : Slot) : (s.setSlot i x).agent = s.agent := rfl
@[simp] theorem State.setSlot_due (s : State) (i : SlotId) (x : Slot) : (s.setSlot i x).due = s.due := rfl
@[simp] theorem State.setSlot_pending (s : State) (i : SlotId) (x : Slot) : (s.setSlot i x).pending = s.pending := rfl

@[simp] theorem State.setToggle_pins (s : State) (u : Byte) (b : Bool) : (s.setToggle u b).pins = s.pins := rfl
@[simp] theorem State.setToggle_timing (s : State) (u : Byte) (b : Bool) : (s.setToggle u b).timing = s.timing := rfl
@[simp] theorem State.setToggle_dport (s : State) (u : Byte) (b : Bool) : (s.setToggle u b).dport = s.dport := rfl
@[simp] theorem State.setToggle_uport (s : State) (u : Byte) (b : Bool) : (s.setToggle u b).uport = s.uport := rfl
@[simp] theorem State.setToggle_switchLead (s : State) (u : Byte) (b : Bool) : (s.setToggle u b).switchLead = s.switchLead := rfl
@[simp] theorem State.setToggle_plan (s : State) (u : Byte) (b : Bool) : (s.setToggle u b).plan = s.plan := rfl
@[simp] theorem State.setToggle_engine (s : State) (u : Byte) (b : Bool) : (s.setToggle u b).engine = s.engine := rfl
@[simp] theorem State.setToggle_links (s : State) (u : Byte) (b : Bool) : (s.setToggle u b).links = s.links := rfl
@[simp] theorem State.setToggle_retuneQueue (s : State) (u : Byte) (b : Bool) : (s.setToggle u b).retuneQueue = s.retuneQueue := rfl
@[simp] theorem State.setToggle_unit (s : State) (u : Byte) (b : Bool) : (s.setToggle u b).unit = { s.unit with toggles := s.unit.toggles.set u.toNat b } := rfl
@[simp] theorem State.setToggle_contexts (s : State) (u : Byte) (b : Bool) : (s.setToggle u b).contexts = s.contexts := rfl
@[simp] theorem State.setToggle_confirmWindow (s : State) (u : Byte) (b : Bool) : (s.setToggle u b).confirmWindow = s.confirmWindow := rfl
@[simp] theorem State.setToggle_profiles (s : State) (u : Byte) (b : Bool) : (s.setToggle u b).profiles = s.profiles := rfl
@[simp] theorem State.setToggle_monitors (s : State) (u : Byte) (b : Bool) : (s.setToggle u b).monitors = s.monitors := rfl
@[simp] theorem State.setToggle_samples (s : State) (u : Byte) (b : Bool) : (s.setToggle u b).samples = s.samples := rfl
@[simp] theorem State.setToggle_scan (s : State) (u : Byte) (b : Bool) : (s.setToggle u b).scan = s.scan := rfl
@[simp] theorem State.setToggle_tally (s : State) (u : Byte) (b : Bool) : (s.setToggle u b).tally = s.tally := rfl
@[simp] theorem State.setToggle_mixer (s : State) (u : Byte) (b : Bool) : (s.setToggle u b).mixer = s.mixer := rfl
@[simp] theorem State.setToggle_blockTimerRuns (s : State) (u : Byte) (b : Bool) : (s.setToggle u b).blockTimerRuns = s.blockTimerRuns := rfl
@[simp] theorem State.setToggle_agent (s : State) (u : Byte) (b : Bool) : (s.setToggle u b).agent = s.agent := rfl
@[simp] theorem State.setToggle_due (s : State) (u : Byte) (b : Bool) : (s.setToggle u b).due = s.due := rfl
@[simp] theorem State.setToggle_pending (s : State) (u : Byte) (b : Bool) : (s.setToggle u b).pending = s.pending := rfl

@[simp] theorem State.setContext_pins (s : State) (k : ContextId) (c : Context) : (s.setContext k c).pins = s.pins := rfl
@[simp] theorem State.setContext_timing (s : State) (k : ContextId) (c : Context) : (s.setContext k c).timing = s.timing := rfl
@[simp] theorem State.setContext_dport (s : State) (k : ContextId) (c : Context) : (s.setContext k c).dport = s.dport := rfl
@[simp] theorem State.setContext_uport (s : State) (k : ContextId) (c : Context) : (s.setContext k c).uport = s.uport := rfl
@[simp] theorem State.setContext_switchLead (s : State) (k : ContextId) (c : Context) : (s.setContext k c).switchLead = s.switchLead := rfl
@[simp] theorem State.setContext_plan (s : State) (k : ContextId) (c : Context) : (s.setContext k c).plan = s.plan := rfl
@[simp] theorem State.setContext_engine (s : State) (k : ContextId) (c : Context) : (s.setContext k c).engine = s.engine := rfl
@[simp] theorem State.setContext_links (s : State) (k : ContextId) (c : Context) : (s.setContext k c).links = s.links := rfl
@[simp] theorem State.setContext_retuneQueue (s : State) (k : ContextId) (c : Context) : (s.setContext k c).retuneQueue = s.retuneQueue := rfl
@[simp] theorem State.setContext_unit (s : State) (k : ContextId) (c : Context) : (s.setContext k c).unit = s.unit := rfl
@[simp] theorem State.setContext_contexts (s : State) (k : ContextId) (c : Context) : (s.setContext k c).contexts = put s.contexts k c := rfl
@[simp] theorem State.setContext_confirmWindow (s : State) (k : ContextId) (c : Context) : (s.setContext k c).confirmWindow = s.confirmWindow := rfl
@[simp] theorem State.setContext_profiles (s : State) (k : ContextId) (c : Context) : (s.setContext k c).profiles = s.profiles := rfl
@[simp] theorem State.setContext_monitors (s : State) (k : ContextId) (c : Context) : (s.setContext k c).monitors = s.monitors := rfl
@[simp] theorem State.setContext_samples (s : State) (k : ContextId) (c : Context) : (s.setContext k c).samples = s.samples := rfl
@[simp] theorem State.setContext_scan (s : State) (k : ContextId) (c : Context) : (s.setContext k c).scan = s.scan := rfl
@[simp] theorem State.setContext_tally (s : State) (k : ContextId) (c : Context) : (s.setContext k c).tally = s.tally := rfl
@[simp] theorem State.setContext_mixer (s : State) (k : ContextId) (c : Context) : (s.setContext k c).mixer = s.mixer := rfl
@[simp] theorem State.setContext_blockTimerRuns (s : State) (k : ContextId) (c : Context) : (s.setContext k c).blockTimerRuns = s.blockTimerRuns := rfl
@[simp] theorem State.setContext_agent (s : State) (k : ContextId) (c : Context) : (s.setContext k c).agent = s.agent := rfl
@[simp] theorem State.setContext_due (s : State) (k : ContextId) (c : Context) : (s.setContext k c).due = s.due := rfl
@[simp] theorem State.setContext_pending (s : State) (k : ContextId) (c : Context) : (s.setContext k c).pending = s.pending := rfl

@[simp] theorem State.setMonitor_pins (s : State) (l : LinkId) (m : Monitor) : (s.setMonitor l m).pins = s.pins := rfl
@[simp] theorem State.setMonitor_timing (s : State) (l : LinkId) (m : Monitor) : (s.setMonitor l m).timing = s.timing := rfl
@[simp] theorem State.setMonitor_dport (s : State) (l : LinkId) (m : Monitor) : (s.setMonitor l m).dport = s.dport := rfl
@[simp] theorem State.setMonitor_uport (s : State) (l : LinkId) (m : Monitor) : (s.setMonitor l m).uport = s.uport := rfl
@[simp] theorem State.setMonitor_switchLead (s : State) (l : LinkId) (m : Monitor) : (s.setMonitor l m).switchLead = s.switchLead := rfl
@[simp] theorem State.setMonitor_plan (s : State) (l : LinkId) (m : Monitor) : (s.setMonitor l m).plan = s.plan := rfl
@[simp] theorem State.setMonitor_engine (s : State) (l : LinkId) (m : Monitor) : (s.setMonitor l m).engine = s.engine := rfl
@[simp] theorem State.setMonitor_links (s : State) (l : LinkId) (m : Monitor) : (s.setMonitor l m).links = s.links := rfl
@[simp] theorem State.setMonitor_retuneQueue (s : State) (l : LinkId) (m : Monitor) : (s.setMonitor l m).retuneQueue = s.retuneQueue := rfl
@[simp] theorem State.setMonitor_unit (s : State) (l : LinkId) (m : Monitor) : (s.setMonitor l m).unit = s.unit := rfl
@[simp] theorem State.setMonitor_contexts (s : State) (l : LinkId) (m : Monitor) : (s.setMonitor l m).contexts = s.contexts := rfl
@[simp] theorem State.setMonitor_confirmWindow (s : State) (l : LinkId) (m : Monitor) : (s.setMonitor l m).confirmWindow = s.confirmWindow := rfl
@[simp] theorem State.setMonitor_profiles (s : State) (l : LinkId) (m : Monitor) : (s.setMonitor l m).profiles = s.profiles := rfl
@[simp] theorem State.setMonitor_monitors (s : State) (l : LinkId) (m : Monitor) : (s.setMonitor l m).monitors = put s.monitors l m := rfl
@[simp] theorem State.setMonitor_samples (s : State) (l : LinkId) (m : Monitor) : (s.setMonitor l m).samples = s.samples := rfl
@[simp] theorem State.setMonitor_scan (s : State) (l : LinkId) (m : Monitor) : (s.setMonitor l m).scan = s.scan := rfl
@[simp] theorem State.setMonitor_tally (s : State) (l : LinkId) (m : Monitor) : (s.setMonitor l m).tally = s.tally := rfl
@[simp] theorem State.setMonitor_mixer (s : State) (l : LinkId) (m : Monitor) : (s.setMonitor l m).mixer = s.mixer := rfl
@[simp] theorem State.setMonitor_blockTimerRuns (s : State) (l : LinkId) (m : Monitor) : (s.setMonitor l m).blockTimerRuns = s.blockTimerRuns := rfl
@[simp] theorem State.setMonitor_agent (s : State) (l : LinkId) (m : Monitor) : (s.setMonitor l m).agent = s.agent := rfl
@[simp] theorem State.setMonitor_due (s : State) (l : LinkId) (m : Monitor) : (s.setMonitor l m).due = s.due := rfl
@[simp] theorem State.setMonitor_pending (s : State) (l : LinkId) (m : Monitor) : (s.setMonitor l m).pending = s.pending := rfl

@[simp] theorem State.setCamera_pins (s : State) (l : LinkId) (c : Camera) : (s.setCamera l c).pins = s.pins := rfl
@[simp] theorem State.setCamera_timing (s : State) (l : LinkId) (c : Camera) : (s.setCamera l c).timing = s.timing := rfl
@[simp] theorem State.setCamera_dport (s : State) (l : LinkId) (c : Camera) : (s.setCamera l c).dport = s.dport := rfl
@[simp] theorem State.setCamera_uport (s : State) (l : LinkId) (c : Camera) : (s.setCamera l c).uport = s.uport := rfl
@[simp] theorem State.setCamera_switchLead (s : State) (l : LinkId) (c : Camera) : (s.setCamera l c).switchLead = s.switchLead := rfl
@[simp] theorem State.setCamera_plan (s : State) (l : LinkId) (c : Camera) : (s.setCamera l c).plan = s.plan := rfl
@[simp] theorem State.setCamera_engine (s : State) (l : LinkId) (c : Camera) : (s.setCamera l c).engine = s.engine := rfl
@[simp] theorem State.setCamera_links (s : State) (l : LinkId) (c : Camera) : (s.setCamera l c).links = s.links := rfl
@[simp] theorem State.setCamera_retuneQueue (s : State) (l : LinkId) (c : Camera) : (s.setCamera l c).retuneQueue = s.retuneQueue := rfl
@[simp] theorem State.setCamera_unit (s : State) (l : LinkId) (c : Camera) : (s.setCamera l c).unit = s.unit := rfl
@[simp] theorem State.setCamera_contexts (s : State) (l : LinkId) (c : Camera) : (s.setCamera l c).contexts = s.contexts := rfl
@[simp] theorem State.setCamera_confirmWindow (s : State) (l : LinkId) (c : Camera) : (s.setCamera l c).confirmWindow = s.confirmWindow := rfl
@[simp] theorem State.setCamera_profiles (s : State) (l : LinkId) (c : Camera) : (s.setCamera l c).profiles = s.profiles := rfl
@[simp] theorem State.setCamera_monitors (s : State) (l : LinkId) (c : Camera) : (s.setCamera l c).monitors = s.monitors := rfl
@[simp] theorem State.setCamera_samples (s : State) (l : LinkId) (c : Camera) : (s.setCamera l c).samples = s.samples := rfl
@[simp] theorem State.setCamera_scan (s : State) (l : LinkId) (c : Camera) : (s.setCamera l c).scan = s.scan := rfl
@[simp] theorem State.setCamera_tally (s : State) (l : LinkId) (c : Camera) : (s.setCamera l c).tally = { s.tally with cameras := put s.tally.cameras l c } := rfl
@[simp] theorem State.setCamera_mixer (s : State) (l : LinkId) (c : Camera) : (s.setCamera l c).mixer = s.mixer := rfl
@[simp] theorem State.setCamera_blockTimerRuns (s : State) (l : LinkId) (c : Camera) : (s.setCamera l c).blockTimerRuns = s.blockTimerRuns := rfl
@[simp] theorem State.setCamera_agent (s : State) (l : LinkId) (c : Camera) : (s.setCamera l c).agent = s.agent := rfl
@[simp] theorem State.setCamera_due (s : State) (l : LinkId) (c : Camera) : (s.setCamera l c).due = s.due := rfl
@[simp] theorem State.setCamera_pending (s : State) (l : LinkId) (c : Camera) : (s.setCamera l c).pending = s.pending := rfl

@[simp] theorem State.setForeign_pins (s : State) (xs : List Foreign) : (s.setForeign xs).pins = s.pins := rfl
@[simp] theorem State.setForeign_timing (s : State) (xs : List Foreign) : (s.setForeign xs).timing = s.timing := rfl
@[simp] theorem State.setForeign_dport (s : State) (xs : List Foreign) : (s.setForeign xs).dport = s.dport := rfl
@[simp] theorem State.setForeign_uport (s : State) (xs : List Foreign) : (s.setForeign xs).uport = s.uport := rfl
@[simp] theorem State.setForeign_switchLead (s : State) (xs : List Foreign) : (s.setForeign xs).switchLead = s.switchLead := rfl
@[simp] theorem State.setForeign_plan (s : State) (xs : List Foreign) : (s.setForeign xs).plan = s.plan := rfl
@[simp] theorem State.setForeign_engine (s : State) (xs : List Foreign) : (s.setForeign xs).engine = s.engine := rfl
@[simp] theorem State.setForeign_links (s : State) (xs : List Foreign) : (s.setForeign xs).links = s.links := rfl
@[simp] theorem State.setForeign_retuneQueue (s : State) (xs : List Foreign) : (s.setForeign xs).retuneQueue = s.retuneQueue := rfl
@[simp] theorem State.setForeign_unit (s : State) (xs : List Foreign) : (s.setForeign xs).unit = s.unit := rfl
@[simp] theorem State.setForeign_contexts (s : State) (xs : List Foreign) : (s.setForeign xs).contexts = s.contexts := rfl
@[simp] theorem State.setForeign_confirmWindow (s : State) (xs : List Foreign) : (s.setForeign xs).confirmWindow = s.confirmWindow := rfl
@[simp] theorem State.setForeign_profiles (s : State) (xs : List Foreign) : (s.setForeign xs).profiles = s.profiles := rfl
@[simp] theorem State.setForeign_monitors (s : State) (xs : List Foreign) : (s.setForeign xs).monitors = s.monitors := rfl
@[simp] theorem State.setForeign_samples (s : State) (xs : List Foreign) : (s.setForeign xs).samples = s.samples := rfl
@[simp] theorem State.setForeign_scan (s : State) (xs : List Foreign) : (s.setForeign xs).scan = { s.scan with foreign := xs } := rfl
@[simp] theorem State.setForeign_tally (s : State) (xs : List Foreign) : (s.setForeign xs).tally = s.tally := rfl
@[simp] theorem State.setForeign_mixer (s : State) (xs : List Foreign) : (s.setForeign xs).mixer = s.mixer := rfl
@[simp] theorem State.setForeign_blockTimerRuns (s : State) (xs : List Foreign) : (s.setForeign xs).blockTimerRuns = s.blockTimerRuns := rfl
@[simp] theorem State.setForeign_agent (s : State) (xs : List Foreign) : (s.setForeign xs).agent = s.agent := rfl
@[simp] theorem State.setForeign_due (s : State) (xs : List Foreign) : (s.setForeign xs).due = s.due := rfl
@[simp] theorem State.setForeign_pending (s : State) (xs : List Foreign) : (s.setForeign xs).pending = s.pending := rfl

@[simp] theorem State.setScanSettings_pins (s : State) (g : ScanSettings) : (s.setScanSettings g).pins = s.pins := rfl
@[simp] theorem State.setScanSettings_timing (s : State) (g : ScanSettings) : (s.setScanSettings g).timing = s.timing := rfl
@[simp] theorem State.setScanSettings_dport (s : State) (g : ScanSettings) : (s.setScanSettings g).dport = s.dport := rfl
@[simp] theorem State.setScanSettings_uport (s : State) (g : ScanSettings) : (s.setScanSettings g).uport = s.uport := rfl
@[simp] theorem State.setScanSettings_switchLead (s : State) (g : ScanSettings) : (s.setScanSettings g).switchLead = s.switchLead := rfl
@[simp] theorem State.setScanSettings_plan (s : State) (g : ScanSettings) : (s.setScanSettings g).plan = s.plan := rfl
@[simp] theorem State.setScanSettings_engine (s : State) (g : ScanSettings) : (s.setScanSettings g).engine = s.engine := rfl
@[simp] theorem State.setScanSettings_links (s : State) (g : ScanSettings) : (s.setScanSettings g).links = s.links := rfl
@[simp] theorem State.setScanSettings_retuneQueue (s : State) (g : ScanSettings) : (s.setScanSettings g).retuneQueue = s.retuneQueue := rfl
@[simp] theorem State.setScanSettings_unit (s : State) (g : ScanSettings) : (s.setScanSettings g).unit = s.unit := rfl
@[simp] theorem State.setScanSettings_contexts (s : State) (g : ScanSettings) : (s.setScanSettings g).contexts = s.contexts := rfl
@[simp] theorem State.setScanSettings_confirmWindow (s : State) (g : ScanSettings) : (s.setScanSettings g).confirmWindow = s.confirmWindow := rfl
@[simp] theorem State.setScanSettings_profiles (s : State) (g : ScanSettings) : (s.setScanSettings g).profiles = s.profiles := rfl
@[simp] theorem State.setScanSettings_monitors (s : State) (g : ScanSettings) : (s.setScanSettings g).monitors = s.monitors := rfl
@[simp] theorem State.setScanSettings_samples (s : State) (g : ScanSettings) : (s.setScanSettings g).samples = s.samples := rfl
@[simp] theorem State.setScanSettings_scan (s : State) (g : ScanSettings) : (s.setScanSettings g).scan = { s.scan with settings := g } := rfl
@[simp] theorem State.setScanSettings_tally (s : State) (g : ScanSettings) : (s.setScanSettings g).tally = s.tally := rfl
@[simp] theorem State.setScanSettings_mixer (s : State) (g : ScanSettings) : (s.setScanSettings g).mixer = s.mixer := rfl
@[simp] theorem State.setScanSettings_blockTimerRuns (s : State) (g : ScanSettings) : (s.setScanSettings g).blockTimerRuns = s.blockTimerRuns := rfl
@[simp] theorem State.setScanSettings_agent (s : State) (g : ScanSettings) : (s.setScanSettings g).agent = s.agent := rfl
@[simp] theorem State.setScanSettings_due (s : State) (g : ScanSettings) : (s.setScanSettings g).due = s.due := rfl
@[simp] theorem State.setScanSettings_pending (s : State) (g : ScanSettings) : (s.setScanSettings g).pending = s.pending := rfl

@[simp] theorem State.setRun_pins (s : State) (r : Run) : (s.setRun r).pins = s.pins := rfl
@[simp] theorem State.setRun_timing (s : State) (r : Run) : (s.setRun r).timing = s.timing := rfl
@[simp] theorem State.setRun_dport (s : State) (r : Run) : (s.setRun r).dport = s.dport := rfl
@[simp] theorem State.setRun_uport (s : State) (r : Run) : (s.setRun r).uport = s.uport := rfl
@[simp] theorem State.setRun_switchLead (s : State) (r : Run) : (s.setRun r).switchLead = s.switchLead := rfl
@[simp] theorem State.setRun_plan (s : State) (r : Run) : (s.setRun r).plan = s.plan := rfl
@[simp] theorem State.setRun_engine (s : State) (r : Run) : (s.setRun r).engine = { s.engine with run := some r } := rfl
@[simp] theorem State.setRun_links (s : State) (r : Run) : (s.setRun r).links = s.links := rfl
@[simp] theorem State.setRun_retuneQueue (s : State) (r : Run) : (s.setRun r).retuneQueue = s.retuneQueue := rfl
@[simp] theorem State.setRun_unit (s : State) (r : Run) : (s.setRun r).unit = s.unit := rfl
@[simp] theorem State.setRun_contexts (s : State) (r : Run) : (s.setRun r).contexts = s.contexts := rfl
@[simp] theorem State.setRun_confirmWindow (s : State) (r : Run) : (s.setRun r).confirmWindow = s.confirmWindow := rfl
@[simp] theorem State.setRun_profiles (s : State) (r : Run) : (s.setRun r).profiles = s.profiles := rfl
@[simp] theorem State.setRun_monitors (s : State) (r : Run) : (s.setRun r).monitors = s.monitors := rfl
@[simp] theorem State.setRun_samples (s : State) (r : Run) : (s.setRun r).samples = s.samples := rfl
@[simp] theorem State.setRun_scan (s : State) (r : Run) : (s.setRun r).scan = s.scan := rfl
@[simp] theorem State.setRun_tally (s : State) (r : Run) : (s.setRun r).tally = s.tally := rfl
@[simp] theorem State.setRun_mixer (s : State) (r : Run) : (s.setRun r).mixer = s.mixer := rfl
@[simp] theorem State.setRun_blockTimerRuns (s : State) (r : Run) : (s.setRun r).blockTimerRuns = s.blockTimerRuns := rfl
@[simp] theorem State.setRun_agent (s : State) (r : Run) : (s.setRun r).agent = s.agent := rfl
@[simp] theorem State.setRun_due (s : State) (r : Run) : (s.setRun r).due = s.due := rfl
@[simp] theorem State.setRun_pending (s : State) (r : Run) : (s.setRun r).pending = s.pending := rfl

@[simp] theorem State.placeCoord_pins (s : State) (q : CoordRequest) : (s.placeCoord q).pins = s.pins := rfl
@[simp] theorem State.placeCoord_timing (s : State) (q : CoordRequest) : (s.placeCoord q).timing = s.timing := rfl
@[simp] theorem State.placeCoord_dport (s : State) (q : CoordRequest) : (s.placeCoord q).dport = s.dport := rfl
@[simp] theorem State.placeCoord_uport (s : State) (q : CoordRequest) : (s.placeCoord q).uport = s.uport := rfl
@[simp] theorem State.placeCoord_switchLead (s : State) (q : CoordRequest) : (s.placeCoord q).switchLead = s.switchLead := rfl
@[simp] theorem State.placeCoord_plan (s : State) (q : CoordRequest) : (s.placeCoord q).plan = s.plan := rfl
@[simp] theorem State.placeCoord_engine (s : State) (q : CoordRequest) : (s.placeCoord q).engine = { s.engine with queue := s.engine.queue ++ [q] } := rfl
@[simp] theorem State.placeCoord_links (s : State) (q : CoordRequest) : (s.placeCoord q).links = s.links := rfl
@[simp] theorem State.placeCoord_retuneQueue (s : State) (q : CoordRequest) : (s.placeCoord q).retuneQueue = s.retuneQueue := rfl
@[simp] theorem State.placeCoord_unit (s : State) (q : CoordRequest) : (s.placeCoord q).unit = s.unit := rfl
@[simp] theorem State.placeCoord_contexts (s : State) (q : CoordRequest) : (s.placeCoord q).contexts = s.contexts := rfl
@[simp] theorem State.placeCoord_confirmWindow (s : State) (q : CoordRequest) : (s.placeCoord q).confirmWindow = s.confirmWindow := rfl
@[simp] theorem State.placeCoord_profiles (s : State) (q : CoordRequest) : (s.placeCoord q).profiles = s.profiles := rfl
@[simp] theorem State.placeCoord_monitors (s : State) (q : CoordRequest) : (s.placeCoord q).monitors = s.monitors := rfl
@[simp] theorem State.placeCoord_samples (s : State) (q : CoordRequest) : (s.placeCoord q).samples = s.samples := rfl
@[simp] theorem State.placeCoord_scan (s : State) (q : CoordRequest) : (s.placeCoord q).scan = s.scan := rfl
@[simp] theorem State.placeCoord_tally (s : State) (q : CoordRequest) : (s.placeCoord q).tally = s.tally := rfl
@[simp] theorem State.placeCoord_mixer (s : State) (q : CoordRequest) : (s.placeCoord q).mixer = s.mixer := rfl
@[simp] theorem State.placeCoord_blockTimerRuns (s : State) (q : CoordRequest) : (s.placeCoord q).blockTimerRuns = s.blockTimerRuns := rfl
@[simp] theorem State.placeCoord_agent (s : State) (q : CoordRequest) : (s.placeCoord q).agent = s.agent := rfl
@[simp] theorem State.placeCoord_due (s : State) (q : CoordRequest) : (s.placeCoord q).due = s.due := rfl
@[simp] theorem State.placeCoord_pending (s : State) (q : CoordRequest) : (s.placeCoord q).pending = s.pending := rfl

@[simp] theorem State.setSettings_pins (s : State) (g : CoordSettings) : (s.setSettings g).pins = s.pins := rfl
@[simp] theorem State.setSettings_timing (s : State) (g : CoordSettings) : (s.setSettings g).timing = s.timing := rfl
@[simp] theorem State.setSettings_dport (s : State) (g : CoordSettings) : (s.setSettings g).dport = s.dport := rfl
@[simp] theorem State.setSettings_uport (s : State) (g : CoordSettings) : (s.setSettings g).uport = s.uport := rfl
@[simp] theorem State.setSettings_switchLead (s : State) (g : CoordSettings) : (s.setSettings g).switchLead = s.switchLead := rfl
@[simp] theorem State.setSettings_plan (s : State) (g : CoordSettings) : (s.setSettings g).plan = { s.plan with settings := g } := rfl
@[simp] theorem State.setSettings_engine (s : State) (g : CoordSettings) : (s.setSettings g).engine = s.engine := rfl
@[simp] theorem State.setSettings_links (s : State) (g : CoordSettings) : (s.setSettings g).links = s.links := rfl
@[simp] theorem State.setSettings_retuneQueue (s : State) (g : CoordSettings) : (s.setSettings g).retuneQueue = s.retuneQueue := rfl
@[simp] theorem State.setSettings_unit (s : State) (g : CoordSettings) : (s.setSettings g).unit = s.unit := rfl
@[simp] theorem State.setSettings_contexts (s : State) (g : CoordSettings) : (s.setSettings g).contexts = s.contexts := rfl
@[simp] theorem State.setSettings_confirmWindow (s : State) (g : CoordSettings) : (s.setSettings g).confirmWindow = s.confirmWindow := rfl
@[simp] theorem State.setSettings_profiles (s : State) (g : CoordSettings) : (s.setSettings g).profiles = s.profiles := rfl
@[simp] theorem State.setSettings_monitors (s : State) (g : CoordSettings) : (s.setSettings g).monitors = s.monitors := rfl
@[simp] theorem State.setSettings_samples (s : State) (g : CoordSettings) : (s.setSettings g).samples = s.samples := rfl
@[simp] theorem State.setSettings_scan (s : State) (g : CoordSettings) : (s.setSettings g).scan = s.scan := rfl
@[simp] theorem State.setSettings_tally (s : State) (g : CoordSettings) : (s.setSettings g).tally = s.tally := rfl
@[simp] theorem State.setSettings_mixer (s : State) (g : CoordSettings) : (s.setSettings g).mixer = s.mixer := rfl
@[simp] theorem State.setSettings_blockTimerRuns (s : State) (g : CoordSettings) : (s.setSettings g).blockTimerRuns = s.blockTimerRuns := rfl
@[simp] theorem State.setSettings_agent (s : State) (g : CoordSettings) : (s.setSettings g).agent = s.agent := rfl
@[simp] theorem State.setSettings_due (s : State) (g : CoordSettings) : (s.setSettings g).due = s.due := rfl
@[simp] theorem State.setSettings_pending (s : State) (g : CoordSettings) : (s.setSettings g).pending = s.pending := rfl

@[simp] theorem State.setInput_pins (s : State) (i : Fin 32) (x : Input) : (s.setInput i x).pins = s.pins := rfl
@[simp] theorem State.setInput_timing (s : State) (i : Fin 32) (x : Input) : (s.setInput i x).timing = s.timing := rfl
@[simp] theorem State.setInput_dport (s : State) (i : Fin 32) (x : Input) : (s.setInput i x).dport = s.dport := rfl
@[simp] theorem State.setInput_uport (s : State) (i : Fin 32) (x : Input) : (s.setInput i x).uport = s.uport := rfl
@[simp] theorem State.setInput_switchLead (s : State) (i : Fin 32) (x : Input) : (s.setInput i x).switchLead = s.switchLead := rfl
@[simp] theorem State.setInput_plan (s : State) (i : Fin 32) (x : Input) : (s.setInput i x).plan = s.plan := rfl
@[simp] theorem State.setInput_engine (s : State) (i : Fin 32) (x : Input) : (s.setInput i x).engine = s.engine := rfl
@[simp] theorem State.setInput_links (s : State) (i : Fin 32) (x : Input) : (s.setInput i x).links = s.links := rfl
@[simp] theorem State.setInput_retuneQueue (s : State) (i : Fin 32) (x : Input) : (s.setInput i x).retuneQueue = s.retuneQueue := rfl
@[simp] theorem State.setInput_unit (s : State) (i : Fin 32) (x : Input) : (s.setInput i x).unit = s.unit := rfl
@[simp] theorem State.setInput_contexts (s : State) (i : Fin 32) (x : Input) : (s.setInput i x).contexts = s.contexts := rfl
@[simp] theorem State.setInput_confirmWindow (s : State) (i : Fin 32) (x : Input) : (s.setInput i x).confirmWindow = s.confirmWindow := rfl
@[simp] theorem State.setInput_profiles (s : State) (i : Fin 32) (x : Input) : (s.setInput i x).profiles = s.profiles := rfl
@[simp] theorem State.setInput_monitors (s : State) (i : Fin 32) (x : Input) : (s.setInput i x).monitors = s.monitors := rfl
@[simp] theorem State.setInput_samples (s : State) (i : Fin 32) (x : Input) : (s.setInput i x).samples = s.samples := rfl
@[simp] theorem State.setInput_scan (s : State) (i : Fin 32) (x : Input) : (s.setInput i x).scan = s.scan := rfl
@[simp] theorem State.setInput_tally (s : State) (i : Fin 32) (x : Input) : (s.setInput i x).tally = s.tally := rfl
@[simp] theorem State.setInput_mixer (s : State) (i : Fin 32) (x : Input) : (s.setInput i x).mixer = { s.mixer with inputs := put s.mixer.inputs i x } := rfl
@[simp] theorem State.setInput_blockTimerRuns (s : State) (i : Fin 32) (x : Input) : (s.setInput i x).blockTimerRuns = s.blockTimerRuns := rfl
@[simp] theorem State.setInput_agent (s : State) (i : Fin 32) (x : Input) : (s.setInput i x).agent = s.agent := rfl
@[simp] theorem State.setInput_due (s : State) (i : Fin 32) (x : Input) : (s.setInput i x).due = s.due := rfl
@[simp] theorem State.setInput_pending (s : State) (i : Fin 32) (x : Input) : (s.setInput i x).pending = s.pending := rfl

@[simp] theorem State.setOutput_pins (s : State) (o : Fin 32) (x : Output) : (s.setOutput o x).pins = s.pins := rfl
@[simp] theorem State.setOutput_timing (s : State) (o : Fin 32) (x : Output) : (s.setOutput o x).timing = s.timing := rfl
@[simp] theorem State.setOutput_dport (s : State) (o : Fin 32) (x : Output) : (s.setOutput o x).dport = s.dport := rfl
@[simp] theorem State.setOutput_uport (s : State) (o : Fin 32) (x : Output) : (s.setOutput o x).uport = s.uport := rfl
@[simp] theorem State.setOutput_switchLead (s : State) (o : Fin 32) (x : Output) : (s.setOutput o x).switchLead = s.switchLead := rfl
@[simp] theorem State.setOutput_plan (s : State) (o : Fin 32) (x : Output) : (s.setOutput o x).plan = s.plan := rfl
@[simp] theorem State.setOutput_engine (s : State) (o : Fin 32) (x : Output) : (s.setOutput o x).engine = s.engine := rfl
@[simp] theorem State.setOutput_links (s : State) (o : Fin 32) (x : Output) : (s.setOutput o x).links = s.links := rfl
@[simp] theorem State.setOutput_retuneQueue (s : State) (o : Fin 32) (x : Output) : (s.setOutput o x).retuneQueue = s.retuneQueue := rfl
@[simp] theorem State.setOutput_unit (s : State) (o : Fin 32) (x : Output) : (s.setOutput o x).unit = s.unit := rfl
@[simp] theorem State.setOutput_contexts (s : State) (o : Fin 32) (x : Output) : (s.setOutput o x).contexts = s.contexts := rfl
@[simp] theorem State.setOutput_confirmWindow (s : State) (o : Fin 32) (x : Output) : (s.setOutput o x).confirmWindow = s.confirmWindow := rfl
@[simp] theorem State.setOutput_profiles (s : State) (o : Fin 32) (x : Output) : (s.setOutput o x).profiles = s.profiles := rfl
@[simp] theorem State.setOutput_monitors (s : State) (o : Fin 32) (x : Output) : (s.setOutput o x).monitors = s.monitors := rfl
@[simp] theorem State.setOutput_samples (s : State) (o : Fin 32) (x : Output) : (s.setOutput o x).samples = s.samples := rfl
@[simp] theorem State.setOutput_scan (s : State) (o : Fin 32) (x : Output) : (s.setOutput o x).scan = s.scan := rfl
@[simp] theorem State.setOutput_tally (s : State) (o : Fin 32) (x : Output) : (s.setOutput o x).tally = s.tally := rfl
@[simp] theorem State.setOutput_mixer (s : State) (o : Fin 32) (x : Output) : (s.setOutput o x).mixer = { s.mixer with outputs := put s.mixer.outputs o x } := rfl
@[simp] theorem State.setOutput_blockTimerRuns (s : State) (o : Fin 32) (x : Output) : (s.setOutput o x).blockTimerRuns = s.blockTimerRuns := rfl
@[simp] theorem State.setOutput_agent (s : State) (o : Fin 32) (x : Output) : (s.setOutput o x).agent = s.agent := rfl
@[simp] theorem State.setOutput_due (s : State) (o : Fin 32) (x : Output) : (s.setOutput o x).due = s.due := rfl
@[simp] theorem State.setOutput_pending (s : State) (o : Fin 32) (x : Output) : (s.setOutput o x).pending = s.pending := rfl

@[simp] theorem State.setCrosspoint_pins (s : State) (i o : Fin 32) (x : Crosspoint) : (s.setCrosspoint i o x).pins = s.pins := rfl
@[simp] theorem State.setCrosspoint_timing (s : State) (i o : Fin 32) (x : Crosspoint) : (s.setCrosspoint i o x).timing = s.timing := rfl
@[simp] theorem State.setCrosspoint_dport (s : State) (i o : Fin 32) (x : Crosspoint) : (s.setCrosspoint i o x).dport = s.dport := rfl
@[simp] theorem State.setCrosspoint_uport (s : State) (i o : Fin 32) (x : Crosspoint) : (s.setCrosspoint i o x).uport = s.uport := rfl
@[simp] theorem State.setCrosspoint_switchLead (s : State) (i o : Fin 32) (x : Crosspoint) : (s.setCrosspoint i o x).switchLead = s.switchLead := rfl
@[simp] theorem State.setCrosspoint_plan (s : State) (i o : Fin 32) (x : Crosspoint) : (s.setCrosspoint i o x).plan = s.plan := rfl
@[simp] theorem State.setCrosspoint_engine (s : State) (i o : Fin 32) (x : Crosspoint) : (s.setCrosspoint i o x).engine = s.engine := rfl
@[simp] theorem State.setCrosspoint_links (s : State) (i o : Fin 32) (x : Crosspoint) : (s.setCrosspoint i o x).links = s.links := rfl
@[simp] theorem State.setCrosspoint_retuneQueue (s : State) (i o : Fin 32) (x : Crosspoint) : (s.setCrosspoint i o x).retuneQueue = s.retuneQueue := rfl
@[simp] theorem State.setCrosspoint_unit (s : State) (i o : Fin 32) (x : Crosspoint) : (s.setCrosspoint i o x).unit = s.unit := rfl
@[simp] theorem State.setCrosspoint_contexts (s : State) (i o : Fin 32) (x : Crosspoint) : (s.setCrosspoint i o x).contexts = s.contexts := rfl
@[simp] theorem State.setCrosspoint_confirmWindow (s : State) (i o : Fin 32) (x : Crosspoint) : (s.setCrosspoint i o x).confirmWindow = s.confirmWindow := rfl
@[simp] theorem State.setCrosspoint_profiles (s : State) (i o : Fin 32) (x : Crosspoint) : (s.setCrosspoint i o x).profiles = s.profiles := rfl
@[simp] theorem State.setCrosspoint_monitors (s : State) (i o : Fin 32) (x : Crosspoint) : (s.setCrosspoint i o x).monitors = s.monitors := rfl
@[simp] theorem State.setCrosspoint_samples (s : State) (i o : Fin 32) (x : Crosspoint) : (s.setCrosspoint i o x).samples = s.samples := rfl
@[simp] theorem State.setCrosspoint_scan (s : State) (i o : Fin 32) (x : Crosspoint) : (s.setCrosspoint i o x).scan = s.scan := rfl
@[simp] theorem State.setCrosspoint_tally (s : State) (i o : Fin 32) (x : Crosspoint) : (s.setCrosspoint i o x).tally = s.tally := rfl
@[simp] theorem State.setCrosspoint_mixer (s : State) (i o : Fin 32) (x : Crosspoint) : (s.setCrosspoint i o x).mixer = { s.mixer with crosspoints := put s.mixer.crosspoints i (put s.mixer.crosspoints[i] o x) } := rfl
@[simp] theorem State.setCrosspoint_blockTimerRuns (s : State) (i o : Fin 32) (x : Crosspoint) : (s.setCrosspoint i o x).blockTimerRuns = s.blockTimerRuns := rfl
@[simp] theorem State.setCrosspoint_agent (s : State) (i o : Fin 32) (x : Crosspoint) : (s.setCrosspoint i o x).agent = s.agent := rfl
@[simp] theorem State.setCrosspoint_due (s : State) (i o : Fin 32) (x : Crosspoint) : (s.setCrosspoint i o x).due = s.due := rfl
@[simp] theorem State.setCrosspoint_pending (s : State) (i o : Fin 32) (x : Crosspoint) : (s.setCrosspoint i o x).pending = s.pending := rfl

@[simp] theorem State.setTiming_pins (s : State) (t : Timing) : (s.setTiming t).pins = s.pins := rfl
@[simp] theorem State.setTiming_timing (s : State) (t : Timing) : (s.setTiming t).timing = t := rfl
@[simp] theorem State.setTiming_dport (s : State) (t : Timing) : (s.setTiming t).dport = s.dport := rfl
@[simp] theorem State.setTiming_uport (s : State) (t : Timing) : (s.setTiming t).uport = s.uport := rfl
@[simp] theorem State.setTiming_switchLead (s : State) (t : Timing) : (s.setTiming t).switchLead = s.switchLead := rfl
@[simp] theorem State.setTiming_plan (s : State) (t : Timing) : (s.setTiming t).plan = s.plan := rfl
@[simp] theorem State.setTiming_engine (s : State) (t : Timing) : (s.setTiming t).engine = s.engine := rfl
@[simp] theorem State.setTiming_links (s : State) (t : Timing) : (s.setTiming t).links = s.links := rfl
@[simp] theorem State.setTiming_retuneQueue (s : State) (t : Timing) : (s.setTiming t).retuneQueue = s.retuneQueue := rfl
@[simp] theorem State.setTiming_unit (s : State) (t : Timing) : (s.setTiming t).unit = s.unit := rfl
@[simp] theorem State.setTiming_contexts (s : State) (t : Timing) : (s.setTiming t).contexts = s.contexts := rfl
@[simp] theorem State.setTiming_confirmWindow (s : State) (t : Timing) : (s.setTiming t).confirmWindow = s.confirmWindow := rfl
@[simp] theorem State.setTiming_profiles (s : State) (t : Timing) : (s.setTiming t).profiles = s.profiles := rfl
@[simp] theorem State.setTiming_monitors (s : State) (t : Timing) : (s.setTiming t).monitors = s.monitors := rfl
@[simp] theorem State.setTiming_samples (s : State) (t : Timing) : (s.setTiming t).samples = s.samples := rfl
@[simp] theorem State.setTiming_scan (s : State) (t : Timing) : (s.setTiming t).scan = s.scan := rfl
@[simp] theorem State.setTiming_tally (s : State) (t : Timing) : (s.setTiming t).tally = s.tally := rfl
@[simp] theorem State.setTiming_mixer (s : State) (t : Timing) : (s.setTiming t).mixer = s.mixer := rfl
@[simp] theorem State.setTiming_blockTimerRuns (s : State) (t : Timing) : (s.setTiming t).blockTimerRuns = s.blockTimerRuns := rfl
@[simp] theorem State.setTiming_agent (s : State) (t : Timing) : (s.setTiming t).agent = s.agent := rfl
@[simp] theorem State.setTiming_due (s : State) (t : Timing) : (s.setTiming t).due = s.due := rfl
@[simp] theorem State.setTiming_pending (s : State) (t : Timing) : (s.setTiming t).pending = s.pending := rfl

@[simp] theorem State.setDLine_pins (s : State) (x : DLine) : (s.setDLine x).pins = s.pins := rfl
@[simp] theorem State.setDLine_timing (s : State) (x : DLine) : (s.setDLine x).timing = s.timing := rfl
@[simp] theorem State.setDLine_dport (s : State) (x : DLine) : (s.setDLine x).dport = { s.dport with line := x } := rfl
@[simp] theorem State.setDLine_uport (s : State) (x : DLine) : (s.setDLine x).uport = s.uport := rfl
@[simp] theorem State.setDLine_switchLead (s : State) (x : DLine) : (s.setDLine x).switchLead = s.switchLead := rfl
@[simp] theorem State.setDLine_plan (s : State) (x : DLine) : (s.setDLine x).plan = s.plan := rfl
@[simp] theorem State.setDLine_engine (s : State) (x : DLine) : (s.setDLine x).engine = s.engine := rfl
@[simp] theorem State.setDLine_links (s : State) (x : DLine) : (s.setDLine x).links = s.links := rfl
@[simp] theorem State.setDLine_retuneQueue (s : State) (x : DLine) : (s.setDLine x).retuneQueue = s.retuneQueue := rfl
@[simp] theorem State.setDLine_unit (s : State) (x : DLine) : (s.setDLine x).unit = s.unit := rfl
@[simp] theorem State.setDLine_contexts (s : State) (x : DLine) : (s.setDLine x).contexts = s.contexts := rfl
@[simp] theorem State.setDLine_confirmWindow (s : State) (x : DLine) : (s.setDLine x).confirmWindow = s.confirmWindow := rfl
@[simp] theorem State.setDLine_profiles (s : State) (x : DLine) : (s.setDLine x).profiles = s.profiles := rfl
@[simp] theorem State.setDLine_monitors (s : State) (x : DLine) : (s.setDLine x).monitors = s.monitors := rfl
@[simp] theorem State.setDLine_samples (s : State) (x : DLine) : (s.setDLine x).samples = s.samples := rfl
@[simp] theorem State.setDLine_scan (s : State) (x : DLine) : (s.setDLine x).scan = s.scan := rfl
@[simp] theorem State.setDLine_tally (s : State) (x : DLine) : (s.setDLine x).tally = s.tally := rfl
@[simp] theorem State.setDLine_mixer (s : State) (x : DLine) : (s.setDLine x).mixer = s.mixer := rfl
@[simp] theorem State.setDLine_blockTimerRuns (s : State) (x : DLine) : (s.setDLine x).blockTimerRuns = s.blockTimerRuns := rfl
@[simp] theorem State.setDLine_agent (s : State) (x : DLine) : (s.setDLine x).agent = s.agent := rfl
@[simp] theorem State.setDLine_due (s : State) (x : DLine) : (s.setDLine x).due = s.due := rfl
@[simp] theorem State.setDLine_pending (s : State) (x : DLine) : (s.setDLine x).pending = s.pending := rfl

@[simp] theorem State.setULine_pins (s : State) (x : ULine) : (s.setULine x).pins = s.pins := rfl
@[simp] theorem State.setULine_timing (s : State) (x : ULine) : (s.setULine x).timing = s.timing := rfl
@[simp] theorem State.setULine_dport (s : State) (x : ULine) : (s.setULine x).dport = s.dport := rfl
@[simp] theorem State.setULine_uport (s : State) (x : ULine) : (s.setULine x).uport = { s.uport with line := x } := rfl
@[simp] theorem State.setULine_switchLead (s : State) (x : ULine) : (s.setULine x).switchLead = s.switchLead := rfl
@[simp] theorem State.setULine_plan (s : State) (x : ULine) : (s.setULine x).plan = s.plan := rfl
@[simp] theorem State.setULine_engine (s : State) (x : ULine) : (s.setULine x).engine = s.engine := rfl
@[simp] theorem State.setULine_links (s : State) (x : ULine) : (s.setULine x).links = s.links := rfl
@[simp] theorem State.setULine_retuneQueue (s : State) (x : ULine) : (s.setULine x).retuneQueue = s.retuneQueue := rfl
@[simp] theorem State.setULine_unit (s : State) (x : ULine) : (s.setULine x).unit = s.unit := rfl
@[simp] theorem State.setULine_contexts (s : State) (x : ULine) : (s.setULine x).contexts = s.contexts := rfl
@[simp] theorem State.setULine_confirmWindow (s : State) (x : ULine) : (s.setULine x).confirmWindow = s.confirmWindow := rfl
@[simp] theorem State.setULine_profiles (s : State) (x : ULine) : (s.setULine x).profiles = s.profiles := rfl
@[simp] theorem State.setULine_monitors (s : State) (x : ULine) : (s.setULine x).monitors = s.monitors := rfl
@[simp] theorem State.setULine_samples (s : State) (x : ULine) : (s.setULine x).samples = s.samples := rfl
@[simp] theorem State.setULine_scan (s : State) (x : ULine) : (s.setULine x).scan = s.scan := rfl
@[simp] theorem State.setULine_tally (s : State) (x : ULine) : (s.setULine x).tally = s.tally := rfl
@[simp] theorem State.setULine_mixer (s : State) (x : ULine) : (s.setULine x).mixer = s.mixer := rfl
@[simp] theorem State.setULine_blockTimerRuns (s : State) (x : ULine) : (s.setULine x).blockTimerRuns = s.blockTimerRuns := rfl
@[simp] theorem State.setULine_agent (s : State) (x : ULine) : (s.setULine x).agent = s.agent := rfl
@[simp] theorem State.setULine_due (s : State) (x : ULine) : (s.setULine x).due = s.due := rfl
@[simp] theorem State.setULine_pending (s : State) (x : ULine) : (s.setULine x).pending = s.pending := rfl

@[simp] theorem State.setQuiesce_pins (s : State) (q : Quiesce) : (s.setQuiesce q).pins = s.pins := rfl
@[simp] theorem State.setQuiesce_timing (s : State) (q : Quiesce) : (s.setQuiesce q).timing = s.timing := rfl
@[simp] theorem State.setQuiesce_dport (s : State) (q : Quiesce) : (s.setQuiesce q).dport = s.dport := rfl
@[simp] theorem State.setQuiesce_uport (s : State) (q : Quiesce) : (s.setQuiesce q).uport = s.uport := rfl
@[simp] theorem State.setQuiesce_switchLead (s : State) (q : Quiesce) : (s.setQuiesce q).switchLead = s.switchLead := rfl
@[simp] theorem State.setQuiesce_plan (s : State) (q : Quiesce) : (s.setQuiesce q).plan = s.plan := rfl
@[simp] theorem State.setQuiesce_engine (s : State) (q : Quiesce) : (s.setQuiesce q).engine = s.engine := rfl
@[simp] theorem State.setQuiesce_links (s : State) (q : Quiesce) : (s.setQuiesce q).links = s.links := rfl
@[simp] theorem State.setQuiesce_retuneQueue (s : State) (q : Quiesce) : (s.setQuiesce q).retuneQueue = s.retuneQueue := rfl
@[simp] theorem State.setQuiesce_unit (s : State) (q : Quiesce) : (s.setQuiesce q).unit = s.unit := rfl
@[simp] theorem State.setQuiesce_contexts (s : State) (q : Quiesce) : (s.setQuiesce q).contexts = s.contexts := rfl
@[simp] theorem State.setQuiesce_confirmWindow (s : State) (q : Quiesce) : (s.setQuiesce q).confirmWindow = s.confirmWindow := rfl
@[simp] theorem State.setQuiesce_profiles (s : State) (q : Quiesce) : (s.setQuiesce q).profiles = s.profiles := rfl
@[simp] theorem State.setQuiesce_monitors (s : State) (q : Quiesce) : (s.setQuiesce q).monitors = s.monitors := rfl
@[simp] theorem State.setQuiesce_samples (s : State) (q : Quiesce) : (s.setQuiesce q).samples = s.samples := rfl
@[simp] theorem State.setQuiesce_scan (s : State) (q : Quiesce) : (s.setQuiesce q).scan = s.scan := rfl
@[simp] theorem State.setQuiesce_tally (s : State) (q : Quiesce) : (s.setQuiesce q).tally = s.tally := rfl
@[simp] theorem State.setQuiesce_mixer (s : State) (q : Quiesce) : (s.setQuiesce q).mixer = s.mixer := rfl
@[simp] theorem State.setQuiesce_blockTimerRuns (s : State) (q : Quiesce) : (s.setQuiesce q).blockTimerRuns = s.blockTimerRuns := rfl
@[simp] theorem State.setQuiesce_agent (s : State) (q : Quiesce) : (s.setQuiesce q).agent = { s.agent with quiesce := q } := rfl
@[simp] theorem State.setQuiesce_due (s : State) (q : Quiesce) : (s.setQuiesce q).due = s.due := rfl
@[simp] theorem State.setQuiesce_pending (s : State) (q : Quiesce) : (s.setQuiesce q).pending = s.pending := rfl

@[simp] theorem State.setFlag_pins (s : State) (n : Notice) (object : Byte) : (s.setFlag n object).pins = s.pins := rfl
@[simp] theorem State.setFlag_timing (s : State) (n : Notice) (object : Byte) : (s.setFlag n object).timing = s.timing := rfl
@[simp] theorem State.setFlag_dport (s : State) (n : Notice) (object : Byte) : (s.setFlag n object).dport = s.dport := rfl
@[simp] theorem State.setFlag_uport (s : State) (n : Notice) (object : Byte) : (s.setFlag n object).uport = s.uport := rfl
@[simp] theorem State.setFlag_switchLead (s : State) (n : Notice) (object : Byte) : (s.setFlag n object).switchLead = s.switchLead := rfl
@[simp] theorem State.setFlag_plan (s : State) (n : Notice) (object : Byte) : (s.setFlag n object).plan = s.plan := rfl
@[simp] theorem State.setFlag_engine (s : State) (n : Notice) (object : Byte) : (s.setFlag n object).engine = s.engine := rfl
@[simp] theorem State.setFlag_links (s : State) (n : Notice) (object : Byte) : (s.setFlag n object).links = s.links := rfl
@[simp] theorem State.setFlag_retuneQueue (s : State) (n : Notice) (object : Byte) : (s.setFlag n object).retuneQueue = s.retuneQueue := rfl
@[simp] theorem State.setFlag_unit (s : State) (n : Notice) (object : Byte) : (s.setFlag n object).unit = s.unit := rfl
@[simp] theorem State.setFlag_contexts (s : State) (n : Notice) (object : Byte) : (s.setFlag n object).contexts = s.contexts := rfl
@[simp] theorem State.setFlag_confirmWindow (s : State) (n : Notice) (object : Byte) : (s.setFlag n object).confirmWindow = s.confirmWindow := rfl
@[simp] theorem State.setFlag_profiles (s : State) (n : Notice) (object : Byte) : (s.setFlag n object).profiles = s.profiles := rfl
@[simp] theorem State.setFlag_monitors (s : State) (n : Notice) (object : Byte) : (s.setFlag n object).monitors = s.monitors := rfl
@[simp] theorem State.setFlag_samples (s : State) (n : Notice) (object : Byte) : (s.setFlag n object).samples = s.samples := rfl
@[simp] theorem State.setFlag_scan (s : State) (n : Notice) (object : Byte) : (s.setFlag n object).scan = s.scan := rfl
@[simp] theorem State.setFlag_tally (s : State) (n : Notice) (object : Byte) : (s.setFlag n object).tally = s.tally := rfl
@[simp] theorem State.setFlag_mixer (s : State) (n : Notice) (object : Byte) : (s.setFlag n object).mixer = s.mixer := rfl
@[simp] theorem State.setFlag_blockTimerRuns (s : State) (n : Notice) (object : Byte) : (s.setFlag n object).blockTimerRuns = s.blockTimerRuns := rfl
@[simp] theorem State.setFlag_agent (s : State) (n : Notice) (object : Byte) : (s.setFlag n object).agent = { s.agent with flags := s.agent.flags.raise n object } := rfl
@[simp] theorem State.setFlag_due (s : State) (n : Notice) (object : Byte) : (s.setFlag n object).due = s.due := rfl
@[simp] theorem State.setFlag_pending (s : State) (n : Notice) (object : Byte) : (s.setFlag n object).pending = s.pending := rfl

@[simp] theorem State.answer_pins (s : State) (r : Request) (res : Result) (data : List Byte) : (s.answer r res data).pins = s.pins := rfl
@[simp] theorem State.answer_timing (s : State) (r : Request) (res : Result) (data : List Byte) : (s.answer r res data).timing = s.timing := rfl
@[simp] theorem State.answer_dport (s : State) (r : Request) (res : Result) (data : List Byte) : (s.answer r res data).dport = s.dport := rfl
@[simp] theorem State.answer_uport (s : State) (r : Request) (res : Result) (data : List Byte) : (s.answer r res data).uport = s.uport := rfl
@[simp] theorem State.answer_switchLead (s : State) (r : Request) (res : Result) (data : List Byte) : (s.answer r res data).switchLead = s.switchLead := rfl
@[simp] theorem State.answer_plan (s : State) (r : Request) (res : Result) (data : List Byte) : (s.answer r res data).plan = s.plan := rfl
@[simp] theorem State.answer_engine (s : State) (r : Request) (res : Result) (data : List Byte) : (s.answer r res data).engine = s.engine := rfl
@[simp] theorem State.answer_links (s : State) (r : Request) (res : Result) (data : List Byte) : (s.answer r res data).links = s.links := rfl
@[simp] theorem State.answer_retuneQueue (s : State) (r : Request) (res : Result) (data : List Byte) : (s.answer r res data).retuneQueue = s.retuneQueue := rfl
@[simp] theorem State.answer_unit (s : State) (r : Request) (res : Result) (data : List Byte) : (s.answer r res data).unit = s.unit := rfl
@[simp] theorem State.answer_contexts (s : State) (r : Request) (res : Result) (data : List Byte) : (s.answer r res data).contexts = s.contexts := rfl
@[simp] theorem State.answer_confirmWindow (s : State) (r : Request) (res : Result) (data : List Byte) : (s.answer r res data).confirmWindow = s.confirmWindow := rfl
@[simp] theorem State.answer_profiles (s : State) (r : Request) (res : Result) (data : List Byte) : (s.answer r res data).profiles = s.profiles := rfl
@[simp] theorem State.answer_monitors (s : State) (r : Request) (res : Result) (data : List Byte) : (s.answer r res data).monitors = s.monitors := rfl
@[simp] theorem State.answer_samples (s : State) (r : Request) (res : Result) (data : List Byte) : (s.answer r res data).samples = s.samples := rfl
@[simp] theorem State.answer_scan (s : State) (r : Request) (res : Result) (data : List Byte) : (s.answer r res data).scan = s.scan := rfl
@[simp] theorem State.answer_tally (s : State) (r : Request) (res : Result) (data : List Byte) : (s.answer r res data).tally = s.tally := rfl
@[simp] theorem State.answer_mixer (s : State) (r : Request) (res : Result) (data : List Byte) : (s.answer r res data).mixer = s.mixer := rfl
@[simp] theorem State.answer_blockTimerRuns (s : State) (r : Request) (res : Result) (data : List Byte) : (s.answer r res data).blockTimerRuns = s.blockTimerRuns := rfl
@[simp] theorem State.answer_agent (s : State) (r : Request) (res : Result) (data : List Byte) : (s.answer r res data).agent = { s.agent with requests := s.agent.requests.map (fun q => if q.id = r.id then { q with phase := .answered } else q), ready := s.agent.ready ++ [{ id := some r.id, cell := replyCell r.src r.tag r.code res data }] } := rfl
@[simp] theorem State.answer_due (s : State) (r : Request) (res : Result) (data : List Byte) : (s.answer r res data).due = s.due := rfl
@[simp] theorem State.answer_pending (s : State) (r : Request) (res : Result) (data : List Byte) : (s.answer r res data).pending = s.pending := rfl

@[simp] theorem State.defer_pins (s : State) (r : Request) : (s.defer r).pins = s.pins := rfl
@[simp] theorem State.defer_timing (s : State) (r : Request) : (s.defer r).timing = s.timing := rfl
@[simp] theorem State.defer_dport (s : State) (r : Request) : (s.defer r).dport = s.dport := rfl
@[simp] theorem State.defer_uport (s : State) (r : Request) : (s.defer r).uport = s.uport := rfl
@[simp] theorem State.defer_switchLead (s : State) (r : Request) : (s.defer r).switchLead = s.switchLead := rfl
@[simp] theorem State.defer_plan (s : State) (r : Request) : (s.defer r).plan = s.plan := rfl
@[simp] theorem State.defer_engine (s : State) (r : Request) : (s.defer r).engine = s.engine := rfl
@[simp] theorem State.defer_links (s : State) (r : Request) : (s.defer r).links = s.links := rfl
@[simp] theorem State.defer_retuneQueue (s : State) (r : Request) : (s.defer r).retuneQueue = s.retuneQueue := rfl
@[simp] theorem State.defer_unit (s : State) (r : Request) : (s.defer r).unit = s.unit := rfl
@[simp] theorem State.defer_contexts (s : State) (r : Request) : (s.defer r).contexts = s.contexts := rfl
@[simp] theorem State.defer_confirmWindow (s : State) (r : Request) : (s.defer r).confirmWindow = s.confirmWindow := rfl
@[simp] theorem State.defer_profiles (s : State) (r : Request) : (s.defer r).profiles = s.profiles := rfl
@[simp] theorem State.defer_monitors (s : State) (r : Request) : (s.defer r).monitors = s.monitors := rfl
@[simp] theorem State.defer_samples (s : State) (r : Request) : (s.defer r).samples = s.samples := rfl
@[simp] theorem State.defer_scan (s : State) (r : Request) : (s.defer r).scan = s.scan := rfl
@[simp] theorem State.defer_tally (s : State) (r : Request) : (s.defer r).tally = s.tally := rfl
@[simp] theorem State.defer_mixer (s : State) (r : Request) : (s.defer r).mixer = s.mixer := rfl
@[simp] theorem State.defer_blockTimerRuns (s : State) (r : Request) : (s.defer r).blockTimerRuns = s.blockTimerRuns := rfl
@[simp] theorem State.defer_agent (s : State) (r : Request) : (s.defer r).agent = { s.agent with requests := s.agent.requests.map fun q => if q.id = r.id then { q with phase := .deferred } else q } := rfl
@[simp] theorem State.defer_due (s : State) (r : Request) : (s.defer r).due = s.due := rfl
@[simp] theorem State.defer_pending (s : State) (r : Request) : (s.defer r).pending = s.pending := rfl

end Sys2Proof.Machine
end

