-- ==== Sys2Proof/Laws/Shell.lean ====
section
/-! SUPPORT. What the blocks' shared operations leave alone: the waiting commands, the pins, the timing state, the work due, the mixer, the D-port's frame slot and line, and every table and setting that management alone writes. One lemma per operation; each gives simp its equations, so that a proof about those fields never unfolds the operation. -/

namespace Sys2Proof.Machine

/-- The fields that no operation of the transmitters changes, nor of the coordination, link, unit channel, monitor, scan and
tally blocks. -/
abbrev SameBeyond (t s : State) : Prop :=
  t.pending = s.pending ∧ t.pins = s.pins ∧ t.timing = s.timing ∧ t.due = s.due ∧ t.mixer = s.mixer
    ∧ t.blockTimerRuns = s.blockTimerRuns ∧ t.switchLead = s.switchLead ∧ t.confirmWindow = s.confirmWindow
    ∧ t.profiles = s.profiles ∧ t.plan.settings = s.plan.settings ∧ t.plan.bands = s.plan.bands
    ∧ t.scan.settings = s.scan.settings ∧ t.scan.segments = s.scan.segments ∧ t.unit.answerTimeout = s.unit.answerTimeout
    ∧ t.tally.timeout = s.tally.timeout ∧ t.tally.action = s.tally.action ∧ t.tally.written = s.tally.written
    ∧ t.agent.enables = s.agent.enables

/-- The fields that the blocks other than the transmitters keep: those, and the D-port's frame slot and line. -/
abbrev SameShell (t s : State) : Prop :=
  SameBeyond t s ∧ t.dport.frameSlot = s.dport.frameSlot ∧ t.dport.line = s.dport.line

theorem SameBeyond.trans {a b c : State} (h : SameBeyond a b) (k : SameBeyond b c) : SameBeyond a c := by
  simp_all [SameBeyond]

theorem SameShell.rfl' (s : State) : SameShell s s := by simp [SameShell, SameBeyond]

theorem SameShell.trans {a b c : State} (h : SameShell a b) (k : SameShell b c) : SameShell a c := by
  simp_all [SameShell, SameBeyond]

/-- A fold of steps that keep the shell keeps it. -/
theorem foldl_shell {α : Type} (f : State → α → State) (h : ∀ s a, SameShell (f s a) s) (l : List α) (s : State) :
    SameShell (l.foldl f s) s := by
  induction l generalizing s with
  | nil => exact SameShell.rfl' s
  | cons a l ih => exact (ih (f s a)).trans (h s a)

@[simp] theorem State.offerReport_shell (s : State) (c : Cell) : SameShell (s.offerReport c) s := by
  unfold State.offerReport; (try dsimp only); repeat' split
  all_goals simp [SameShell, SameBeyond]

@[simp] theorem State.raise_shell (s : State) (n : Notice) (object : Byte) (detail : List Byte) : SameShell (s.raise n object detail) s := by
  unfold State.raise; repeat' split
  all_goals simp [SameShell, SameBeyond]

@[simp] theorem State.raiseReference_shell (s : State) (n : Notice) : SameShell (s.raiseReference n) s := by
  unfold State.raiseReference; (try dsimp only); repeat' split
  all_goals simp [SameShell, SameBeyond]

@[simp] theorem State.modLink_shell (s : State) (l : LinkId) (f : Link → Link) : SameShell (s.modLink l f) s := by
  unfold State.modLink
  all_goals simp [SameShell, SameBeyond]

@[simp] theorem State.modContext_shell (s : State) (k : ContextId) (f : Context → Context) : SameShell (s.modContext k f) s := by
  unfold State.modContext
  all_goals simp [SameShell, SameBeyond]

@[simp] theorem State.offerForward_shell (s : State) (p : Port) (c : Cell) : SameShell (s.offerForward p c) s := by
  unfold State.offerForward; (try dsimp only); repeat' split
  all_goals simp [SameShell, SameBeyond]

@[simp] theorem State.offerAudio_shell (s : State) (p : Port) (c : Cell) : SameShell (s.offerAudio p c) s := by
  unfold State.offerAudio; (try dsimp only); repeat' split
  all_goals simp [SameShell, SameBeyond]

@[simp] theorem State.retargetBackup_shell (s : State) (l : LinkId) : SameShell (s.retargetBackup l) s := by
  unfold State.retargetBackup
  all_goals simp [SameShell, SameBeyond]

@[simp] theorem State.releaseEntry_shell (s : State) (e : EntryId) : SameShell (s.releaseEntry e) s := by
  unfold State.releaseEntry; (try dsimp only); repeat' split
  all_goals simp [SameShell, SameBeyond]

@[simp] theorem State.releaseOpt_shell (s : State) (e : Option EntryId) : SameShell (s.releaseOpt e) s := by
  unfold State.releaseOpt; repeat' split
  all_goals simp [SameShell, SameBeyond]

@[simp] theorem State.noteEntered_shell (s : State) (e : EntryId) (l : LinkId) (st : CarrierState) : SameShell (s.noteEntered e l st) s := by
  unfold State.noteEntered; repeat' split
  all_goals simp [SameShell, SameBeyond]

@[simp] theorem State.changeEntry_shell (s : State) (e : EntryId) (st : CarrierState) : SameShell (s.changeEntry e st) s := by
  unfold State.changeEntry; (try dsimp only); repeat' split
  all_goals simp [SameShell, SameBeyond]

@[simp] theorem State.changeOpt_shell (s : State) (e : Option EntryId) (st : CarrierState) : SameShell (s.changeOpt e st) s := by
  unfold State.changeOpt; repeat' split
  all_goals simp [SameShell, SameBeyond]

@[simp] theorem State.setLinkState_shell (s : State) (l : LinkId) (st : LinkState) : SameShell (s.setLinkState l st) s := by
  unfold State.setLinkState; (try dsimp only); repeat' split
  all_goals simp [SameShell, SameBeyond]

@[simp] theorem State.restartMonitor_shell (s : State) (l : LinkId) : SameShell (s.restartMonitor l) s := by
  unfold State.restartMonitor
  all_goals simp [SameShell, SameBeyond]

@[simp] theorem State.reevaluate_shell (s : State) (l : LinkId) : SameShell (s.reevaluate l) s := by
  unfold State.reevaluate
  all_goals simp [SameShell, SameBeyond]

@[simp] theorem State.fileRetune_shell (s : State) (l : LinkId) (target : Target) (reason : Reason) (force : Bool) : SameShell ((s.fileRetune l target reason force).1) s := by
  unfold State.fileRetune; (try dsimp only); repeat' split
  all_goals simp [SameShell, SameBeyond]

@[simp] theorem State.raiseDropped_shell (s : State) (l : LinkId) (target : Target) (reason : Reason) : SameShell (s.raiseDropped l target reason) s := by
  unfold State.raiseDropped
  all_goals simp [SameShell, SameBeyond]

@[simp] theorem State.autoFile_shell (s : State) (l : LinkId) (target : Target) (reason : Reason) : SameShell ((s.autoFile l target reason).1) s := by
  unfold State.autoFile
  split
  · exact SameShell.rfl' s
  · have h := State.fileRetune_shell s l target reason false
    split <;> simp_all [SameShell, SameBeyond]

@[simp] theorem State.removeFade_shell (s : State) (l : LinkId) : SameShell (s.removeFade l) s := by
  unfold State.removeFade
  all_goals simp [SameShell, SameBeyond]

@[simp] theorem State.removeEntry_shell (s : State) (l : LinkId) : SameShell (s.removeEntry l) s := by
  unfold State.removeEntry
  all_goals simp [SameShell, SameBeyond]

@[simp] theorem State.testDrain_shell (s : State) : SameShell (s.testDrain) s := by
  unfold State.testDrain; (try dsimp only); repeat' split
  all_goals simp [SameShell, SameBeyond]

@[simp] theorem State.setPhase_shell (s : State) (id : Nat) (p : Phase) : SameShell (s.setPhase id p) s := by
  unfold State.setPhase; (try dsimp only)
  all_goals simp [SameShell, SameBeyond]

@[simp] theorem State.answerId_shell (s : State) (id : Nat) (result : Result) (data : List Byte) : SameShell (s.answerId id result data) s := by
  unfold State.answerId; repeat' split
  all_goals simp [SameShell, SameBeyond]

@[simp] theorem State.judgeCommon_shell (s : State) : SameShell (s.judgeCommon) s := by
  unfold State.judgeCommon
  exact foldl_shell _ (fun s q => by simp [SameShell, SameBeyond]) _ s

@[simp] theorem State.raiseBackupLost_shell (s : State) (l : LinkId) (entry : Option EntryId) (cause result : Nat) : SameShell (s.raiseBackupLost l entry cause result) s := by
  unfold State.raiseBackupLost
  all_goals simp [SameShell, SameBeyond]

@[simp] theorem State.autoPick_shell (s : State) (l : LinkId) (alreadyRaised : Bool) : SameShell (s.autoPick l alreadyRaised) s := by
  unfold State.autoPick; repeat' split
  all_goals simp [SameShell, SameBeyond]

@[simp] theorem State.allocate_shell (s : State) (i : SlotId) (q : SlotRequest) : SameShell (s.allocate i q) s := by
  unfold State.allocate; (try dsimp only); repeat' split
  all_goals simp [SameShell, SameBeyond]

@[simp] theorem State.grantOne_shell (s : State) : SameShell (s.grantOne) s := by
  unfold State.grantOne; (try dsimp only); repeat' split
  all_goals simp [SameShell, SameBeyond]

theorem State.grantAll_shell (n : Nat) (s : State) : SameShell (State.grantAll n s) s := by
  induction n generalizing s with
  | zero => exact SameShell.rfl' s
  | succ n ih => exact (ih s.grantOne).trans (State.grantOne_shell s)

@[simp] theorem State.askSlot_shell (s : State) (q : SlotRequest) : SameShell (s.askSlot q) s := by
  unfold State.askSlot
  exact (State.grantAll_shell _ _).trans (by simp [SameShell, SameBeyond])

@[simp] theorem State.offerSlot_shell (s : State) (i : SlotId) : SameShell (s.offerSlot i) s := by
  unfold State.offerSlot; (try dsimp only); repeat' split
  all_goals simp [SameShell, SameBeyond]

@[simp] theorem State.submitPair_shell (s : State) (k : ContextId) : SameShell (s.submitPair k) s := by
  unfold State.submitPair; (try dsimp only); repeat' split
  all_goals simp [SameShell, SameBeyond]

@[simp] theorem State.withdrawSlot_shell (s : State) (i : SlotId) : SameShell (s.withdrawSlot i) s := by
  unfold State.withdrawSlot; (try dsimp only)
  all_goals simp [SameShell, SameBeyond]

@[simp] theorem State.withdrawContext_shell (s : State) (k : ContextId) : SameShell (s.withdrawContext k) s := by
  unfold State.withdrawContext
  dsimp only
  have h : SameShell { s with unit := { s.unit with waiting := s.unit.waiting.filter fun q => !q.owner.ofContext k } } s := by
    simp [SameShell, SameBeyond]
  generalize ({ s with unit := { s.unit with waiting := s.unit.waiting.filter fun q => !q.owner.ofContext k } } : State) = t
    at h ⊢
  have h' := foldl_shell (fun (s : State) (i : SlotId) => if s.unit.slots[i].ownedBy k ∧ s.withdrawable i then s.withdrawSlot i else s)
    (fun s i => by split <;> simp [SameShell, SameBeyond]) (List.finRange 16) t
  generalize List.foldl _ t (List.finRange 16) = u at h' ⊢
  exact SameShell.trans h' h

@[simp] theorem State.askContext_shell (s : State) (k : ContextId) (side : Side) (command : List Byte) (pair : Bool) : SameShell (s.askContext k side command pair) s := by
  unfold State.askContext
  all_goals simp [SameShell, SameBeyond]

@[simp] theorem State.freeIfDone_shell (s : State) (k : ContextId) : SameShell (s.freeIfDone k) s := by
  unfold State.freeIfDone; repeat' split
  all_goals simp [SameShell, SameBeyond]

@[simp] theorem State.close_shell (s : State) (k : ContextId) : SameShell (s.close k) s := by
  unfold State.close
  all_goals simp [SameShell, SameBeyond]

@[simp] theorem State.writeResult_shell (s : State) (k : ContextId) (ending : Ending) (stage : RetuneStage) : SameShell (s.writeResult k ending stage) s := by
  unfold State.writeResult; (try dsimp only)
  all_goals simp [SameShell, SameBeyond]

@[simp] theorem State.raiseFailed_shell (s : State) (k : ContextId) (stage : RetuneStage) (cause : FailCause) : SameShell (s.raiseFailed k stage cause) s := by
  unfold State.raiseFailed; (try dsimp only)
  all_goals simp [SameShell, SameBeyond]

@[simp] theorem State.settleEarly_shell (s : State) (k : ContextId) (ending : Ending) (stage : RetuneStage) : SameShell (s.settleEarly k ending stage) s := by
  unfold State.settleEarly; (try dsimp only); repeat' split
  all_goals simp [SameShell, SameBeyond]

@[simp] theorem State.askCancel_shell (s : State) (k : ContextId) (side : Side) (unit : Byte) : SameShell (s.askCancel k side unit) s := by
  unfold State.askCancel
  all_goals simp [SameShell, SameBeyond]

@[simp] theorem State.askCancelOf_shell (s : State) (k : ContextId) (side : Side) (u : Option Byte) : SameShell (s.askCancelOf k side u) s := by
  unfold State.askCancelOf; split
  all_goals simp [SameShell, SameBeyond]

@[simp] theorem State.closeEarly_shell (s : State) (k : ContextId) : SameShell (s.closeEarly k) s := by
  unfold State.closeEarly
  all_goals simp [SameShell, SameBeyond]

@[simp] theorem State.failPrepare_shell (s : State) (k : ContextId) : SameShell (s.failPrepare k) s := by
  unfold State.failPrepare
  all_goals simp [SameShell, SameBeyond]

@[simp] theorem State.returnRetune_shell (s : State) (l : LinkId) (target : Target) (reason : Reason) (force : Bool) : SameShell ((s.returnRetune l target reason force).1) s := by
  unfold State.returnRetune; repeat' split
  all_goals simp [SameShell, SameBeyond]

@[simp] theorem State.giveBack_shell (s : State) (k : ContextId) : SameShell (s.giveBack k) s := by
  unfold State.giveBack
  dsimp only
  have h := State.settleEarly_shell s k .returned s.contexts[k].stage.named
  generalize s.settleEarly k .returned s.contexts[k].stage.named = t at h ⊢
  have h' := State.returnRetune_shell t s.contexts[k].link s.contexts[k].target s.contexts[k].reason s.contexts[k].force
  generalize t.returnRetune s.contexts[k].link s.contexts[k].target s.contexts[k].reason s.contexts[k].force = p at h' ⊢
  obtain ⟨u, r⟩ := p
  cases r <;> simp_all [SameShell, SameBeyond]

@[simp] theorem State.liveChange_shell (s : State) (k : ContextId) : SameShell (s.liveChange k) s := by
  unfold State.liveChange; (try dsimp only); repeat' split
  all_goals simp [SameShell, SameBeyond]

@[simp] theorem State.enterPrepare_shell (s : State) (k : ContextId) (e : EntryId) : SameShell (s.enterPrepare k e) s := by
  unfold State.enterPrepare; (try dsimp only)
  all_goals simp [SameShell, SameBeyond]

@[simp] theorem State.enterSwitch_shell (s : State) (k : ContextId) : SameShell (s.enterSwitch k) s := by
  unfold State.enterSwitch; (try dsimp only)
  all_goals simp [SameShell, SameBeyond]

@[simp] theorem State.askRevert_shell (s : State) (k : ContextId) : SameShell (s.askRevert k) s := by
  unfold State.askRevert; (try dsimp only); repeat' split
  all_goals simp [SameShell, SameBeyond]

@[simp] theorem State.enterRevert_shell (s : State) (k : ContextId) (cause : RevertCause) : SameShell (s.enterRevert k cause) s := by
  unfold State.enterRevert
  all_goals simp [SameShell, SameBeyond]

@[simp] theorem State.endFailed_shell (s : State) (k : ContextId) (st : LinkState) (stage : RetuneStage) (cause : FailCause) : SameShell (s.endFailed k st stage cause) s := by
  unfold State.endFailed
  all_goals simp [SameShell, SameBeyond]

@[simp] theorem State.endLost_shell (s : State) (k : ContextId) (stage : RetuneStage) (cause : FailCause) : SameShell (s.endLost k stage cause) s := by
  unfold State.endLost
  all_goals simp [SameShell, SameBeyond]

@[simp] theorem State.confirmMove_shell (s : State) (k : ContextId) : SameShell (s.confirmMove k) s := by
  unfold State.confirmMove; (try dsimp only); repeat' split
  all_goals simp [SameShell, SameBeyond]

@[simp] theorem State.confirmRevert_shell (s : State) (k : ContextId) : SameShell (s.confirmRevert k) s := by
  unfold State.confirmRevert
  all_goals simp [SameShell, SameBeyond]

@[simp] theorem State.confirm_shell (s : State) (k : ContextId) : SameShell (s.confirm k) s := by
  unfold State.confirm; repeat' split
  all_goals simp [SameShell, SameBeyond]

@[simp] theorem State.mistune_shell (s : State) (k : ContextId) : SameShell (s.mistune k) s := by
  unfold State.mistune; repeat' split
  all_goals simp [SameShell, SameBeyond]

@[simp] theorem State.profilelessConfirm_shell (s : State) (k : ContextId) : SameShell (s.profilelessConfirm k) s := by
  unfold State.profilelessConfirm; (try dsimp only); repeat' split
  all_goals simp [SameShell, SameBeyond]

@[simp] theorem State.contextSlotEnded_shell (s : State) (k : ContextId) (side : Side) (unit command : Byte) (cond : Condition) : SameShell (s.contextSlotEnded k side unit command cond) s := by
  unfold State.contextSlotEnded; (try dsimp only); repeat' split
  all_goals simp [SameShell, SameBeyond]

@[simp] theorem State.coordEnded_shell (s : State) (k : ContextId) (result : Result) (entry : Option EntryId) (m : CoordSummary) : SameShell (s.coordEnded k result entry m) s := by
  unfold State.coordEnded; (try dsimp only); repeat' split
  all_goals simp [SameShell, SameBeyond]

@[simp] theorem State.takeEntry_shell (s : State) (k : ContextId) (e : QueueEntry) : SameShell (s.takeEntry k e) s := by
  unfold State.takeEntry; (try dsimp only); repeat' split
  all_goals simp [SameShell, SameBeyond]

@[simp] theorem State.contextTake_shell (s : State) : SameShell (s.contextTake) s := by
  unfold State.contextTake; repeat' split
  all_goals simp [SameShell, SameBeyond]

@[simp] theorem State.switchFrame_shell (s : State) (k : ContextId) : SameShell (s.switchFrame k) s := by
  unfold State.switchFrame; (try dsimp only); repeat' split
  all_goals simp [SameShell, SameBeyond]

@[simp] theorem State.confirmDeadline_shell (s : State) (k : ContextId) : SameShell (s.confirmDeadline k) s := by
  unfold State.confirmDeadline; (try dsimp only); repeat' split
  all_goals simp [SameShell, SameBeyond]

@[simp] theorem State.revertFrame_shell (s : State) (k : ContextId) : SameShell (s.revertFrame k) s := by
  unfold State.revertFrame; (try dsimp only); repeat' split
  all_goals simp [SameShell, SameBeyond]

@[simp] theorem State.revertExpiry_shell (s : State) (k : ContextId) : SameShell (s.revertExpiry k) s := by
  unfold State.revertExpiry; (try dsimp only); repeat' split
  all_goals simp [SameShell, SameBeyond]

@[simp] theorem State.abortContext_shell (s : State) (l : LinkId) (removed : Bool) : SameShell ((s.abortContext l removed).1) s := by
  unfold State.abortContext
  dsimp only
  repeat' split
  all_goals simp [SameShell, SameBeyond]

@[simp] theorem State.endRequest_shell (s : State) (q : CoordRequest) (result : Result) (entry : Option EntryId) (last : Option TryRecord) (tries : Nat) : SameShell (s.endRequest q result entry last tries) s := by
  unfold State.endRequest; (try dsimp only); repeat' split
  all_goals simp [SameShell, SameBeyond]

@[simp] theorem State.searchOn_shell (s : State) (q : CoordRequest) (cls : CarrierClass) (list visits : List Nat) (tries : Nat) (last : Option TryRecord) : SameShell (s.searchOn q cls list visits tries last) s := by
  unfold State.searchOn; repeat' split
  all_goals simp [SameShell, SameBeyond]

@[simp] theorem State.startRequest_shell (s : State) : SameShell (s.startRequest) s := by
  unfold State.startRequest; (try dsimp only); repeat' split
  all_goals simp [SameShell, SameBeyond]

@[simp] theorem State.admitCarrier_shell (s : State) (q : CoordRequest) (e : EntryId) (cls : CarrierClass) (o : RawOutcome) : SameShell (s.admitCarrier q e cls o) s := by
  unfold State.admitCarrier; (try dsimp only); repeat' split
  all_goals simp [SameShell, SameBeyond]

@[simp] theorem State.tryFailed_shell (s : State) (q : CoordRequest) (r : Run) (tr : TryRecord) : SameShell (s.tryFailed q r tr) s := by
  unfold State.tryFailed; repeat' split
  all_goals simp [SameShell, SameBeyond]

@[simp] theorem State.tryPassed_shell (s : State) (q : CoordRequest) (r : Run) : SameShell (s.tryPassed q r) s := by
  unfold State.tryPassed; (try dsimp only); repeat' split
  all_goals simp [SameShell, SameBeyond]

@[simp] theorem State.completeAttempt_shell (s : State) : SameShell (s.completeAttempt) s := by
  unfold State.completeAttempt; (try dsimp only); repeat' split
  all_goals simp [SameShell, SameBeyond]

@[simp] theorem State.markStale_shell (s : State) : SameShell (s.markStale) s := by
  unfold State.markStale; (try dsimp only)
  all_goals simp [SameShell, SameBeyond]

@[simp] theorem State.setSweeper_shell (s : State) (r : Receiver) (x : Sweeper) : SameShell (s.setSweeper r x) s := by
  unfold State.setSweeper; (try dsimp only); repeat' split
  all_goals simp [SameShell, SameBeyond]

@[simp] theorem State.startSegment_shell (s : State) (r : Receiver) : SameShell (s.startSegment r) s := by
  unfold State.startSegment; repeat' split
  all_goals simp [SameShell, SameBeyond]

@[simp] theorem State.beginScan_shell (s : State) : SameShell (s.beginScan) s := by
  unfold State.beginScan; (try dsimp only)
  all_goals simp [SameShell, SameBeyond]

@[simp] theorem State.raiseStartIgnored_shell (s : State) (source : Nat) : SameShell (s.raiseStartIgnored source) s := by
  unfold State.raiseStartIgnored
  all_goals simp [SameShell, SameBeyond]

@[simp] theorem State.scanTrigger_shell (s : State) : SameShell (s.scanTrigger) s := by
  unfold State.scanTrigger; repeat' split
  all_goals simp [SameShell, SameBeyond]

@[simp] theorem State.takePoint_shell (s : State) (r : Receiver) (g : Segment) (stepIndex : Nat) (level : Int) : SameShell (s.takePoint r g stepIndex level) s := by
  unfold State.takePoint; (try dsimp only); repeat' split
  all_goals simp [SameShell, SameBeyond]

@[simp] theorem State.takeSweep_shell (s : State) (r : Receiver) (data : List Byte) : SameShell (s.takeSweep r data) s := by
  unfold State.takeSweep
  repeat' split
  all_goals first | exact SameShell.rfl' s | exact foldl_shell _ (fun s p => by simp [SameShell, SameBeyond]) _ s

@[simp] theorem State.setAside_shell (s : State) (r : Receiver) : SameShell (s.setAside r) s := by
  unfold State.setAside; (try dsimp only)
  all_goals simp [SameShell, SameBeyond]

@[simp] theorem State.raiseGone_shell (s : State) (position : Nat) (x : Foreign) (cause : Nat) : SameShell (s.raiseGone position x cause) s := by
  unfold State.raiseGone
  all_goals simp [SameShell, SameBeyond]

@[simp] theorem State.setSuspect_shell (s : State) (e : EntryId) : SameShell (s.setSuspect e) s := by
  unfold State.setSuspect; (try dsimp only)
  all_goals simp [SameShell, SameBeyond]

@[simp] theorem State.raiseOnCarrier_shell (s : State) (e : EntryId) (x : Foreign) : SameShell (s.raiseOnCarrier e x) s := by
  unfold State.raiseOnCarrier; (try dsimp only)
  all_goals simp [SameShell, SameBeyond]

@[simp] theorem State.conflictWith_shell (s : State) (x : Foreign) (update : Bool) (e : EntryId) : SameShell (s.conflictWith x update e) s := by
  unfold State.conflictWith; (try dsimp only); repeat' split
  all_goals simp [SameShell, SameBeyond]

@[simp] theorem State.foreignConflict_shell (s : State) (x : Foreign) (update : Bool) : SameShell (s.foreignConflict x update) s := by
  unfold State.foreignConflict
  exact foldl_shell _ (fun s e => by simp [SameShell, SameBeyond]) _ s

@[simp] theorem State.insertForeign_shell (s : State) (d : Detection) : SameShell (s.insertForeign d) s := by
  unfold State.insertForeign; (try dsimp only)
  all_goals simp [SameShell, SameBeyond]

@[simp] theorem State.removeForeign_shell (s : State) (p : Nat) (x : Foreign) (cause : Nat) : SameShell (s.removeForeign p x cause) s := by
  unfold State.removeForeign; (try dsimp only)
  all_goals simp [SameShell, SameBeyond]

@[simp] theorem State.applyDetection_shell (s : State) (d : Detection) : SameShell (s.applyDetection d) s := by
  unfold State.applyDetection; (try dsimp only); repeat' split
  all_goals simp [SameShell, SameBeyond]

@[simp] theorem State.raiseScanDone_shell (s : State) : SameShell (s.raiseScanDone) s := by
  unfold State.raiseScanDone
  all_goals simp [SameShell, SameBeyond]

theorem State.removeAged_shell (xs : List Foreign) (p : Nat) (s : State) : SameShell (s.removeAged p xs) s := by
  induction xs generalizing p s with
  | nil => exact SameShell.rfl' s
  | cons x xs ih =>
    unfold State.removeAged
    split
    · exact (ih p _).trans (by simp [SameShell, SameBeyond])
    · exact ih _ s

@[simp] theorem State.ageForeign_shell (s : State) : SameShell (s.ageForeign) s := by
  unfold State.ageForeign
  exact (State.removeAged_shell _ _ _).trans (by simp [SameShell, SameBeyond])

@[simp] theorem State.afterScan_shell (s : State) : SameShell (s.afterScan) s := by
  unfold State.afterScan; (try dsimp only); repeat' split
  all_goals simp [SameShell, SameBeyond]

@[simp] theorem State.endScan_shell (s : State) : SameShell (s.endScan) s := by
  unfold State.endScan
  all_goals simp [SameShell, SameBeyond]

@[simp] theorem State.segmentDone_shell (s : State) (r : Receiver) : SameShell (s.segmentDone r) s := by
  unfold State.segmentDone
  have h := foldl_shell State.applyDetection (fun s d => by simp [SameShell, SameBeyond]) (sortDetections (s.sweeper r).results) s
  simp_all [SameShell, SameBeyond]

@[simp] theorem State.segmentFailed_shell (s : State) (r : Receiver) (i : Fin 16) (cond : Condition) : SameShell (s.segmentFailed r i cond) s := by
  unfold State.segmentFailed; (try dsimp only)
  all_goals simp [SameShell, SameBeyond]

@[simp] theorem State.segmentEnded_shell (s : State) (r : Receiver) (cond : Condition) : SameShell (s.segmentEnded r cond) s := by
  unfold State.segmentEnded; (try dsimp only); repeat' split
  all_goals simp [SameShell, SameBeyond]

@[simp] theorem State.stopScan_shell (s : State) : SameShell (s.stopScan) s := by
  unfold State.stopScan; (try dsimp only); repeat' split
  all_goals simp [SameShell, SameBeyond]

@[simp] theorem State.startTally_shell (s : State) (l : LinkId) (d : Display) : SameShell (s.startTally l d) s := by
  unfold State.startTally; (try dsimp only)
  all_goals simp [SameShell, SameBeyond]

@[simp] theorem State.setWanted_shell (s : State) (l : LinkId) (d : Display) : SameShell (s.setWanted l d) s := by
  unfold State.setWanted; (try dsimp only); repeat' split
  all_goals simp [SameShell, SameBeyond]

@[simp] theorem State.tallySlotEnded_shell (s : State) (l : LinkId) (unit : Byte) (cond : Condition) : SameShell (s.tallySlotEnded l unit cond) s := by
  unfold State.tallySlotEnded; (try dsimp only); repeat' split
  all_goals simp [SameShell, SameBeyond]

@[simp] theorem State.tallyUnitStart_shell (s : State) (unit : Byte) : SameShell (s.tallyUnitStart unit) s := by
  unfold State.tallyUnitStart
  exact foldl_shell _ (fun s l => by dsimp only; repeat' split
                                     all_goals simp [SameShell, SameBeyond]) _ s

@[simp] theorem State.setLamps_shell (s : State) (level : Fin 16 → Bool) : SameShell (s.setLamps level) s := by
  unfold State.setLamps; (try dsimp only)
  all_goals simp [SameShell, SameBeyond]

@[simp] theorem State.setDisplays_shell (s : State) (d : LinkId → Display) : SameShell (s.setDisplays d) s := by
  unfold State.setDisplays
  exact foldl_shell _ (fun s l => by split <;> simp [SameShell, SameBeyond]) _ s

@[simp] theorem State.workLive_shell (s : State) (l : LinkId) : SameShell (s.workLive l) s := by
  unfold State.workLive; (try dsimp only); repeat' split
  all_goals simp [SameShell, SameBeyond]

@[simp] theorem State.adopt_shell (s : State) : SameShell (s.adopt) s := by
  unfold State.adopt; (try dsimp only)
  all_goals simp [SameShell, SameBeyond]

@[simp] theorem State.applyTally_shell (s : State) : SameShell (s.applyTally) s := by
  unfold State.applyTally
  have h := foldl_shell State.workLive (fun s l => by simp [SameShell, SameBeyond]) (List.finRange 80) s.adopt
  simp_all [SameShell, SameBeyond]

@[simp] theorem State.staleAction_shell (s : State) : SameShell (s.staleAction) s := by
  unfold State.staleAction; (try dsimp only); repeat' split
  all_goals simp [SameShell, SameBeyond]

@[simp] theorem State.tallyFrame_shell (s : State) : SameShell (s.tallyFrame) s := by
  unfold State.tallyFrame; (try dsimp only); repeat' split
  all_goals simp [SameShell, SameBeyond]

@[simp] theorem State.tallyTimeout_shell (s : State) : SameShell (s.tallyTimeout) s := by
  unfold State.tallyTimeout; (try dsimp only); repeat' split
  all_goals simp [SameShell, SameBeyond]

@[simp] theorem State.takeTally_shell (s : State) (data : List Byte) : SameShell (s.takeTally data) s := by
  unfold State.takeTally; (try dsimp only); repeat' split
  all_goals simp [SameShell, SameBeyond]

@[simp] theorem State.storeSample_shell (s : State) (l : LinkId) (x : Sample) : SameShell (s.storeSample l x) s := by
  unfold State.storeSample; (try dsimp only)
  all_goals simp [SameShell, SameBeyond]

@[simp] theorem State.lockTest_shell (s : State) (l : LinkId) (p : Profile) (x : Sample) : SameShell (s.lockTest l p x) s := by
  unfold State.lockTest; (try dsimp only); repeat' split
  all_goals simp [SameShell, SameBeyond]

@[simp] theorem State.batteryTest_shell (s : State) (l : LinkId) (p : Profile) (x : Sample) : SameShell (s.batteryTest l p x) s := by
  unfold State.batteryTest; (try dsimp only); repeat' split
  all_goals simp [SameShell, SameBeyond]

@[simp] theorem State.batteryTestOf_shell (s : State) (l : LinkId) (x : Sample) : SameShell (s.batteryTestOf l x) s := by
  unfold State.batteryTestOf; repeat' split
  all_goals simp [SameShell, SameBeyond]

@[simp] theorem State.crossLow_shell (s : State) (l : LinkId) (p : Profile) (x : Sample) (rising : Bool) : SameShell (s.crossLow l p x rising) s := by
  unfold State.crossLow; (try dsimp only); repeat' split
  all_goals simp [SameShell, SameBeyond]

@[simp] theorem State.crossHigh_shell (s : State) (l : LinkId) (p : Profile) (x : Sample) (rising : Bool) : SameShell (s.crossHigh l p x rising) s := by
  unfold State.crossHigh; (try dsimp only); repeat' split
  all_goals simp [SameShell, SameBeyond]

@[simp] theorem State.overload_shell (s : State) (l : LinkId) (x : Sample) : SameShell (s.overload l x) s := by
  unfold State.overload
  all_goals simp [SameShell, SameBeyond]

@[simp] theorem State.crossings_shell (s : State) (l : LinkId) (p : Profile) (x : Sample) (before after : LevelSide) : SameShell (s.crossings l p x before after) s := by
  unfold State.crossings; repeat' split
  all_goals simp [SameShell, SameBeyond]

@[simp] theorem State.interference_shell (s : State) (l : LinkId) (x : Sample) : SameShell (s.interference l x) s := by
  unfold State.interference; (try dsimp only); repeat' split
  all_goals simp [SameShell, SameBeyond]

@[simp] theorem State.fade_shell (s : State) (l : LinkId) (x : Sample) : SameShell (s.fade l x) s := by
  unfold State.fade
  dsimp only
  generalize u8 _ ++ s8 x.corrected ++ u8 x.quality = d
  have h : SameShell ((s.setLinkState l .faded).raise .fade (linkByte l) d) s := by simp [SameShell, SameBeyond]
  generalize (s.setLinkState l .faded).raise .fade (linkByte l) d = t at h ⊢
  have h' := State.autoFile_shell t l .backup .fade
  generalize t.autoFile l .backup .fade = p at h' ⊢
  obtain ⟨u, r⟩ := p
  cases r with
  | none => simp only; split <;> simp_all [SameShell, SameBeyond]
  | some f => simp only; repeat' split
              all_goals simp_all [SameShell, SameBeyond]

@[simp] theorem State.recover_shell (s : State) (l : LinkId) (x : Sample) (cause : Nat) : SameShell (s.recover l x cause) s := by
  unfold State.recover
  all_goals simp [SameShell, SameBeyond]

@[simp] theorem State.fadeOrRecover_shell (s : State) (l : LinkId) (x : Sample) : SameShell (s.fadeOrRecover l x) s := by
  unfold State.fadeOrRecover; (try dsimp only); repeat' split
  all_goals simp [SameShell, SameBeyond]

@[simp] theorem State.filterSample_shell (s : State) (l : LinkId) (p : Profile) (x : Sample) : SameShell (s.filterSample l p x) s := by
  unfold State.filterSample; (try dsimp only); repeat' split
  all_goals simp [SameShell, SameBeyond]

@[simp] theorem State.raiseMistuned_shell (s : State) (l : LinkId) (tuned wanted : Nat) : SameShell (s.raiseMistuned l tuned wanted) s := by
  unfold State.raiseMistuned
  all_goals simp [SameShell, SameBeyond]

@[simp] theorem State.sampleUp_shell (s : State) (l : LinkId) (x : Sample) : SameShell (s.sampleUp l x) s := by
  unfold State.sampleUp; repeat' split
  all_goals simp [SameShell, SameBeyond]

@[simp] theorem State.sampleLost_shell (s : State) (l : LinkId) (x : Sample) : SameShell (s.sampleLost l x) s := by
  unfold State.sampleLost; (try dsimp only); repeat' split
  all_goals simp [SameShell, SameBeyond]

@[simp] theorem State.sampleConfirm_shell (s : State) (l : LinkId) (k : ContextId) (x : Sample) : SameShell (s.sampleConfirm l k x) s := by
  unfold State.sampleConfirm; (try dsimp only); repeat' split
  all_goals simp [SameShell, SameBeyond]

@[simp] theorem State.sampleMoving_shell (s : State) (l : LinkId) (x : Sample) : SameShell (s.sampleMoving l x) s := by
  unfold State.sampleMoving; (try dsimp only); repeat' split
  all_goals simp [SameShell, SameBeyond]

@[simp] theorem State.handleSample_shell (s : State) (l : LinkId) (x : Sample) : SameShell (s.handleSample l x) s := by
  unfold State.handleSample; repeat' split
  all_goals simp [SameShell, SameBeyond]

@[simp] theorem State.takeTelemetry_shell (s : State) (c : Cell) : SameShell (s.takeTelemetry c) s := by
  unfold State.takeTelemetry; (try dsimp only); repeat' split
  all_goals simp [SameShell, SameBeyond]

@[simp] theorem State.countSilence_shell (s : State) : SameShell (s.countSilence) s := by
  unfold State.countSilence
  all_goals simp [SameShell, SameBeyond]

@[simp] theorem State.telemetryTimeout_shell (s : State) (l : LinkId) : SameShell (s.telemetryTimeout l) s := by
  unfold State.telemetryTimeout; repeat' split
  all_goals simp [SameShell, SameBeyond]

@[simp] theorem State.handOver_shell (s : State) (x : Slot) (cond : Condition) (data : List Byte) : SameShell (s.handOver x cond data) s := by
  unfold State.handOver; (try dsimp only); repeat' split
  all_goals simp [SameShell, SameBeyond]

@[simp] theorem State.endSlot_shell (s : State) (i : SlotId) (cond : Condition) (data : List Byte) : SameShell (s.endSlot i cond data) s := by
  unfold State.endSlot; (try dsimp only)
  all_goals simp [SameShell, SameBeyond]

@[simp] theorem State.noteResend_shell (s : State) (x : Slot) : SameShell (s.noteResend x) s := by
  unfold State.noteResend; repeat' split
  all_goals simp [SameShell, SameBeyond]

@[simp] theorem State.retrySlot_shell (s : State) (i : SlotId) : SameShell (s.retrySlot i) s := by
  unfold State.retrySlot; (try dsimp only); repeat' split
  all_goals simp [SameShell, SameBeyond]

@[simp] theorem State.stray_shell (s : State) (c : Cell) : SameShell (s.stray c) s := by
  unfold State.stray
  all_goals simp [SameShell, SameBeyond]

@[simp] theorem State.rewriteCell_shell (s : State) (i : SlotId) (x : Slot) : SameShell (s.rewriteCell i x) s := by
  unfold State.rewriteCell; (try dsimp only)
  all_goals simp [SameShell, SameBeyond]

theorem State.startEffect_shell (s t : State) (i : SlotId) : SameShell ((s.startEffect i).2 t) t := by
  unfold State.startEffect
  dsimp only
  repeat' split
  all_goals simp [SameShell, SameBeyond]

@[simp] theorem State.takeStart_shell (s : State) (c : Cell) : SameShell (s.takeStart c) s := by
  unfold State.takeStart
  split
  · dsimp only
    split
    · rename_i i _
      have h : SameShell ((s.setToggle c.src false).raise .unitStart c.src (u8 (s.startEffect i).1)) s := by simp [SameShell, SameBeyond]
      generalize (s.setToggle c.src false).raise .unitStart c.src (u8 (s.startEffect i).1) = t at h ⊢
      have h' := State.startEffect_shell s t i
      generalize (s.startEffect i).2 t = u at h' ⊢
      have h'' := State.tallyUnitStart_shell u c.src
      generalize u.tallyUnitStart c.src = v at h'' ⊢
      exact SameShell.trans h'' (SameShell.trans h' h)
    · simp [SameShell, SameBeyond]
  · simp [SameShell, SameBeyond]

@[simp] theorem State.flipToggle_shell (s : State) (u : Byte) : SameShell (s.flipToggle u) s := by
  unfold State.flipToggle
  all_goals simp [SameShell, SameBeyond]

@[simp] theorem State.takeAnswer_shell (s : State) (c : Cell) : SameShell (s.takeAnswer c) s := by
  unfold State.takeAnswer; (try dsimp only); repeat' split
  all_goals simp [SameShell, SameBeyond]

@[simp] theorem State.takeSweepCell_shell (s : State) (c : Cell) : SameShell (s.takeSweepCell c) s := by
  unfold State.takeSweepCell; (try dsimp only); repeat' split
  all_goals simp [SameShell, SameBeyond]

@[simp] theorem State.answerDeadline_shell (s : State) (i : SlotId) : SameShell (s.answerDeadline i) s := by
  unfold State.answerDeadline; repeat' split
  all_goals simp [SameShell, SameBeyond]

@[simp] theorem State.commitPair_shell (s : State) (k : ContextId) : SameBeyond (s.commitPair k) s := by
  unfold State.commitPair; (try dsimp only)
  all_goals simp [SameBeyond]

theorem State.chooseD_shell (n : Nat) (s : State) : SameBeyond (State.chooseD n s) s := by
  induction n generalizing s with
  | zero => simp [State.chooseD, SameBeyond]
  | succ n ih =>
    unfold State.chooseD
    repeat' split
    all_goals first | exact SameBeyond.trans (ih _) (State.liveChange_shell _ _).1 | simp [SameBeyond]

@[simp] theorem State.startD_shell (s : State) : SameBeyond s.startD s := by
  unfold State.startD
  split
  · exact State.chooseD_shell _ s
  · simp [SameBeyond]

@[simp] theorem State.startU_shell (s : State) : SameBeyond (s.startU) s := by
  unfold State.startU; repeat' split
  all_goals simp [SameBeyond]

@[simp] theorem State.slotSent_shell (s : State) (i : SlotId) : SameBeyond (s.slotSent i) s := by
  unfold State.slotSent; (try dsimp only); repeat' split
  all_goals simp [SameBeyond]

@[simp] theorem State.cellSent_shell (s : State) (q : UnitCell) : SameBeyond (s.cellSent q) s := by
  unfold State.cellSent; (try dsimp only); repeat' split
  all_goals simp [SameBeyond]

@[simp] theorem State.completeD_shell (s : State) : SameBeyond (s.completeD) s := by
  unfold State.completeD; (try dsimp only); repeat' split
  all_goals simp [SameBeyond]

@[simp] theorem State.completeU_shell (s : State) : SameBeyond (s.completeU) s := by
  unfold State.completeU; (try dsimp only); repeat' split
  all_goals simp [SameBeyond]

@[simp] theorem State.offerReply_shell (s : State) : SameBeyond (s.offerReply) s := by
  unfold State.offerReply; (try dsimp only); repeat' split
  all_goals simp [SameBeyond]

end Sys2Proof.Machine
end

