-- ==== Sys2Proof/Laws/Commands.lean ====
section
/-! SUPPORT. What the shared operations around every command do, said once: the finishing of a frame event, the taking of a request with its answer, and the reading of indices and codes. -/

namespace Sys2Proof.Machine

/-! ### The finishing of a frame event -/

@[simp] theorem State.finishFrame_of_idle {s : State} (h : s.due = []) : s.finishFrame = s := by
  simp [State.finishFrame, h]

theorem State.actDue_shell (s : State) (d : DueStep) : SameShell (s.actDue d) s := by
  cases d <;> simp [State.actDue, SameShell, SameBeyond]

/-- Whatever of a frame event's work is still due, taking it leaves the parts that the work of a frame event never touches. -/
abbrev SameRest (t s : State) : Prop :=
  t.pending = s.pending ∧ t.pins = s.pins ∧ t.timing = s.timing ∧ t.mixer = s.mixer
    ∧ t.blockTimerRuns = s.blockTimerRuns ∧ t.switchLead = s.switchLead ∧ t.confirmWindow = s.confirmWindow
    ∧ t.profiles = s.profiles ∧ t.plan.settings = s.plan.settings ∧ t.plan.bands = s.plan.bands
    ∧ t.scan.settings = s.scan.settings ∧ t.scan.segments = s.scan.segments ∧ t.unit.answerTimeout = s.unit.answerTimeout
    ∧ t.tally.timeout = s.tally.timeout ∧ t.tally.action = s.tally.action ∧ t.tally.written = s.tally.written
    ∧ t.agent.enables = s.agent.enables

theorem State.dueStep_rest (s : State) (d : DueStep) : SameRest (s.dueStep d) s := by
  unfold State.dueStep; split
  · have h := State.actDue_shell { s with due := s.due.erase d } d
    simp_all [SameShell, SameBeyond, SameRest]
  · simp [SameRest]

theorem State.finishFrame_rest (s : State) : SameRest s.finishFrame s := by
  have along : ∀ (l : List DueStep) (s : State), SameRest (l.foldl State.dueStep s) s := by
    intro l; induction l with
    | nil => intro s; simp [SameRest]
    | cons d l ih =>
      intro s
      have h := ih (s.dueStep d)
      have h' := State.dueStep_rest s d
      simp_all [SameRest]
  exact along _ s

/-- A step of a frame event that is due is taken from the due list and has its effect. -/
theorem State.dueStep_of_mem {s : State} {d : DueStep} (h : d ∈ s.due) :
    s.dueStep d = State.actDue { s with due := s.due.erase d } d := by simp [State.dueStep, h]

theorem State.dueStep_of_not_mem {s : State} {d : DueStep} (h : d ∉ s.due) : s.dueStep d = s := by
  simp [State.dueStep, h]

/-- A step takes itself off the due list, and nothing else of it. -/
@[simp] theorem State.dueStep_due (s : State) (d : DueStep) : (s.dueStep d).due = s.due.erase d := by
  unfold State.dueStep; split
  · have h := State.actDue_shell { s with due := s.due.erase d } d
    simp_all [SameShell, SameBeyond]
  · rename_i h; simp [List.erase_of_not_mem h]

/-! ### The taking of a request (R187) -/

theorem commonlyJudged_of_none_arrived (rs : List Request) (h : ∀ q ∈ rs, q.phase ≠ .arrived) : commonlyJudged rs = [] := by
  induction rs with
  | nil => rfl
  | cons a l ih =>
    simp only [commonlyJudged]
    rw [if_neg (h a (by simp))]
    exact ih fun q hq => h q (by simp [hq])

theorem commonlyJudged_append (rs : List Request) (r : Request) (h : ∀ q ∈ rs, q.phase ≠ .arrived) :
    commonlyJudged (rs ++ [r]) = commonlyJudged [r] := by
  induction rs with
  | nil => rfl
  | cons a l ih =>
    simp only [List.cons_append, commonlyJudged]
    rw [if_neg (h a (by simp))]
    exact ih fun q hq => h q (by simp [hq])

/-- With one request out of the way, nothing is judged commonly when the next one waiting is for an owning rule. -/
theorem commonlyJudged_of_next (rs : List Request) (r : Request) (p : Phase) (hp : p ≠ .arrived)
    (h : (rs.find? fun q => decide (q.phase = .arrived) && decide (q.id ≠ r.id)).all (fun q => (commonJudgement q).isNone) = true) :
    commonlyJudged (rs.map fun q => if q.id = r.id then { q with phase := p } else q) = [] := by
  induction rs with
  | nil => rfl
  | cons a l ih =>
    simp only [List.map_cons, commonlyJudged]
    rw [List.find?_cons] at h
    by_cases ha : a.id = r.id
    · simp [ha] at h
      simpa [ha, hp] using ih (by simpa using h)
    · by_cases hb : a.phase = .arrived
      · simp [hb, ha] at h
        simp [ha, hb, h]
      · simp [ha, hb] at h
        simpa [ha, hb] using ih (by simpa using h)

/-- The row of the request that the agent is about to take has its effect, where nothing behind it is judged commonly. -/
theorem State.take_of_takes {s : State} {r : Request} (h : s.Takes r) (row : Request → Bool) (f : State → Request → State)
    (hrow : row r = true) (hf : commonlyJudged (f s r).agent.requests = []) : s.finishFrame.take row f = f s r := by
  obtain ⟨h1, h2, _⟩ := h
  simp [State.finishFrame_of_idle h1, State.take, h2, hrow, State.judgeCommon, hf]

/-- A row whose effect ends in an answer. -/
theorem State.take_eq_answer {s t : State} {r : Request} {res : Result} {data : List Byte} (h : s.Takes r)
    (row : Request → Bool) (f : State → Request → State) (hrow : row r = true) (hf : f s r = t.answer r res data)
    (ht : t.agent.requests = s.agent.requests) : s.finishFrame.take row f = t.answer r res data := by
  rw [State.take_of_takes h row f hrow, hf]
  rw [hf]
  simp only [State.answer_agent, ht]
  exact commonlyJudged_of_next _ _ _ (by simp) h.2.2

/-- A row whose request waits for work in another block. -/
theorem State.take_eq_defer {s t : State} {r : Request} (h : s.Takes r) (row : Request → Bool) (f : State → Request → State)
    (hrow : row r = true) (hf : f s r = t.defer r) (ht : t.agent.requests = s.agent.requests) :
    s.finishFrame.take row f = t.defer r := by
  rw [State.take_of_takes h row f hrow, hf]
  rw [hf]
  simp only [State.defer_agent, ht]
  exact commonlyJudged_of_next _ _ _ (by simp) h.2.2

/-- A request with the arguments its code requires is of the row of its code. -/
theorem hasCode_of_args (r : Request) (code : Byte) (n : Nat) (hc : r.code = code) (hne : code ≠ 0x29)
    (hn : requiredArgs code.toNat r.args = some n) (h : n ≤ r.args.length) : hasCode code r = true := by
  subst hc
  have hl : ¬ r.args.length < n := by omega
  simp [hasCode, commonJudgement, hn, hl]
  exact fun h' => absurd h' hne

/-! ### Indices and codes -/

theorem indexOf?_of_eq {n v : Nat} {i : Fin n} (h : v = i.val) : indexOf? n v = some i := by
  subst h; simp [indexOf?]

theorem indexOf?_of_le {n v : Nat} (h : n ≤ v) : indexOf? n v = none := by
  simp [indexOf?]; omega

theorem CarrierClass.ofCode?_code (c : CarrierClass) : CarrierClass.ofCode? c.code = some c := by cases c <;> rfl
theorem LinkKind.ofCode?_code (k : LinkKind) : LinkKind.ofCode? k.code = some k := by cases k <;> rfl
theorem FrameRate.ofCode?_code (r : FrameRate) : FrameRate.ofCode? r.code = some r := by cases r <;> rfl
theorem ScanMode.ofCode?_code (m : ScanMode) : ScanMode.ofCode? m.code = some m := by cases m <;> rfl
theorem LampMode.ofCode?_code (m : LampMode) : LampMode.ofCode? m.code = some m := by cases m <;> rfl
theorem StaleAction.ofCode?_code (a : StaleAction) : StaleAction.ofCode? a.code = some a := by cases a <;> rfl
theorem Direction.ofCode?_code (d : Direction) : Direction.ofCode? d.code = some d := by cases d <;> rfl
theorem portOf?_portCode (p : Port) : portOf? (portCode p) = some p := by cases p <;> rfl

/-! ### The common judgement -/

/-- The requests that the common judgement answers are those at the front of the ones not yet taken, each with its answer (R187). -/
theorem commonlyJudged_eq (rs : List Request) : commonlyJudged rs =
    ((rs.filter fun q => q.phase = .arrived).takeWhile fun q => (commonJudgement q).isSome).filterMap fun q =>
      (commonJudgement q).map fun a => (q, a) := by
  induction rs with
  | nil => rfl
  | cons r rs ih =>
    by_cases h : r.phase = .arrived
    · cases hj : commonJudgement r <;> simp [commonlyJudged, h, hj, ih]
    · simp [commonlyJudged, h, ih]

/-! ### Cells -/

/-- One bit into the CRC's register (R1): it shifts, and takes the generator in where its highest bit and the bit differ. -/
abbrev crcBit (r : Half) (bit : Bool) : Half := if r.msb = bit then r <<< 1 else (r <<< 1) ^^^ 0x1021

/-- A shift of the register and of bytes still to come takes in the highest bit of those bytes. -/
theorem crcShift_xor (r w : Half) : crcShift (r ^^^ w) = crcBit r w.msb ^^^ (w <<< 1) := by
  unfold crcShift crcBit
  rw [BitVec.msb_xor, BitVec.shiftLeft_xor_distrib]
  cases r.msb <;> cases w.msb <;> simp [BitVec.xor_assoc, BitVec.xor_comm (w <<< 1)]

/-- The shifts of a byte into the register are its bits, from bit 7 down to bit 0 (R1). -/
theorem crcByte_eq_bits (r : Half) (b : Byte) : crcByte r b = ([7, 6, 5, 4, 3, 2, 1, 0].map b.getLsbD).foldl crcBit r := by
  have last : b.setWidth 16 <<< 16 = 0#16 := BitVec.shiftLeft_eq_zero (by omega)
  simp [crcByte, crcShift_xor, BitVec.msb_eq_getLsbD_last, ← BitVec.shiftLeft_add, last, -BitVec.shiftLeft_eq]

/-- The CRC takes the bits of the bytes in order into a register that starts at FFFFh (R1). -/
theorem crc16_eq_bits (bs : List Byte) :
    crc16 bs = (bs.flatMap fun b => [7, 6, 5, 4, 3, 2, 1, 0].map b.getLsbD).foldl crcBit 0xFFFF := by
  simp only [crc16, List.foldl_flatMap]
  congr; funext r b; exact crcByte_eq_bits r b

/-- A cell that passes the integrity check carries as many meaningful bytes as its length says (R1). -/
theorem cellData_length_of_integral (c : Cell) (h : integral c = true) : (cellData c).length = c.len.toNat := by
  simp [integral] at h
  simp [cellData]; omega

/-- What a made cell carries is what it was made of (R2). -/
theorem cellData_makeCell (kind dest src : Byte) (toggle : Bool) (data : List Byte) (h : data.length ≤ 48) :
    cellData (makeCell kind dest src toggle data) = data := by
  have hl : (BitVec.ofNat 6 data.length).toNat = data.length := by simp; omega
  simp only [cellData, makeCell, sealCell, padPayload, hl]
  apply List.ext_getElem
  · simp; omega
  · intro i h1 h2; simp [h2]

/-- Whole items in front of a CONFIG write's bytes are read one after the other, and what follows them by itself. -/
theorem readItems_append (items : List ConfigItem) (n : Nat) (rest : List Byte)
    (h : ∀ x ∈ items, x.id < 256 ∧ settingSize x.id = some x.value.length) :
    readItems (items.length + n) ((items.flatMap fun x => BitVec.ofNat 8 x.id :: x.value) ++ rest)
      = (readItems n rest).map (items ++ ·) := by
  induction items with
  | nil => simp
  | cons x xs ih =>
    obtain ⟨hid, hsize⟩ := h x (by simp)
    have hid' : (BitVec.ofNat 8 x.id).toNat = x.id := by simp [Nat.mod_eq_of_lt hid]
    rw [List.length_cons, Nat.add_right_comm]
    simp [readItems, hid', hsize, ih fun y hy => h y (by simp [hy]), Function.comp_def]

end Sys2Proof.Machine
end

