-- ==== Sys2Proof/Laws/Unit.lean ====
section
/-! SUPPORT. What the unit channel's readings of its slots mean (R95, R110): the turn of a unit, the slots that are ready to offer their cells, and the two slots of a locked pair. -/

namespace Sys2Proof.Machine

/-- A unit's turn is free when no slot that is addressed to it holds one. -/
theorem State.turnFree_iff (s : State) (u : Byte) :
    s.turnFree u = true ↔ ∀ j : SlotId, s.unit.slots[j].turn = false ∨ s.unit.slots[j].unit ≠ u := by
  simp only [State.turnFree, List.all_eq_true, List.mem_finRange, forall_const]
  refine forall_congr' fun j => ?_
  cases s.unit.slots[j].turn <;> simp

/-- A slot waits behind another when a WAITING slot of its unit was allocated before it. -/
theorem State.waitsBehind_iff (s : State) (i : SlotId) :
    s.waitsBehind i = true ↔ ∃ j : SlotId, s.unit.slots[j].state = .waiting ∧ s.unit.slots[j].unit = s.unit.slots[i].unit
      ∧ s.unit.slots[j].serial < s.unit.slots[i].serial := by
  simp [State.waitsBehind, and_assoc]

/-- A slot of no locked pair is ready when it is WAITING and holds its unit's turn or may take it. -/
theorem State.readyToOffer_iff (s : State) (i : SlotId) :
    s.readyToOffer i = true ↔ s.unit.slots[i].state = .waiting ∧ s.unit.slots[i].pair = false
      ∧ (s.unit.slots[i].turn = true ∨ s.turnFree s.unit.slots[i].unit = true ∧ s.waitsBehind i = false) := by
  simp [State.readyToOffer, State.hasTurn, and_assoc]

/-- The urgent queue takes the tally processor's commands. -/
theorem Slot.urgent_iff (x : Slot) : x.urgent = true ↔ ∃ l : LinkId, x.owner = some (.tally l) := by
  unfold Slot.urgent
  split <;> simp_all

/-- An offer to the command queue passes a ready slot that was allocated before. -/
theorem State.passesCommand_iff (s : State) (n : Nat) :
    s.passesCommand n = true ↔ ∃ j : SlotId, s.readyToOffer j = true ∧ s.unit.slots[j].urgent = false
      ∧ s.unit.slots[j].serial < n := by
  simp [State.passesCommand, and_assoc]

/-- An offer to the urgent queue passes a ready slot, or a ready locked pair, that was allocated before. -/
theorem State.passesUrgent_iff (s : State) (n : Nat) :
    s.passesUrgent n = true ↔ (∃ j : SlotId, s.readyToOffer j = true ∧ s.unit.slots[j].urgent = true
      ∧ s.unit.slots[j].serial < n) ∨ ∃ k : ContextId, s.pairReady k = true ∧ s.pairSerial k < n := by
  simp [State.passesUrgent, and_assoc]

/-- The first index of a table that a test takes. -/
theorem find_finRange_iff {n : Nat} (p : Fin n → Bool) (i : Fin n) :
    (List.finRange n).find? p = some i ↔ p i = true ∧ ∀ m : Fin n, m < i → p m = false := by
  rw [List.find?_eq_some_iff_getElem]
  refine and_congr_right fun _ => ⟨?_, fun h => ⟨i, by simp, by simp, fun j hj => ?_⟩⟩
  · rintro ⟨a, ha, rfl, h⟩ m hm
    simpa using h m (by simpa [Fin.lt_def] using hm)
  · simpa using h ⟨j, by omega⟩ (by simpa [Fin.lt_def] using hj)

/-- The two slots of a context's locked pair: the lowest-numbered slot of each side that is marked as of a pair. -/
theorem State.pairSlots_iff (s : State) (k : ContextId) (i j : SlotId) :
    s.pairSlots k = some (i, j) ↔
      ((s.unit.slots[i].pair = true ∧ s.unit.slots[i].owner = some (.context k .rack))
        ∧ ∀ m : SlotId, m < i → ¬ (s.unit.slots[m].pair = true ∧ s.unit.slots[m].owner = some (.context k .rack)))
      ∧ (s.unit.slots[j].pair = true ∧ s.unit.slots[j].owner = some (.context k .portable))
        ∧ ∀ m : SlotId, m < j → ¬ (s.unit.slots[m].pair = true ∧ s.unit.slots[m].owner = some (.context k .portable)) := by
  have slots (d : Side) (a : SlotId) := find_finRange_iff
    (fun a => s.unit.slots[a].pair && decide (s.unit.slots[a].owner = some (.context k d))) a
  simp only [Bool.and_eq_true, decide_eq_true_eq, ← Bool.not_eq_true] at slots
  rw [← slots, ← slots, State.pairSlots]
  split
  · rename_i a b ha hb
    dsimp only at ha hb
    rw [ha, hb]
    simp
  · rename_i h
    exact ⟨nofun, fun hij => (h i j hij.1 hij.2).elim⟩

end Sys2Proof.Machine
end

