-- ==== Sys2Proof/Tests/Slice0.lean ====
section
/-! SUPPORT. Tests of the model: a witness for the hypotheses of each statement, the checks of Instr.wf, and single steps whose results the manual's worked sequences give. -/

namespace Sys2Proof.Tests
open Sys2Proof Sys2Proof.Machine

-- One theorem at a time: each waits for the kernel, and many of them at once would each hold a thread.
set_option Elab.async false

/-! ### Small states and cells -/

/-- What a command leaves. -/
def after (c : Instr) (s : State) : State :=
  match exec c s with
  | .next t => t
  | .fault _ => s
  | .refused _ => s

/-- A request from the console at address 250. -/
def asked (code : Byte) (args : List Byte) : Request := { id := 0, tag := 7, src := 250, code, args, phase := .arrived }

/-- A state whose request queue holds one request. -/
def asking (s : State) (code : Byte) (args : List Byte) : State :=
  { s with agent := { s.agent with requests := [asked code args], nextId := 1 } }

/-- Does the agent take the request in a state? -/
abbrev takes (s : State) (code : Byte) (args : List Byte) : Prop := (asking s code args).Takes (asked code args)

/-- A cell that arrives with its CRC right. -/
def cellOf (kind dest src : Byte) (data : List Byte) : Cell := makeCell kind dest src false data

/-- The same cell with its CRC wrong. -/
def spoilt (c : Cell) : Cell := { c with crc := c.crc + 1 }

def underReset (s : State) : State := { s with pins := { s.pins with reset := true } }

/-- Camera link 2, on its carrier in entry 4, in a band that allows every class. -/
def cameraLink : Link := { kind := .camera, cls := .w10, rack := 10, chan := 1, portable := 20, state := .up, active := some 4 }
def cameraCarrier : Carrier := { state := .active, freq := 600000, cls := .w10, link := some 2, band := some 0 }
def wideBand : Band := { valid := true, lower := 500000, upper := 700000, allowN := true, allowW10 := true, allowW20 := true }
def onAir : State :=
  { (State.reset.setLink 2 cameraLink).setCarrier 4 cameraCarrier with
    plan := { State.reset.plan with bands := put State.reset.plan.bands 0 wideBand, carriers := put State.reset.plan.carriers 4 cameraCarrier } }

/-- The camera link in another state. -/
def cameraIn (st : LinkState) : State := onAir.setLink 2 { cameraLink with state := st }

/-! ### Witnesses: a state and operands that meet a statement's hypotheses, clause by clause -/

theorem witness_StepTakesFrontCommand :
    State.pending { State.reset with pending := [.identify, .slotGrant] } = [.identify, .slotGrant] ∧ State.reset.pending = [] := by
  decide +kernel

/-- Frame 50 of a processor whose timeout its count has reached, with two steps of the frame event still due. -/
def unfinished : State :=
  { State.reset with due := [.tallyTimeout, .scanTrigger], tally := { State.reset.tally with count := 50 } }

theorem witness_StepTakesFrontCommand_due :
    unfinished.due = .tallyTimeout :: [.scanTrigger] ∧ State.reset.due = [] ∧ .telemetryTimeout 2 ∉ unfinished.due := by decide +kernel

/-- SLOT_GRANT finds the processor stale: the timeout that was due is taken before it. -/
theorem test_due_work_comes_first :
    (after .slotGrant unfinished).tally.stale = true ∧ (after .slotGrant unfinished).due = []
      ∧ (after (.telemetryTimeout 2) unfinished).due = unfinished.due := by decide +kernel

theorem witness_FrameNumberMovesByOne :
    exec .frameTimerExpiry State.reset = .next (after .frameTimerExpiry State.reset) ∧ exec .powerUp State.reset = .next State.reset
      ∧ exec .slotGrant State.reset = .next State.reset := ⟨rfl, rfl, rfl⟩

theorem witness_ColdResetRows :
    State.reset.pins.reset = false ∧ (underReset State.reset).pins.reset = true := by decide +kernel

theorem witness_LawsKept :
    State.reset.QueueLaw ∧ State.reset.PoolLaw ∧ State.reset.SettingsLaw := ⟨by decide +kernel, by decide +kernel, by decide +kernel⟩

theorem witness_LawsKept_step : step State.reset = .next State.reset := rfl

theorem witness_MadeCellsAreSealed : (List.replicate 48 (0xA5 : Byte)).length ≤ 48 ∧ 48 - 1 < 48 := by decide

theorem witness_BadCellsAreDropped :
    State.reset.due = [] ∧ (underReset State.reset).due = [] ∧ (underReset State.reset).pins.reset = true
      ∧ State.reset.pins.reset = false ∧ integral (spoilt (cellOf 8 0 250 [1, 0x60])) = false
      ∧ integral { cellOf 8 0 250 [1, 0x60] with len := 49 } = false := by decide +kernel

theorem witness_BadCellsAreDropped_format :
    (let c := cellOf 4 0 10 (List.replicate 9 0); integral c = true ∧ c.kind = 4 ∧ c.dest = 0 ∧ c.len ≠ 8)
      ∧ (let c := cellOf 3 0 10 (List.replicate 33 0); integral c = true ∧ c.kind = 3 ∧ c.dest = 0 ∧ c.len ≠ 34)
      ∧ (let c := cellOf 7 0 10 ([0, 15] ++ List.replicate 45 0)
         integral c = true ∧ c.kind = 7 ∧ c.dest = 0 ∧ 15 = u8At (cellData c) 1 ∧ (14 < 15 ∨ c.len.toNat ≠ 2 + 3 * 15))
      ∧ (let c := cellOf 7 0 10 ([0, 14] ++ List.replicate 41 0)
         integral c = true ∧ c.kind = 7 ∧ c.dest = 0 ∧ 14 = u8At (cellData c) 1 ∧ (14 < 14 ∨ c.len.toNat ≠ 2 + 3 * 14))
      ∧ (let c := cellOf 2 0 10 ([25] ++ List.replicate 32 0)
         integral c = true ∧ c.kind = 2 ∧ 25 = u8At (cellData c) 0 % 32 ∧ (24 < 25 ∨ c.len.toNat ≠ 1 + 25 + (25 + 3) / 4))
      ∧ (let c := cellOf 2 0 10 ([24] ++ List.replicate 29 0)
         integral c = true ∧ c.kind = 2 ∧ 24 = u8At (cellData c) 0 % 32 ∧ (24 < 24 ∨ c.len.toNat ≠ 1 + 24 + (24 + 3) / 4)) := by
  decide +kernel

/-- Reports enabled for every kind, and as many reports waiting as said. -/
def reporting (n : Nat) : State :=
  { State.reset with agent := { State.reset.agent with enables := 0x7FFFFFFFFFFE }
                     uport := { State.reset.uport with report := List.replicate n (cellOf 10 255 0 []) } }

theorem witness_NoticeIsRaised :
    (Notice.referenceLost = .referenceLost ∨ Notice.referenceLost = .referenceAcquired ∨ Notice.referenceLost = .referenceRestored)
      ∧ State.reset.agent.flags.timing.getLsbD 6 = false ∧ State.reset.agent.enables.getLsbD Notice.referenceLost.code = false
      ∧ (State.raiseReference State.reset .referenceLost).agent.flags.timing.getLsbD 6 = true
      ∧ (reporting 31).agent.enables.getLsbD Notice.referenceLost.code = true ∧ (reporting 31).uport.report.length < 32 := by
  decide +kernel

theorem witness_ForwardedCellPassesThrough :
    State.reset.due = [] ∧ State.reset.pins.reset = false
      ∧ (let c := cellOf 5 240 9 [0x01]; integral c = true ∧ (Instr.forwardedCell .u c).wf = true)
      ∧ (let c := cellOf 6 9 10 [0x01, 1]; integral c = true ∧ (Instr.forwardedCell .d c).wf = true)
      ∧ (let c := cellOf 8 0 9 [1, 0x60]; integral c = true ∧ c.kind = 8) := by decide +kernel

theorem witness_GuardRefusesOrForwards :
    onAir.due = [] ∧ onAir.pins.reset = false
      ∧ (let c := cellOf 5 20 9 [0x40]
         integral c = true ∧ c.kind = 5 ∧ (isUnit c.dest = true ∨ c.dest = 255) ∧ 1 ≤ c.len.toNat ∧ onAir.guardHolds c)
      ∧ (let c := cellOf 5 255 9 [0x04]; integral c = true ∧ c.kind = 5 ∧ (isUnit c.dest = true ∨ c.dest = 255) ∧ onAir.guardHolds c)
      ∧ (let c := cellOf 5 239 9 [0x01]; (isUnit c.dest = true ∨ c.dest = 255) ∧ ¬ onAir.guardHolds c)
      ∧ (let c := cellOf 5 20 9 [0x05]; (isUnit c.dest = true ∨ c.dest = 255) ∧ ¬ onAir.guardHolds c) := by decide +kernel

/-- As many requests that wait for other work as said. -/
def busyWith (n : Nat) : State :=
  { State.reset with agent := { State.reset.agent with requests := List.replicate n { asked 0x13 [] with phase := .deferred } } }

theorem witness_MgmtCellIntake :
    (busyWith 3).due = [] ∧ (busyWith 3).pins.reset = false ∧ (∀ q ∈ (busyWith 3).agent.requests, q.phase ≠ .arrived)
      ∧ (busyWith 3).agent.requests.length < 4 ∧ (∀ q ∈ (busyWith 4).agent.requests, q.phase ≠ .arrived)
      ∧ 4 ≤ (busyWith 4).agent.requests.length
      ∧ (let c := cellOf 8 0 250 [1, 0x60]; integral c = true ∧ c.kind = 8 ∧ c.dest = 0 ∧ 2 ≤ c.len.toNat)
      ∧ (let c := cellOf 8 0 250 [1]; integral c = true ∧ c.kind = 8 ∧ c.dest = 0 ∧ c.len.toNat < 2) := by decide +kernel

/-- A request behind one that waits to be taken keeps its place, though the common judgement would refuse it. -/
theorem witness_MgmtCellIntake_behind :
    let s := asking State.reset 0x60 []
    s.untaken = some (asked 0x60 []) ∧ commonJudgement (asked 0x60 []) = none
      ∧ (let t := after (.mgmtCell (cellOf 8 0 250 [1, 0xFF])) s
         t.agent.requests.map (fun q => (q.code, q.phase)) = [(0x60, .arrived), (0xFF, .arrived)] ∧ t.agent.ready = []) := by decide +kernel

/-- Replies in the reply queue, and one that is ready. -/
def replying (n : Nat) (ready : List ReadyReply) : State :=
  { State.reset with uport := { State.reset.uport with reply := List.replicate n (cellOf 9 250 0 []) }
                     agent := { State.reset.agent with ready } }

theorem witness_ReplyIsMadeAndJoins :
    requiredArgs (asked 0xFF []).code.toNat [] = none
      ∧ requiredArgs (asked 0x11 (List.replicate 14 0)).code.toNat (List.replicate 14 0) = some 15
      ∧ (asked 0x11 (List.replicate 14 0)).args.length < 15
      ∧ requiredArgs (asked 0x11 (List.replicate 15 0)).code.toNat (List.replicate 15 0) = some 15
      ∧ 15 ≤ (asked 0x11 (List.replicate 15 0)).args.length ∧ (asked 0x11 []).code ≠ 0x29
      ∧ (let q : ReadyReply := { id := none, cell := cellOf 9 250 0 [1, 2, 1] }
         (replying 7 [q]).due = [] ∧ (replying 7 [q]).agent.ready = q :: [] ∧ (replying 7 [q]).uport.reply.length < 8
         ∧ 8 ≤ (replying 8 [q]).uport.reply.length) ∧ (replying 7 []).agent.ready = [] := by decide +kernel

theorem witness_ReplyIsMadeAndJoins_config :
    configItems [] = none ∧ configItems [0] = some [] ∧ configItems [1, 99] = some [{ id := 99, value := [] }]
      ∧ configItems [1, 1, 5] = some [{ id := 1, value := [5] }] ∧ requiredArgs 0x15 [] = none := by decide +kernel

/-- A CONFIG write of two items that ends behind an unknown identifier is too short; with a byte more it is BAD_INDEX (R187, R189). -/
theorem test_config_write_cut_short :
    commonJudgement (asked 0x29 [2, 99]) = some (.badValue, []) ∧ commonJudgement (asked 0x29 [2, 99, 1]) = some (.badIndex, [99])
      ∧ commonJudgement (asked 0x29 [1, 99]) = some (.badIndex, [99]) := by decide +kernel

/-! Transmitters -/

def lines (d : DPort) (u : UPort) : State := { State.reset with dport := d, uport := u }
def reverting : UnitCell := { cell := makeCell 5 10 0 false [0x04], slot := 0, context := some 1 }
def switching : UnitCell := { cell := makeCell 5 10 0 false [0x02], slot := 0, context := some 1 }
def tallying : UnitCell := { cell := makeCell 5 10 0 false [0x05, 2], slot := 3 }

theorem witness_TransmitStartByPriority :
    State.reset.due = [] ∧ State.reset.pins.reset = false ∧ State.reset.pins.backoff = false ∧ State.reset.uport.line = .idle
      ∧ (lines {} { line := .report }).uport.line ≠ .idle ∧ (underReset State.reset).pins.reset = true
      ∧ (lines { urgent := [tallying] } {}).dport.noPair ∧ (lines { urgent := [{ switching with committed := true }] } {}).dport.noPair
      ∧ (lines { urgent := [tallying], line := .urgent } {}).dport.line ≠ .idle
      ∧ State.reset.dport.noPair ∧ State.reset.dport.line = .idle := by decide +kernel

/-- The FRAME cell goes before a pair that could be committed, which stays uncommitted. -/
theorem witness_TransmitStartByPriority_frame :
    let s := lines { frameSlot := some (frameCell 1 .locked), urgent := [reverting] } {}
    s.dport.frameSlot = some (frameCell 1 .locked) ∧ s.dport.line = .idle ∧ ¬ s.dport.noPair
      ∧ (after (.transmitStart .d) s).dport.line = .frame (frameCell 1 .locked)
      ∧ (after (.transmitStart .d) s).dport.urgent = [reverting] := by decide +kernel

theorem witness_LockedPairCommits :
    (let s := lines { urgent := [reverting] } {}
     s.due = [] ∧ s.pins.reset = false ∧ s.pins.backoff = false ∧ s.dport.line = .idle ∧ s.dport.frameSlot = none
     ∧ s.dport.urgent = reverting :: [] ∧ reverting.context = some 1 ∧ reverting.committed = false
     ∧ byteAt (cellData reverting.cell) 0 ≠ 0x02)
    ∧ (let s := lines { urgent := [switching] } {}
       s.links[s.contexts[(1 : ContextId)].link].live = false ∧ byteAt (cellData switching.cell) 0 = 0x02)
    ∧ (let s := (lines { urgent := [switching] } {}).setContext 1 { force := true }; s.exempt 1 = true) := by decide +kernel

theorem witness_TransmitCompletesOrIsAbandoned :
    (lines {} { line := .reply }).uport.line = .reply ∧ (lines {} { line := .report }).uport.line = .report
      ∧ (lines {} { line := .audio }).uport.line = .audio ∧ (lines {} { line := .forward }).uport.line = .forward
      ∧ (lines { line := .frame (frameCell 1 .locked) } {}).dport.line = .frame (frameCell 1 .locked)
      ∧ (lines { line := .audio } {}).dport.line = .audio ∧ (lines { line := .forward } {}).dport.line = .forward
      ∧ (let s := lines { line := .command, command := [tallying] } {}
         s.dport.line = .command ∧ s.dport.command = tallying :: [] ∧ tallying.context = none
         ∧ s.unit.slots[tallying.slot].again = false)
      ∧ (let s := lines { line := .urgent, urgent := [reverting] } {}
         s.dport.line = .urgent ∧ s.dport.urgent = reverting :: [] ∧ reverting.context = some 1
         ∧ s.unit.slots[reverting.slot].again = false)
      ∧ State.reset.pins.reset = false ∧ State.reset.dport.line = .idle ∧ State.reset.dport.noPair
      ∧ (lines { line := .audio } {}).dport.line ≠ .idle := by decide +kernel

/-- The release of BACKOFF commits the pair that heads the urgent queue. -/
theorem witness_TransmitCompletesOrIsAbandoned_pair :
    let s := { lines { urgent := [reverting] } {} with pins := { backoff := true } }
    s.pins.reset = false ∧ s.dport.line = .idle ∧ ¬ s.dport.noPair
      ∧ (after .backoffRelease s).contexts[(1 : ContextId)].committed = true ∧ (after .backoffRelease s).dport.line = .urgent := by
  decide +kernel

/-! Frame timer and reference monitor -/

/-- A reference state, with the timer as after reset. -/
def timed (t : Timing) : State := { State.reset with timing := t }
def marker : Cell := cellOf 1 255 9 []

theorem witness_FrameEventAdvances :
    State.reset.tally.stale = false ∧ min 255 (State.reset.tally.count + 1) < State.reset.tally.timeout := by decide +kernel

theorem witness_TimersExpire :
    (timed { ref := .locked, flywheel := 1 }).due = [] ∧ (timed { ref := .locked, flywheel := 1 }).timing.flywheel < 2
      ∧ 2 ≤ (timed { ref := .locked, flywheel := 2 }).timing.flywheel ∧ State.reset.timing.ref ≠ .locked
      ∧ State.reset.timing.nextExpiry = some 120000
      ∧ (let s := timed { ref := .relocking, nextExpiry := some 120000, relockDeadline := 120000 }
         s.timing.nextExpiry = some 120000 ∧ s.timing.ref ≠ .locked ∧ 120000 ≤ s.timing.relockDeadline)
      ∧ (underReset { State.reset with timing := { nextExpiry := none } }).timing.nextExpiry = none := by decide +kernel

theorem witness_MarkerInLocked :
    (let s := timed { ref := .locked }
     s.due = [] ∧ s.pins.reset = false ∧ s.timing.ref = .locked
     ∧ 4 * (max 0 (min (0 + 89999) (0 + 5 * s.timing.rateInForce.period / 4)) - s.timing.windowOrigin) < 3 * s.timing.rateInForce.period
     ∧ 3 * s.timing.rateInForce.period ≤ 4 * (max 0 (min (0 + 90000) (0 + 5 * s.timing.rateInForce.period / 4)) - s.timing.windowOrigin))
    ∧ integral marker = true ∧ marker.kind = 1 := by decide +kernel

theorem witness_RelockStartsArmsAndTimesOut :
    State.reset.timing.ref = .searching ∧ (timed { ref := .holdover }).timing.ref = .holdover
      ∧ (let s := timed { ref := .relocking, nextExpiry := some 360000, relockDeadline := 360000 }
         s.due = [] ∧ s.timing.ref = .relocking ∧ ∀ t ∈ s.timing.nextExpiry, s.timing.relockDeadline ≤ t)
      ∧ State.reset.timing.ref ≠ .relocking
      ∧ takes (timed { ref := .relocking, good := 8 }) 0x39 [] ∧ (timed { ref := .relocking, good := 8 }).timing.good = 8
      ∧ takes (timed { ref := .relocking, good := 7 }) 0x39 [] ∧ (timed { ref := .relocking, good := 7 }).timing.good ≠ 8
      ∧ takes State.reset 0x39 [] := by decide +kernel

/-- RELOCKING at a count, with the last marker at 0 and the timer far away. -/
def relocking (good : Nat) (auto armed : Bool) : State :=
  timed { ref := .relocking, good, autoRelock := auto, armed, relockDeadline := 360000, nextExpiry := some 400000 }

theorem witness_MarkerInRelocking :
    (relocking 7 false false).due = [] ∧ (relocking 7 false false).pins.reset = false ∧ (relocking 7 false false).timing.ref = .relocking
      ∧ (relocking 7 false false).markerAt 117599 = 117599 ∧ 100 * 117599 < 98 * 120000
      ∧ (relocking 7 false false).markerAt 122401 = 122401 ∧ 102 * 120000 < 100 * 122401
      ∧ (relocking 6 false false).markerAt 117600 = 117600 ∧ 98 * 120000 ≤ 100 * 117600 ∧ (relocking 6 false false).timing.good < 7
      ∧ (relocking 7 false false).markerAt 122400 = 122400 ∧ 100 * 122400 ≤ 102 * 120000
      ∧ (relocking 7 false false).timing.good = 7 ∧ (relocking 7 false false).timing.autoRelock = false
      ∧ (relocking 8 false false).timing.good = 8 ∧ (relocking 8 false false).timing.armed = false
      ∧ ((relocking 7 true false).timing.good = 7 ∧ (relocking 7 true false).timing.autoRelock = true)
      ∧ ((relocking 8 false true).timing.good = 8 ∧ (relocking 8 false true).timing.armed = true)
      ∧ FrameRate.period (relocking 7 false false).timing.rateInForce = 120000 := by decide +kernel

/-! The carrier plan and coordination -/

def freed : Carrier := {}
def withCarrier (e : EntryId) (c : Carrier) : State := State.setCarrier onAir e c

theorem witness_EntryChangesAndReleases :
    onAir.plan.carriers[(0 : EntryId)].state = .free ∧ onAir.plan.carriers[(4 : EntryId)].state ≠ .free
      ∧ onAir.plan.carriers[(4 : EntryId)].link = some 2
      ∧ (let s := withCarrier 95 { state := .blocked, freq := 30000 }
         s.plan.carriers[(95 : EntryId)].state ≠ .free ∧ s.plan.carriers[(95 : EntryId)].link = none)
      ∧ (let s := withCarrier 95 { state := .standby, freq := 30000, link := some 2 }
         s.plan.carriers[(95 : EntryId)].state = .standby ∧ s.plan.carriers[(95 : EntryId)].link = some 2
         ∧ (s.links[(2 : LinkId)].standby = some 95 ∨ s.links[(2 : LinkId)].standby = none))
      ∧ onAir.plan.carriers[(4 : EntryId)].state ≠ .standby ∧ onAir.links[(2 : LinkId)].standby = none := by decide +kernel

/-- BAND write arguments: index 3, valid, the edges, step 25, every class. -/
def bandArgs (i : Byte) (lower upper : Nat) : List Byte := [i, 1] ++ u32 lower ++ u32 upper ++ u32 25 ++ [7]

theorem witness_BandsAndCarriersByRequest :
    takes State.reset 0x10 [3] ∧ u8At [3] 0 = (3 : Fin 4).val ∧ takes State.reset 0x10 [4] ∧ 4 ≤ u8At [4] 0
      ∧ takes State.reset 0x11 (bandArgs 4 30000 30001) ∧ 15 ≤ (bandArgs 4 30000 30001).length
      ∧ takes onAir 0x11 (bandArgs 0 30000 30001) ∧ onAir.plan.carriers[(4 : EntryId)].band = some 0
      ∧ takes State.reset 0x11 (bandArgs 3 29999 30001) ∧ flagAt (bandArgs 3 29999 30001) 1 0 = true
      ∧ ¬ (30000 ≤ u32At (bandArgs 3 29999 30001) 2)
      ∧ takes onAir 0x11 (bandArgs 3 700000 7125000) ∧ u32At (bandArgs 3 700000 7125000) 2 ≤ onAir.plan.bands[(0 : Fin 4)].upper
      ∧ takes onAir 0x11 (bandArgs 3 700001 7125000) ∧ ¬ (∃ e : EntryId, onAir.plan.carriers[e].band = some 3)
      ∧ (∀ j : Fin 4, j ≠ 3 → ¬ (onAir.plan.bands[j].valid = true ∧ 700001 ≤ onAir.plan.bands[j].upper))
      ∧ takes State.reset 0x12 [96] ∧ takes State.reset 0x14 [96] ∧ 96 ≤ u8At [96] 0
      ∧ takes State.reset 0x12 [95] ∧ u8At [95] 0 = (95 : EntryId).val
      ∧ takes State.reset 0x14 [95] ∧ State.reset.plan.carriers[(95 : EntryId)].state ≠ .blocked
      ∧ takes (withCarrier 95 { state := .blocked }) 0x14 [95]
      ∧ (withCarrier 95 { state := .blocked }).plan.carriers[(95 : EntryId)].state = .blocked := by decide +kernel

theorem witness_BandsAndCarriersByRequest_cleared :
    takes State.reset 0x11 ([3, 0] ++ List.replicate 13 255) ∧ flagAt ([3, 0] ++ List.replicate 13 255) 1 0 = false := by decide +kernel

/-- Coordination requests that wait: of the contexts, and of management. -/
def queuedReq (f : Filer) : CoordRequest := { kind := .admitCarrier, filer := f, link := some 2, target := .nextCandidate, cls := .w10 }
def coordinating (contexts others : Nat) : State :=
  { onAir with engine := { queue := List.replicate contexts (queuedReq (.context 0)) ++ List.replicate others (queuedReq .auto) } }

theorem witness_CoordinationRequestsAreFiled :
    takes (coordinating 4 3) 0x13 (u32 7125000 ++ [2]) ∧ u32At (u32 7125000 ++ [2]) 0 = 7125000 ∧ u8At (u32 7125000 ++ [2]) 4 = CarrierClass.w20.code
      ∧ (coordinating 4 3).engine.queue.length < 8 ∧ ¬ (coordinating 5 3).engine.queue.length < 8
      ∧ (coordinating 0 4).engine.queue.length = 4
      ∧ takes (coordinating 0 4) 0x38 ([255, 0] ++ u32 30000 ++ [0]) ∧ u8At ([255, 0] ++ u32 30000 ++ [0]) 0 = 255
      ∧ u32At ([255, 0] ++ u32 30000 ++ [0]) 2 = 30000 ∧ u8At ([255, 0] ++ u32 30000 ++ [0]) 6 = CarrierClass.n.code
      ∧ takes (coordinating 0 3) 0x38 ([2, 1] ++ u32 0 ++ [0]) ∧ u8At ([2, 1] ++ u32 0 ++ [0]) 0 = (2 : LinkId).val
      ∧ (coordinating 0 3).links[(2 : LinkId)].state ≠ .unused
      ∧ takes (coordinating 0 3) 0x33 ([2, 0] ++ u32 30000) ∧ u32At ([2, 0] ++ u32 30000) 2 = 30000
      ∧ (coordinating 0 3).links[(2 : LinkId)].state ≠ .idle
      ∧ takes State.reset 0x33 ([79, 0] ++ u32 30000) ∧ State.reset.links[(79 : LinkId)].state = .unused := by decide +kernel

theorem witness_CoordinationRequestsAreFiled_refused :
    takes onAir 0x13 (u32 29999 ++ [0]) ∧ u32At (u32 29999 ++ [0]) 0 < 30000 ∧ takes onAir 0x13 (u32 30000 ++ [3]) ∧ 2 < u8At (u32 30000 ++ [3]) 4
      ∧ takes onAir 0x38 ([255, 1] ++ u32 30000 ++ [0]) ∧ u8At ([255, 1] ++ u32 30000 ++ [0]) 1 ≠ 0
      ∧ takes onAir 0x38 ([80, 1] ++ u32 0 ++ [0]) ∧ 80 ≤ u8At ([80, 1] ++ u32 0 ++ [0]) 0 ∧ takes onAir 0x33 ([254, 1] ++ u32 0)
      ∧ takes onAir 0x38 ([79, 2] ++ u32 0 ++ [0]) ∧ 2 ≤ u8At ([79, 2] ++ u32 0 ++ [0]) 1
      ∧ takes onAir 0x33 ([79, 0] ++ u32 7125001) ∧ 7125000 < u32At ([79, 0] ++ u32 7125001) 2
      ∧ takes State.reset 0x38 ([79, 1] ++ u32 0 ++ [0]) ∧ State.reset.links[(79 : LinkId)].state = .unused := by decide +kernel

/-- A full plan, and one request. -/
def fullPlan (q : CoordRequest) : State :=
  { onAir with plan := { onAir.plan with carriers := Vector.replicate 96 { state := .blocked, freq := 30000 } }, engine := { queue := [q] } }
def blocking : CoordRequest := { kind := .block, filer := .management 0, link := none, target := .explicit 510000, cls := .n }
def engineWith (q : CoordRequest) (fs : List Nat) : State :=
  { onAir.setLink 2 { cameraLink with candidates := fs } with engine := { queue := [q] } }

theorem witness_CoordinationStarts :
    (fullPlan blocking).due = [] ∧ (fullPlan blocking).engine.queue = blocking :: [] ∧ (fullPlan blocking).engine.run = none
      ∧ (∀ e : EntryId, (fullPlan blocking).plan.carriers[e].state ≠ .free) ∧ blocking.filer = .management 0 ∧ blocking.kind ≠ .check
      ∧ (∃ e : EntryId, (engineWith blocking []).plan.carriers[e].state = .free) ∧ blocking.kind ≠ .pickBackup
      ∧ (let s := engineWith (queuedReq .auto) [600000, 610000, 520000]
         s.engine.queue = queuedReq .auto :: [] ∧ s.engine.run = none
         ∧ visitOrder s.links[(2 : LinkId)].candidates (s.links[(2 : LinkId)].active.map fun e => s.plan.carriers[e].freq)
            = [] ++ 610000 :: [520000, 600000]
         ∧ ∀ e : EntryId, s.plan.carriers[e].state ≠ .free → s.plan.carriers[e].link = some 2 → s.plan.carriers[e].freq ≠ 610000)
      ∧ (let s := engineWith (queuedReq .auto) [600000]
         visitOrder s.links[(2 : LinkId)].candidates none = [] ++ 600000 :: [] ∧ s.plan.carriers[(4 : EntryId)].freq = 600000)
      ∧ (7 : Nat) ∉ [1, 2, 3] := by decide +kernel

theorem witness_CoordinationStarts_ends :
    ((fullPlan (queuedReq (.context 3))).engine.queue = queuedReq (.context 3) :: [] ∧ (queuedReq (.context 3)).kind ≠ .check
      ∧ (fullPlan (queuedReq .auto)).engine.queue = queuedReq .auto :: [] ∧ (queuedReq .auto).link = some 2)
    ∧ (let q := { queuedReq .auto with kind := .pickBackup }
       let s := (engineWith q []).setLink 2 { cameraLink with state := .idle }
       s.due = [] ∧ s.engine.queue = q :: [] ∧ s.engine.run = none ∧ (∃ e : EntryId, s.plan.carriers[e].state = .free)
       ∧ q.kind = .pickBackup ∧ q.link = some 2 ∧ s.links[(2 : LinkId)].state = .idle)
    ∧ (let s := engineWith (queuedReq (.context 3)) [600000]
       s.engine.queue = queuedReq (.context 3) :: [] ∧ (∃ e : EntryId, s.plan.carriers[e].state = .free)
       ∧ ∀ g ∈ s.links[(2 : LinkId)].candidates,
           ∃ e : EntryId, s.plan.carriers[e].state ≠ .free ∧ s.plan.carriers[e].link = some 2 ∧ s.plan.carriers[e].freq = g)
    ∧ (engineWith (queuedReq .auto) []).links[(2 : LinkId)].candidates = [] := by decide +kernel

/-- An attempt at 510,000 kHz in the wide band, in its n-th repetition, as of a generation. -/
def attemptAt (f count : Nat) (gen : Half) : Attempt :=
  { candidate := f, count, gen, cls := .n, blocked := true, bands := onAir.plan.bands, settings := {}, carriers := copyCarriers onAir.plan
    foreign := [], stale := false }
def running (kind : CoordKind) (t : Attempt) : State :=
  { onAir with engine := { queue := [{ blocking with kind }]
                           run := some { cls := .n, list := [], visits := [], tries := 1, lastTry := none, attempt := t } } }

theorem witness_AttemptCompletes :
    (running .block (attemptAt 510000 2 1)).due = [] ∧ (attemptAt 510000 2 1).gen ≠ onAir.plan.gen ∧ (attemptAt 510000 2 1).count < 3
      ∧ (running .block (attemptAt 510000 3 1)).engine.queue = blocking :: [] ∧ 3 ≤ (attemptAt 510000 3 1).count
      ∧ (attemptAt 510000 1 0).gen = onAir.plan.gen ∧ (attemptAt 510000 1 0).stale = false
      ∧ (evaluate (attemptAt 600000 1 0)).stage ≠ 0 ∧ (evaluate (attemptAt 510000 1 0)).stage = 0
      ∧ onAir.plan.carriers[(0 : EntryId)].state = .free ∧ blocking.target = .explicit 510000 ∧ blocking.filer = .management 0 := by
  decide +kernel

/-- The same engine with another request, in a plan that is full or not. -/
def ending (q : CoordRequest) (s : State) (t : Attempt) (visits : List Nat) : State :=
  { s with engine := { queue := [q], run := some { cls := .n, list := [], visits, tries := 1, lastTry := none, attempt := t } } }
def ofLink2 (kind : CoordKind) (filer : Filer) : CoordRequest := { kind, filer, link := some 2, target := .nextCandidate, cls := .n }

theorem witness_AttemptCompletes_ends :
    (let s := ending (ofLink2 .admitCarrier (.context 3)) onAir (attemptAt 510000 1 0) []
     s.due = [] ∧ s.engine.queue = ofLink2 .admitCarrier (.context 3) :: [] ∧ (attemptAt 510000 1 0).gen = s.plan.gen
     ∧ (evaluate (attemptAt 510000 1 0)).stage = 0 ∧ (ofLink2 .admitCarrier (.context 3)).kind ≠ .check
     ∧ s.plan.carriers[(0 : EntryId)].state = .free ∧ (∀ j : EntryId, j < 0 → s.plan.carriers[j].state ≠ .free))
    ∧ (let s := ending (ofLink2 .pickBackup .auto) onAir (attemptAt 510000 1 0) []
       (ofLink2 .pickBackup .auto).link = some 2 ∧ s.links[(2 : LinkId)].state = .up)
    ∧ (cameraIn .idle).links[(2 : LinkId)].state = .idle
    ∧ (∀ e : EntryId, (fullPlan blocking).plan.carriers[e].state ≠ .free) ∧ (ofLink2 .check .auto).kind = .check
    ∧ ((attemptAt 600000 1 0).gen = onAir.plan.gen ∧ (evaluate (attemptAt 600000 1 0)).stage ≠ 0
       ∧ (attemptAt 510000 3 1).gen ≠ onAir.plan.gen ∧ 3 ≤ (attemptAt 510000 3 1).count)
    ∧ [600000, 520000] = [600000] ++ 520000 :: []
    ∧ (∃ e : EntryId, onAir.plan.carriers[e].state ≠ .free ∧ onAir.plan.carriers[e].link = some 2 ∧ onAir.plan.carriers[e].freq = 600000)
    ∧ ¬ (∃ e : EntryId, onAir.plan.carriers[e].state ≠ .free ∧ onAir.plan.carriers[e].link = some 2
        ∧ onAir.plan.carriers[e].freq = 520000) := by decide +kernel

theorem witness_BandAndRaster :
    0 < wideBand.step ∧ wideBand.lower ≤ 500012
      ∧ (∀ i : Fin 4, ¬ ((attemptAt 499999 1 0).bands[i].valid = true ∧ (attemptAt 499999 1 0).bands[i].lower ≤ 499999))
      ∧ findBand (attemptAt 500000 1 0).bands 500000 = some 0
      ∧ (attemptAt 500000 1 0).bands[(0 : Fin 4)].allows (attemptAt 500000 1 0).cls = true
      ∧ Band.allows { wideBand with allowN := false } .n = false
      ∧ ¬ (wideBand.lower + CarrierClass.n.bandwidth / 2 ≤ snap wideBand 500000)
      ∧ wideBand.lower + CarrierClass.n.bandwidth / 2 ≤ snap wideBand 500100
      ∧ snap wideBand 699900 + CarrierClass.n.bandwidth / 2 ≤ wideBand.upper := by decide +kernel

/-- Both edges of the one valid band are inside it. -/
theorem witness_BandAndRaster_edges :
    findBand onAir.plan.bands 500000 = some 0 ∧ findBand onAir.plan.bands 700000 = some 0 ∧ findBand onAir.plan.bands 700001 = none
      ∧ (∀ j : Fin 4, j ≠ 0 → onAir.plan.bands[j].valid = false) := by decide +kernel

theorem witness_PassMeansEveryComparisonHolds :
    let t := attemptAt 510000 1 0
    t.proper ∧ findBand t.bands t.candidate = some 0 ∧ t.bands[(0 : Fin 4)].allows t.cls = true
      ∧ t.bands[(0 : Fin 4)].lower + t.cls.bandwidth / 2 ≤ snap t.bands[(0 : Fin 4)] t.candidate
      ∧ snap t.bands[(0 : Fin 4)] t.candidate + t.cls.bandwidth / 2 ≤ t.bands[(0 : Fin 4)].upper := by decide +kernel

/-! Links and the retune queue -/

/-- A LINK write: kind, class, rack unit and channel, portable, profile none. -/
def linkArgs (l kind cls rack chan portable : Byte) : List Byte := [l, kind, cls, rack, chan, portable, 255, 0x3F, 0xEC]
def micLink : Link := { kind := .mic, cls := .n, rack := 11, chan := 3, portable := 239, state := .idle }
def twoLinks : State := onAir.setLink 79 micLink

theorem witness_LinkTableIsReadAndCandidatesWritten :
    takes onAir 0x16 [79] ∧ takes onAir 0x18 [0] ∧ takes onAir 0x16 [80] ∧ takes onAir 0x18 [80] ∧ 80 ≤ u8At [80] 0
      ∧ u8At [79] 0 = (79 : LinkId).val
      ∧ (let a : List Byte := [2, 2] ++ u32 30000 ++ u32 7125000
         takes onAir 0x19 a ∧ 2 + 4 * u8At a 1 ≤ a.length
         ∧ [30000, 7125000] = (List.range (u8At a 1)).map (fun i => u32At a (2 + 4 * i)))
      ∧ (let a : List Byte := [80, 0]; takes onAir 0x19 a ∧ 80 ≤ u8At a 0)
      ∧ (let a : List Byte := [2, 9] ++ List.replicate 36 1; takes onAir 0x19 a ∧ 2 + 4 * u8At a 1 ≤ a.length ∧ 8 < u8At a 1)
      ∧ (let a : List Byte := [2, 1] ++ u32 29999; takes onAir 0x19 a ∧ u32At a 2 < 30000)
      ∧ (let a : List Byte := [2, 8] ++ (List.replicate 8 (u32 30000)).flatten
         takes onAir 0x19 a ∧ 2 + 4 * u8At a 1 ≤ a.length ∧ (∀ f ∈ candidatesOf a, 30000 ≤ f ∧ f ≤ 7125000)) := by decide +kernel

/-- The two links, with a STANDBY for the first and entries of both in the retune queue. -/
def withStandby : State :=
  { twoLinks.setLink 2 { cameraLink with standby := some 5, live := true } with
    retuneQueue := [{ link := 2, target := .backup, reason := .fade, force := false, held := true },
                    { link := 79, target := .nextCandidate, reason := .assign, force := false, held := true }] }

theorem witness_LinkIsWritten :
    takes twoLinks 0x17 (linkArgs 80 0 0 0 0 0) ∧ 80 ≤ u8At (linkArgs 80 0 0 0 0 0) 0
      ∧ takes twoLinks 0x17 (linkArgs 79 3 0 11 3 239) ∧ 2 < u8At (linkArgs 79 3 0 11 3 239) 1
      ∧ takes twoLinks 0x17 (linkArgs 79 1 3 11 3 239) ∧ 2 < u8At (linkArgs 79 1 3 11 3 239) 2
      ∧ takes twoLinks 0x17 [79, 1, 0, 11, 3, 239, 8, 0, 0] ∧ 8 ≤ u8At [79, 1, 0, 11, 3, 239, 8, 0, 0] 6
      ∧ u8At (linkArgs 79 1 0 11 4 239) 0 = (79 : LinkId).val ∧ u8At (linkArgs 79 1 0 11 4 239) 1 = LinkKind.mic.code
      ∧ u8At (linkArgs 79 1 0 11 4 239) 2 = CarrierClass.n.code ∧ byteAt (linkArgs 79 1 0 11 4 239) 6 = indexByte (none : Option (Fin 8))
      ∧ takes twoLinks 0x17 (linkArgs 79 1 0 11 4 239) ∧ ¬ u8At (linkArgs 79 1 0 11 4 239) 4 ≤ 3
      ∧ byteAt [79, 1, 0, 11, 3, 239, 7, 0, 0] 6 = indexByte (some (7 : Fin 8)) := by decide +kernel

theorem witness_LinkIsWritten_judged :
    takes twoLinks 0x17 (linkArgs 2 0 2 10 1 20) ∧ u8At (linkArgs 2 0 2 10 1 20) 2 = CarrierClass.w20.code ∧ CarrierClass.w20 ≠ cameraLink.cls
      ∧ twoLinks.links[(2 : LinkId)].state = .up
      ∧ takes twoLinks 0x17 (linkArgs 79 1 0 10 1 239) ∧ twoLinks.links[(79 : LinkId)].state = .idle
      ∧ byteAt (linkArgs 79 1 0 10 1 239) 3 = twoLinks.links[(2 : LinkId)].rack ∧ u8At (linkArgs 79 1 0 10 1 239) 4 = twoLinks.links[(2 : LinkId)].chan
      ∧ takes twoLinks 0x17 (linkArgs 78 2 0 1 0 2) ∧ twoLinks.links[(78 : LinkId)].state = .unused
      ∧ (¬ ∃ m : LinkId, m ≠ 78 ∧ twoLinks.links[m].state ≠ .unused ∧ ((1 : Byte) = twoLinks.links[m].rack ∧ 0 = twoLinks.links[m].chan
          ∨ (2 : Byte) = twoLinks.links[m].portable ∨ (2 : Byte) = twoLinks.links[m].rack ∨ (1 : Byte) = twoLinks.links[m].portable))
      ∧ takes withStandby 0x17 (linkArgs 2 0 1 10 1 20) ∧ withStandby.links[(2 : LinkId)].standby = some 5
      ∧ withStandby.links[(2 : LinkId)].live = true ∧ flagAt (linkArgs 2 0 1 10 1 20) 7 3 = true
      ∧ (∃ e ∈ withStandby.retuneQueue, e.link = 2 ∧ e.held = true) := by decide +kernel

/-- A LINK write that sets switch_when_live clears the held mark of the link's FADE entry, and leaves the other entry and the STANDBY. -/
theorem test_link_write_evaluates_the_held_mark :
    (let t := after .linkWrite (asking withStandby 0x17 (linkArgs 2 0 1 10 1 20))
     t.retuneQueue.map (·.held) = [false, true] ∧ t.links[(2 : LinkId)].standby = some 5) := by decide +kernel

/-- A retune queue of n entries of other links. -/
def queueOf (n : Nat) (s : State) : State :=
  { s with retuneQueue := (List.finRange n).map fun i =>
      { link := Fin.ofNat 80 (i.val + 10), target := .nextCandidate, reason := .operator, force := false, held := false } }

theorem witness_RetunesAreFiled :
    takes (queueOf 15 twoLinks) 0x30 ([79, 1] ++ u32 0 ++ [1]) ∧ 7 ≤ ([79, 1] ++ u32 0 ++ [1] : List Byte).length
      ∧ (queueOf 15 twoLinks).links[(79 : LinkId)].state = .idle
      ∧ takes (queueOf 16 twoLinks) 0x30 ([79, 0] ++ u32 30000 ++ [0]) ∧ u32At ([79, 0] ++ u32 30000 ++ [0]) 2 = 30000
      ∧ takes twoLinks 0x30 ([2, 1] ++ u32 0 ++ [0]) ∧ twoLinks.links[(2 : LinkId)].state ≠ .idle
      ∧ takes twoLinks 0x30 ([79, 2] ++ u32 0 ++ [0]) ∧ u8At ([79, 2] ++ u32 0 ++ [0]) 1 = 2
      ∧ takes twoLinks 0x31 ([2, 0] ++ u32 7125000 ++ [0]) ∧ twoLinks.links[(2 : LinkId)].state = .up
      ∧ u32At ([2, 0] ++ u32 7125000 ++ [0]) 2 = 7125000
      ∧ takes twoLinks 0x31 ([79, 1] ++ u32 0 ++ [0]) ∧ ¬ twoLinks.links[(79 : LinkId)].state = .up
      ∧ takes twoLinks 0x31 ([2, 2] ++ u32 0 ++ [0]) ∧ twoLinks.links[(2 : LinkId)].standby = none := by decide +kernel

theorem witness_RetunesAreFiled_refused :
    takes twoLinks 0x30 ([80, 1] ++ u32 0 ++ [0]) ∧ takes twoLinks 0x31 ([255, 1] ++ u32 0 ++ [0]) ∧ 80 ≤ u8At ([80, 1] ++ u32 0 ++ [0]) 0
      ∧ takes twoLinks 0x30 ([79, 3] ++ u32 0 ++ [0]) ∧ 2 < u8At ([79, 3] ++ u32 0 ++ [0]) 1
      ∧ takes twoLinks 0x31 ([2, 0] ++ u32 29999 ++ [0]) ∧ u32At ([2, 0] ++ u32 29999 ++ [0]) 2 < 30000
      ∧ takes twoLinks 0x31 ([2, 0] ++ u32 7125001 ++ [0]) ∧ 7125000 < u32At ([2, 0] ++ u32 7125001 ++ [0]) 2 := by decide +kernel

theorem witness_AbortReleaseUndefine_refused :
    takes twoLinks 0x32 [80] ∧ takes twoLinks 0x34 [80, 0] ∧ takes twoLinks 0x35 [80] ∧ 80 ≤ u8At [80] 0 ∧ 80 ≤ u8At [80, 0] 0 := by
  decide +kernel

/-- A context that serves camera link 2. -/
def serving (c : Context) : State := onAir.setContext 3 { c with link := 2 }

theorem witness_AbortReleaseUndefine :
    takes onAir 0x32 [2] ∧ (∀ k : ContextId, onAir.contexts[k].stage = .free ∨ onAir.contexts[k].link ≠ 2)
      ∧ takes (serving { stage := .confirm }) 0x32 [2] ∧ (serving { stage := .confirm }).serving 2 = some 3
      ∧ (serving { stage := .switch, committed := true }).serving 2 = some 3
      ∧ takes twoLinks 0x34 [78, 0] ∧ twoLinks.links[(78 : LinkId)].state = .unused
      ∧ takes (cameraIn .retuning) 0x34 [2, 1] ∧ (cameraIn .retuning).links[(2 : LinkId)].state = .retuning
      ∧ takes twoLinks 0x34 [79, 0] ∧ twoLinks.links[(79 : LinkId)].state = .idle ∧ ¬ (∃ e ∈ twoLinks.retuneQueue, e.link = 79)
      ∧ (let s := onAir.setLink 2 { cameraLink with live := true }
         takes s 0x34 [2, 0] ∧ s.links[(2 : LinkId)].live = true ∧ takes s 0x34 [2, 1] ∧ byteAt [2, 1] 1 ≠ 0)
      ∧ takes onAir 0x34 [2, 0] ∧ onAir.links[(2 : LinkId)].live = false
      ∧ takes onAir 0x35 [2] ∧ onAir.links[(2 : LinkId)].state ≠ .idle ∧ takes twoLinks 0x35 [79]
      ∧ (let s := { twoLinks with retuneQueue := [{ link := 79, target := .nextCandidate, reason := .assign, force := false, held := true }] }
         takes s 0x35 [79] ∧ ∃ e ∈ s.retuneQueue, e.link = 79) := by decide +kernel

/-- A retune queue of sixteen other links behind a context in PREPARE. -/
def fullQueue : State := { serving { stage := .prepare, target := .nextCandidate } with retuneQueue := (queueOf 16 State.reset).retuneQueue }

theorem witness_AbortReleaseUndefine_before :
    (takes (serving { stage := .closing }) 0x32 [2] ∧ (serving { stage := .closing }).serving 2 = some 3)
    ∧ (takes (serving { stage := .coordinate }) 0x32 [2] ∧ (serving { stage := .coordinate }).serving 2 = some 3)
    ∧ (takes (serving { stage := .switch }) 0x32 [2] ∧ (serving { stage := .switch }).serving 2 = some 3
       ∧ (serving { stage := .switch }).contexts[(3 : ContextId)].committed = false)
    ∧ (let t := State.settleEarly (serving { stage := .prepare }) 3 .returned .prepare
       (¬ ∃ e ∈ t.retuneQueue, e.link = 2) ∧ t.retuneQueue.length < 16)
    ∧ (let t := fullQueue.settleEarly 3 .returned .prepare; (¬ ∃ e ∈ t.retuneQueue, e.link = 2) ∧ 16 ≤ t.retuneQueue.length)
    ∧ (let s := { serving { stage := .prepare } with retuneQueue := [{ link := 2, target := .backup, reason := .fade, force := false, held := true }] }
       ∃ e ∈ (s.settleEarly 3 .returned .prepare).retuneQueue, e.link = 2)
    ∧ (serving { stage := .confirm }).contexts[(3 : ContextId)].stage = .confirm
    ∧ (serving { prior := .up }).contexts[(3 : ContextId)].prior ≠ .idle ∧ (serving {}).contexts[(3 : ContextId)].prior = .idle := by
  decide +kernel

theorem witness_AbortReleaseUndefine_closing :
    (let s := serving { stage := .prepare, preloadRack := some 10, preloadPortable := some 20 }
     s.agent.quiesce ≠ .quiescing ∧ s.contexts[(3 : ContextId)].preloadRack ≠ none)
    ∧ (let s := serving { stage := .coordinate, coordinating := true }; s.contexts[(3 : ContextId)].coordinating = true)
    ∧ (let s := serving { stage := .prepare }; s.holdsSlot 3 = false ∧ s.contexts[(3 : ContextId)].coordinating = false) := by
  decide +kernel

/-- The cells of slots 0 and 1 wait in the command queue; slot 0's has begun no transmission. -/
def queuedSlots : State :=
  let x : Slot := { state := .queued, owner := some (.context 3 .rack), unit := 10, command := [0x01] }
  let s := serving { stage := .prepare }
  let cell (i : SlotId) : UnitCell := { cell := makeCell 5 10 0 false [0x01], slot := i }
  { s with unit := { s.unit with slots := Vector.ofFn fun i => if i = 0 then x else if i = 1 then { x with begun := true } else {} }
           dport := { s.dport with command := [cell 0, cell 1] } }

/-- A queued slot that has not begun is withdrawn with its cell; one that has begun stays. -/
theorem test_queued_slot_is_withdrawn :
    (let t := queuedSlots.withdrawContext 3
     t.unit.slots[(0 : SlotId)] = {} ∧ t.unit.slots[(1 : SlotId)].state = .queued ∧ t.dport.command.map (·.slot) = [1]) := by
  decide +kernel

/-! The unit channel -/

/-- Slots in place of those after reset. -/
def slots (f : SlotId → Slot) : State := { onAir with unit := { onAir.unit with slots := Vector.ofFn f } }
def taken : Slot := { state := .sent, owner := some (.relay 99), unit := 200 }
def waitingFor (owner : Owner) : SlotRequest := { owner, unit := 20, command := [0x05, 2] }
def asking2 (s : State) (qs : List SlotRequest) : State := { s with unit := { s.unit with waiting := qs } }

theorem witness_SlotIsGranted :
    (let s := asking2 (slots fun i => if i.val < 11 then taken else {}) [waitingFor (.relay 1)]
     s.due = [] ∧ s.unit.waiting = [] ++ waitingFor (.relay 1) :: [] ∧ (waitingFor (.relay 1)).pair = false
     ∧ s.unit.slots[(11 : SlotId)].state = .free ∧ (11 : SlotId).val < 12 ∧ ∀ j : SlotId, j < 11 → s.unit.slots[j].state ≠ .free)
    ∧ (let s := asking2 (slots fun i => if i.val < 15 then taken else {}) [waitingFor (.relay 1), waitingFor (.tally 2)]
       s.unit.waiting = [waitingFor (.relay 1)] ++ waitingFor (.tally 2) :: [] ∧ s.unit.slots[(15 : SlotId)].state = .free
       ∧ (∀ j : SlotId, 12 ≤ j.val → j < 15 → s.unit.slots[j].state ≠ .free)
       ∧ ∀ j : SlotId, j.val < 12 → s.unit.slots[j].state ≠ .free)
    ∧ (let s := asking2 (slots fun i => if i.val = 0 then {} else taken) [waitingFor (.tally 2)]
       s.unit.waiting = [] ++ waitingFor (.tally 2) :: [] ∧ s.unit.slots[(0 : SlotId)].state = .free
       ∧ ∀ j : SlotId, (12 ≤ j.val ∨ j < 0) → s.unit.slots[j].state ≠ .free) := by decide +kernel

/-- The rack unit's slot of context 3's pair waits in slot 0; its other slot is asked for. -/
def halfPair : State :=
  slots fun i => if i = 0 then { state := .waiting, owner := some (.context 3 .rack), unit := 10, command := [0x02], single := true, pair := true } else {}
def otherHalf : SlotRequest := { owner := .context 3 .portable, unit := 20, command := [0x02], single := true, pair := true }

theorem witness_SlotIsGranted_pair :
    halfPair.unit.waiting = [] ∧ otherHalf.pair = true ∧ halfPair.unit.slots[(0 : SlotId)].pair = true
      ∧ halfPair.unit.slots[(0 : SlotId)].state ≠ .free ∧ halfPair.unit.slots[(0 : SlotId)].owner = some (.context 3 .rack)
      ∧ (∀ n : SlotId, ¬ n < 0) ∧ halfPair.unit.slots[(1 : SlotId)].state = .free
      ∧ (∀ j : SlotId, j < 1 → halfPair.unit.slots[j].state ≠ .free)
      ∧ (∀ j : SlotId, j ≠ 0 → onAir.unit.slots[j].pair = false) := by decide +kernel

theorem witness_SlotIsGranted_asks :
    (let s := slots fun i => if i.val < 12 then taken else {}
     s.unit.waiting = [] ∧ ∀ j : SlotId, ¬ (s.unit.slots[j].state = .free ∧ j.val < 12))
    ∧ (let s := asking2 onAir [waitingFor (.relay 1)]
       waitingFor (.relay 1) ∈ s.unit.waiting ∧ s.unit.slots[(0 : SlotId)].state = .free) := by decide +kernel

/-- The two slots of a pair name each other. -/
theorem test_pair_slots_name_each_other :
    (halfPair.askSlot otherHalf).unit.slots[(0 : SlotId)].mate = some 1
      ∧ (halfPair.askSlot otherHalf).unit.slots[(1 : SlotId)].mate = some 0 := by decide +kernel

def waitingSlot (owner : Owner) : Slot := { state := .waiting, owner := some owner, unit := 20, command := [0x05, 2] }
def oneSlot (x : Slot) : State := slots fun i => if i = 12 then x else {}
def queuesOf (s : State) (urgent command : Nat) : State :=
  { s with dport := { s.dport with urgent := List.replicate urgent tallying, command := List.replicate command tallying } }

theorem witness_SlotOffersItsCell :
    (let s := queuesOf (oneSlot (waitingSlot (.tally 2))) 7 0
     s.due = [] ∧ s.unit.slots[(12 : SlotId)].state = .waiting ∧ s.unit.slots[(12 : SlotId)].pair = false
     ∧ s.unit.slots[(12 : SlotId)].owner = some (.tally 2) ∧ (∀ j : SlotId, s.unit.slots[j].turn = false ∧ s.unit.slots[j].pair = false)
     ∧ (∀ j : SlotId, j ≠ 12 → s.unit.slots[j].state ≠ .waiting) ∧ s.dport.urgent.length < 8)
    ∧ (queuesOf (oneSlot (waitingSlot (.tally 2))) 8 0).dport.urgent.length = 8
    ∧ (let s := queuesOf (oneSlot (waitingSlot (.relay 1))) 0 15
       s.unit.slots[(12 : SlotId)].owner = some (.relay 1) ∧ s.readyToOffer 12 = true
       ∧ s.passesCommand s.unit.slots[(12 : SlotId)].serial = false ∧ s.dport.command.length < 16)
    ∧ (queuesOf (oneSlot (waitingSlot (.relay 1))) 0 16).dport.command.length = 16 := by decide +kernel

/-- Slot 0 was allocated before slot 12 and waits for the same or for another unit. -/
def earlier (owner : Owner) (unit : Byte) : State :=
  slots fun i => if i = 12 then { waitingSlot owner with serial := 1 } else if i = 0 then { waitingSlot owner with unit } else {}

/-- A slot behind an earlier one of its unit is not ready; one of another unit would pass it; and nothing is offered. -/
theorem witness_SlotOffersItsCell_passes :
    ((earlier (.tally 2) 20).readyToOffer 12 = false ∧ (earlier (.tally 2) 21).readyToOffer 12 = true
      ∧ (earlier (.tally 2) 21).readyToOffer 0 = true ∧ (earlier (.tally 2) 21).passesUrgent 1 = true)
    ∧ ((earlier (.relay 1) 21).readyToOffer 12 = true ∧ (earlier (.relay 1) 21).passesCommand 1 = true)
    ∧ after (.slotOffer 12) (earlier (.tally 2) 21) = earlier (.tally 2) 21
    ∧ after (.slotOffer 12) (earlier (.relay 1) 20) = earlier (.relay 1) 20 := by decide +kernel

/-! What the transmitters' further clauses ask for: a pair that may not be committed, and slots that a START met in transmission -/

/-- Camera link 2, live and on its way: context 3 has its SWITCH pair, whose one cell in the urgent queue is that of slot 0. -/
def pairOfLiveLink : State :=
  { (slots fun i => if i = 0 then { state := .queued, owner := some (.context 3 .rack), unit := 10, command := [0x02], pair := true }
       else {}) with
    links := put onAir.links 2 { cameraLink with live := true }
    contexts := put onAir.contexts 3 { stage := .switch, link := 2 }
    dport := { urgent := [{ switching with context := some 3 }] } }

theorem witness_LockedPairCommits_refused :
    let s := pairOfLiveLink
    s.due = [] ∧ s.pins.reset = false ∧ s.pins.backoff = false ∧ s.dport.line = .idle ∧ s.dport.frameSlot = none
      ∧ s.dport.urgent = { switching with context := some 3 } :: [] ∧ byteAt (cellData switching.cell) 0 = 0x02
      ∧ s.contexts[(3 : ContextId)].link = 2 ∧ s.links[(2 : LinkId)].live = true ∧ s.exempt 3 = false
      ∧ s.contexts[(3 : ContextId)].stage = .switch ∧ s.contexts[(3 : ContextId)].committed = false ∧ (s.giveBack 3).dport.noPair
      ∧ (∀ i : SlotId, s.unit.slots[i].ownedBy 3 = true → s.unit.slots[i].state = .queued ∧ s.unit.slots[i].begun = false
          ∧ ∀ x ∈ s.dport.urgent, x.slot = i → x.committed = false) := by decide +kernel

/-- Behind a pair whose commit is refused, the pair of another context is committed. -/
theorem test_pair_behind_a_refused_one :
    let t := after (.transmitStart .d) { pairOfLiveLink with dport := { urgent := [{ switching with context := some 3 }, { reverting with slot := 1 }] } }
    t.dport.urgent.map (fun q => (q.context, q.committed)) = [(some 1, true)] ∧ t.dport.line = .urgent
      ∧ t.contexts[(1 : ContextId)].committed = true := by decide +kernel

theorem witness_TransmitCompletesOrIsAbandoned_again :
    (let s := { oneSlot (waitingSlot (.tally 2)) with dport := { line := .urgent, urgent := [{ tallying with slot := 12 }] } }
     s.dport.line = .urgent ∧ s.dport.urgent = { tallying with slot := 12 } :: [] ∧ tallying.context = none
     ∧ s.unit.slots[(12 : SlotId)].again = false)
    ∧ (let s := oneSlot { waitingSlot (.tally 2) with again := true }
       s.unit.slots[(12 : SlotId)].again = true ∧ s.unit.slots[(12 : SlotId)].owner ≠ some (.scan .a)
       ∧ s.unit.slots[(12 : SlotId)].owner ≠ some (.scan .b))
    ∧ (let s := oneSlot { waitingSlot (.scan .a) with again := true }
       s.unit.slots[(12 : SlotId)].owner = some (.scan .a) ∧ s.unit.slots[(12 : SlotId)].discard = false) := by decide +kernel

def pairSlot (side : Side) (unit : Byte) (mate : SlotId) : Slot :=
  { state := .waiting, owner := some (.context 3 side), unit, command := [0x02], single := true, pair := true, mate := some mate }
def pairState (urgent : Nat) : State :=
  queuesOf (slots fun i => if i = 0 then pairSlot .rack 10 1 else if i = 1 then pairSlot .portable 20 0 else {}) urgent 0

theorem witness_PairIsSubmitted :
    (pairState 6).due = [] ∧ (pairState 6).pairSlots 3 = some (0, 1) ∧ (0 : SlotId) ≠ 1 ∧ (pairState 6).pairReady 3 = true
      ∧ (pairState 6).passesUrgent ((pairState 6).pairSerial 3) = false ∧ (pairState 6).dport.urgent.length + 2 ≤ 8
      ∧ 8 < (pairState 7).dport.urgent.length + 2 ∧ (pairState 7).pairReady 3 = true
      ∧ (pairState 7).passesUrgent ((pairState 7).pairSerial 3) = false := by decide +kernel

/-- A SENT slot that holds the turn of unit 20. -/
def sentSlotOfUnit : Slot := { state := .sent, owner := some (.relay 5), unit := 20, command := [0x07], turn := true }

/-- A pair that an earlier TALLY_SET precedes, one whose unit's turn is taken, and no pair. -/
theorem witness_PairIsSubmitted_waits :
    (let s := pairState 6
     let t : State := { s with unit := { s.unit with slots := put (put (put s.unit.slots 0 { pairSlot .rack 10 1 with serial := 1 })
       1 { pairSlot .portable 20 0 with serial := 2 }) 12 { waitingSlot (.tally 2) with unit := 30 } } }
     t.pairSlots 3 = some (0, 1) ∧ t.pairReady 3 = true ∧ t.passesUrgent (t.pairSerial 3) = true ∧ t.pairSlots 2 = none)
    ∧ (let s := slots fun i => if i = 0 then pairSlot .rack 10 1 else if i = 1 then pairSlot .portable 20 0
         else if i = 2 then sentSlotOfUnit else {}
       s.pairReady 3 = false) := by decide +kernel

def sentSlot (attempts : Nat) (single : Bool) : Slot :=
  { state := .sent, owner := some (.relay 5), unit := 20, command := [0x07], attempts, single, turn := true, begun := true
    deadline := some 3 }
def answered (data : List Byte) : Cell := cellOf 6 0 20 data

theorem witness_AnswerIsJudged :
    onAir.due = [] ∧ onAir.pins.reset = false ∧ onAir.sentSlot 20 = none
      ∧ (let c := answered [0x07, 1]; integral c = true ∧ c.kind = 6 ∧ c.dest = 0 ∧ 2 ≤ c.len.toNat ∧ byteAt (cellData c) 1 ≠ 3)
      ∧ (let s := oneSlot (sentSlot 1 false)
         s.sentSlot (answered [0x08, 1]).src = some 12 ∧ byteAt (cellData (answered [0x08, 1])) 0 ≠ byteAt s.unit.slots[(12 : SlotId)].command 0)
      ∧ (let s := oneSlot { sentSlot 1 false with owner := some (.tally 2) }
         s.sentSlot 20 = some 12 ∧ (answered [0x07, 1, 0]).len.toNat ≠ 2)
      ∧ (let s := oneSlot { sentSlot 1 false with toggle := true }; (answered [0x07, 1]).toggle ≠ s.unit.slots[(12 : SlotId)].toggle)
      ∧ byteAt (cellData (answered [0x07, 1])) 1 = 1 ∧ byteAt (cellData (answered [0x07, 2, 9])) 1 = 2
      ∧ byteAt (cellData (answered [0x07, 4])) 1 ≠ 1 ∧ byteAt (cellData (answered [0x07, 4])) 1 ≠ 2
      ∧ byteAt (cellData (answered [0x07, 4])) 1 ≠ 3 := by decide +kernel

/-- ANSWER of unit 20 with condition START. -/
def starting : Cell := answered [0x07, 3]

theorem witness_AnswerIsJudged_start :
    (integral starting = true ∧ starting.kind = 6 ∧ starting.dest = 0 ∧ 2 ≤ starting.len.toNat ∧ byteAt (cellData starting) 1 = 3
      ∧ isUnit starting.src = true ∧ isUnit (cellOf 6 0 240 [7, 3]).src = false)
    ∧ (∀ i : SlotId, onAir.unit.slots[i].turn = false)
    ∧ (let x : Slot := { waitingSlot (.relay 5) with turn := true, begun := true }
       (oneSlot x).unit.slots[(12 : SlotId)].turn = true ∧ (oneSlot x).unit.slots[(12 : SlotId)].unit = 20 ∧ x.state = .waiting
       ∧ ∀ j : SlotId, j < 12 → (oneSlot x).unit.slots[j].turn = false)
    ∧ (let x : Slot := { waitingSlot (.relay 5) with state := .queued, turn := true }
       let s := oneSlot x
       let queued (committed : Bool) : DPort := { urgent := [{ tallying with slot := 12, committed }] }
       (∃ q ∈ (queued true).urgent, q.slot = 12 ∧ q.committed = true) ∧ (¬ ∃ q ∈ (queued false).urgent, q.slot = 12 ∧ q.committed = true)
       ∧ (∃ q ∈ (queued false).urgent.head?, q.slot = 12) ∧ s.dport.line ≠ .urgent ∧ s.dport.line ≠ .command)
    ∧ ((sentSlot 1 true).state = .sent ∧ (sentSlot 1 true).single = true ∧ (sentSlot 1 false).single = false
       ∧ { sentSlot 1 false with owner := some (.scan .b) }.discard = false) := by decide +kernel

theorem witness_SlotEndsOrRetries :
    (oneSlot (sentSlot 1 false)).unit.slots[(12 : SlotId)].owner = some (.relay 5) ∧ onAir.agent.quiesce ≠ .quiescing
      ∧ onAir.unit.slots[(0 : SlotId)].owner = none
      ∧ (oneSlot (sentSlot 1 true)).unit.slots[(12 : SlotId)].single = true ∧ 3 ≤ (oneSlot (sentSlot 3 false)).unit.slots[(12 : SlotId)].attempts
      ∧ (oneSlot (sentSlot 2 false)).unit.slots[(12 : SlotId)].single = false ∧ (oneSlot (sentSlot 2 false)).unit.slots[(12 : SlotId)].attempts < 3
      ∧ (let s := { oneSlot (sentSlot 2 false) with timing := { frame := 3 }, due := [.answerDeadline 12] }
         .answerDeadline 12 ∈ s.due ∧ s.unit.slots[(12 : SlotId)].state = .sent
         ∧ s.unit.slots[(12 : SlotId)].deadline = some s.timing.frame) := by decide +kernel

theorem witness_SlotEndsOrRetries_scan :
    (let x := { sentSlot 2 false with owner := some (.scan .b) }
     (oneSlot x).unit.slots[(12 : SlotId)].owner = some (.scan .b) ∧ x.discard = false ∧ x.single = false ∧ x.attempts < 3)
    ∧ (let x := { sentSlot 2 false with owner := some (.scan .b), discard := true }
       (oneSlot x).unit.slots[(12 : SlotId)].owner = some (.scan .b) ∧ x.discard = true) := by decide +kernel

/-- The part while QUIESCING, with nothing left to drain, and with a relay's slot. -/
def quiescing (s : State) : State := { s with agent := { s.agent with quiesce := .quiescing } }

theorem witness_SlotEndsOrRetries_drains :
    (let s := quiescing onAir
     s.agent.quiesce = .quiescing ∧ (∀ k : ContextId, s.contexts[k].stage = .free) ∧ s.scan.state ≠ .scanning
     ∧ ∀ i : SlotId, s.unit.slots[i].owner = none)
    ∧ (quiescing (oneSlot (sentSlot 1 false))).unit.slots[(12 : SlotId)].owner = some (.relay 5)
    ∧ (asking onAir 0x50 []).agent.requests = [] ++ asked 0x50 [] :: [] := by decide +kernel

/-- The end of the last relay's slot drains the part. -/
theorem test_last_relay_drains :
    ((quiescing (oneSlot (sentSlot 1 false))).endSlot 12 .done []).agent.quiesce = .quiesced := by decide +kernel

/-- Receiver A at address 30 sweeps segment 0. -/
def sweeping : State :=
  { slots (fun i => if i = 0 then { state := .sent, owner := some (.scan .a), unit := 30, command := [0x06], turn := true } else {}) with
    scan := { state := .scanning, recvA := { current := some 0 }, settings := { recvA := 30 } } }

theorem witness_SweepCellIsTaken :
    sweeping.due = [] ∧ sweeping.pins.reset = false
      ∧ (let c := cellOf 7 0 30 ([0, 14] ++ List.replicate 42 0)
         integral c = true ∧ c.kind = 7 ∧ c.dest = 0 ∧ 14 = u8At (cellData c) 1 ∧ c.len.toNat = 2 + 3 * 14 ∧ c.last = false
         ∧ sweeping.sentSlot c.src = some 0 ∧ byteAt sweeping.unit.slots[(0 : SlotId)].command 0 = 0x06
         ∧ c.toggle = sweeping.unit.slots[(0 : SlotId)].toggle ∧ sweeping.unit.slots[(0 : SlotId)].discard = false
         ∧ (sweeping.sweeper .a).current = some 0 ∧ u8At (cellData c) 0 = (0 : Fin 16).val)
      ∧ (let c := sealCell { cellOf 7 0 30 [0, 0] with last := true }
         integral c = true ∧ c.last = true ∧ 0 = u8At (cellData c) 1 ∧ c.len.toNat = 2 + 3 * 0 ∧ u8At (cellData c) 0 = (0 : Fin 16).val)
      ∧ onAir.sentSlot 31 = none := by decide +kernel

/-- The sweeping slot in another form. -/
def sweepingAs (f : Slot → Slot) : State :=
  { sweeping with unit := { sweeping.unit with slots := put sweeping.unit.slots 0 (f sweeping.unit.slots[(0 : SlotId)]) } }

theorem witness_SweepCellIsTaken_others :
    (let c := cellOf 7 0 30 [1, 0]
     integral c = true ∧ c.kind = 7 ∧ c.dest = 0 ∧ 0 = u8At (cellData c) 1 ∧ c.len.toNat = 2 + 3 * 0
     ∧ sweeping.sentSlot c.src = some 0 ∧ c.toggle = sweeping.unit.slots[(0 : SlotId)].toggle ∧ u8At (cellData c) 0 ≠ (0 : Fin 16).val)
    ∧ ((sweepingAs fun x => { x with command := [0x07] }).sentSlot 30 = some 0
      ∧ byteAt (sweepingAs fun x => { x with command := [0x07] }).unit.slots[(0 : SlotId)].command 0 ≠ 0x06)
    ∧ (sweepingAs fun x => { x with toggle := true }).unit.slots[(0 : SlotId)].toggle ≠ (cellOf 7 0 30 [0, 0]).toggle
    ∧ (sweepingAs fun x => { x with owner := some (.relay 4) }).unit.slots[(0 : SlotId)].owner = some (.relay 4)
    ∧ (sweepingAs fun x => { x with discard := true }).unit.slots[(0 : SlotId)].discard = true := by decide +kernel

/-- A SWEEP cell for a slot that carries another command is a stray one. -/
theorem test_sweep_to_another_command_is_stray :
    (after (.sweepCell (cellOf 7 0 30 [0, 0])) (sweepingAs fun x => { x with command := [0x07] })).agent.flags ≠ onAir.agent.flags := by
  decide +kernel

/-! Points, detections and conflicts: link 2's carrier of class W10 stands at 600,000 kHz in entry 4 -/

def filled : List Detection := List.replicate 31 { freq := 500000, level := -40 } ++ [{ freq := 400000, level := -70 }]
def listed (n : Nat) : List Foreign := (List.range n).map fun i => { freq := 100000 + 1000 * i, peak := if i = 0 then -80 else -50, lastSeen := 0, misses := 0 }
def noticing (fs : List Foreign) : State := { onAir with scan := { onAir.scan with foreign := fs } }

theorem witness_SweepCellIsTaken_points :
    (let g : Segment := { start := 590000, stop := 610000 }
     610000 < g.start + 801 * g.step ∧ apart (g.start + 400 * g.step) onAir.plan.carriers[(4 : EntryId)].freq ≤ 0
     ∧ (-91 : Int) < onAir.scan.settings.threshold ∧ onAir.scan.settings.threshold ≤ (-90 : Int))
    ∧ (let g : Segment := { start := 500000, stop := 500200 }
       let s := onAir.setSweeper .a { results := [{ freq := 500000, level := -60 }, { freq := 500200, level := -60 }] }
       (∀ e : EntryId, ¬ (s.plan.carriers[e].state ≠ .free ∧ apart (g.start + 4 * g.step) s.plan.carriers[e].freq ≤ s.plan.carriers[e].cls.bandwidth / 2))
       ∧ apart (g.start + 4 * g.step) 500000 ≤ s.scan.settings.mergeWidth ∧ apart (g.start + 4 * g.step) 500200 = apart (g.start + 4 * g.step) 500000)
    ∧ (filled.length = 32 ∧ (∀ d ∈ filled, ¬ apart 550000 d.freq ≤ onAir.scan.settings.mergeWidth)
       ∧ filled = List.replicate 31 { freq := 500000, level := -40 } ++ { freq := 400000, level := -70 } :: []
       ∧ ∀ b ∈ List.replicate 31 ({ freq := 500000, level := -40 } : Detection), (-70 : Int) < b.level) := by decide +kernel

theorem witness_SweepCellIsTaken_detections :
    apart 604000 onAir.plan.carriers[(4 : EntryId)].freq ≤ onAir.plan.carriers[(4 : EntryId)].cls.bandwidth / 2
    ∧ (∀ e : EntryId, ¬ (onAir.plan.carriers[e].state ≠ .free
        ∧ apart 100050 onAir.plan.carriers[e].freq ≤ onAir.plan.carriers[e].cls.bandwidth / 2))
    ∧ ((noticing (listed 1)).scan.foreign = [] ++ { freq := 100000, peak := -80, lastSeen := 0, misses := 0 } :: []
       ∧ apart 100100 100000 ≤ (noticing (listed 1)).scan.settings.mergeWidth)
    ∧ ((∀ x ∈ (listed 31), ¬ apart 99000 x.freq ≤ (noticing (listed 31)).scan.settings.mergeWidth) ∧ (listed 31).length < 32
       ∧ ∀ x ∈ listed 31, 99000 ≤ x.freq)
    ∧ ((listed 32).length = 32 ∧ (∀ x ∈ (listed 32), ¬ apart 99000 x.freq ≤ (noticing (listed 32)).scan.settings.mergeWidth)
       ∧ listed 32 = [] ++ { freq := 100000, peak := -80, lastSeen := 0, misses := 0 } :: (listed 32).drop 1
       ∧ (∀ a ∈ (listed 32).drop 1, (-80 : Int) < a.peak)) := by decide +kernel

theorem witness_SweepCellIsTaken_conflicts :
    (onAir.plan.carriers[(4 : EntryId)].link = some 2 ∧ onAir.plan.carriers[(4 : EntryId)].state = .active
      ∧ onAir.plan.carriers[(4 : EntryId)].suspect = false ∧ onAir.links[(2 : LinkId)].flags.autoAvoid = false)
    ∧ (let s := onAir.setLink 2 { cameraLink with flags := { autoBackup := true, autoAvoid := true } }
       let t := s.setCarrier 4 { cameraCarrier with state := .standby }
       s.links[(2 : LinkId)].flags.autoAvoid = true ∧ t.plan.carriers[(4 : EntryId)].state = .standby
       ∧ t.links[(2 : LinkId)].flags.autoBackup = true ∧ t.engine.queue.length < 8 ∧ t.engine.queue = [])
    ∧ (let s := coordinating 0 4
       (s.engine.queue.filter fun q => match q.filer with
          | .context _ => false
          | _ => true).length = 4)
    ∧ (onAir.setCarrier 4 { cameraCarrier with suspect := true }).plan.carriers[(4 : EntryId)].suspect = true
    ∧ (onAir.setCarrier 4 { cameraCarrier with state := .reserved }).plan.carriers[(4 : EntryId)].state = .reserved
    ∧ (onAir.setCarrier 4 { cameraCarrier with state := .blocked }).plan.carriers[(4 : EntryId)].state = .blocked := by decide +kernel

theorem witness_UnitCommandIsRelayed :
    takes onAir 0x50 [0, 0x07] ∧ onAir.unit.waiting = [] ∧ isUnit (byteAt [0, 0x07] 0) = false ∧ isUnit (byteAt [240, 0x07] 0) = false
      ∧ (let s := { onAir with agent := { onAir.agent with quiesce := .quiescing } }
         takes s 0x50 [1, 0x07] ∧ isUnit (byteAt [1, 0x07] 0) = true ∧ (asking s 0x50 [1, 0x07]).agent.quiesce ≠ .running)
      ∧ takes onAir 0x50 [20, 0x40] ∧ onAir.links[(2 : LinkId)].state ≠ .unused ∧ onAir.links[(2 : LinkId)].portable = 20
      ∧ (let s := slots fun i => if i.val < 12 then taken else {}
         takes s 0x50 [239, 0x40] ∧ isUnit (byteAt [239, 0x40] 0) = true ∧ (∀ j : SlotId, j.val < 12 → s.unit.slots[j].state ≠ .free)
         ∧ (∀ l : LinkId, s.links[l].state ≠ .unused → s.links[l].portable ≠ 239 ∧ s.links[l].rack ≠ 239))
      ∧ (let s := slots fun i => if i.val < 11 then taken else {}
         takes s 0x50 [20, 0x07] ∧ s.unit.slots[(11 : SlotId)].state = .free ∧ ∀ j : SlotId, j < 11 → s.unit.slots[j].state ≠ .free) := by
  decide +kernel

/-! The retune contexts -/

def entryFor (l : LinkId) (held : Bool) : QueueEntry := { link := l, target := .nextCandidate, reason := .fade, force := false, held }
def toTake (busy : Nat) : State :=
  { onAir with retuneQueue := [entryFor 79 true, entryFor 2 false]
               contexts := Vector.ofFn fun k => if k.val < busy then { stage := .closing, link := 7 } else {} }

theorem witness_ContextTakesOldestEntry :
    (toTake 3).due = [] ∧ (toTake 3).agent.quiesce = .running ∧ (toTake 3).contexts[(3 : ContextId)].stage = .free
      ∧ (∀ j : ContextId, j < 3 → (toTake 3).contexts[j].stage ≠ .free)
      ∧ (toTake 3).retuneQueue = [entryFor 79 true] ++ entryFor 2 false :: [] ∧ (entryFor 79 true) ≠ entryFor 2 false
      ∧ (entryFor 79 true).held = true ∧ (entryFor 2 false).held = false ∧ (toTake 3).serving 2 = none
      ∧ (entryFor 2 false).target ≠ .backup ∧ (∀ k : ContextId, (toTake 4).contexts[k].stage ≠ .free)
      ∧ (∀ e ∈ onAir.retuneQueue, e.held = true ∨ (onAir.serving e.link).isSome)
      ∧ State.agent { onAir with agent := { onAir.agent with quiesce := .quiesced } } ≠ onAir.agent := by decide +kernel

/-- A queued BACKUP of link 2, whose STANDBY is entry 5. -/
def backupWaits : State :=
  let standby : Carrier := { state := .standby, freq := 610000, cls := .w10, link := some 2 }
  let s := (onAir.setLink 2 { cameraLink with standby := some 5 }).setCarrier 5 standby
  { s with retuneQueue := [{ link := 2, target := .backup, reason := .fade, force := false, held := false }]
           links := put s.links 2 { cameraLink with standby := some 5 } }

theorem witness_ContextTakesOldestEntry_backup :
    let s := backupWaits
    s.due = [] ∧ s.agent.quiesce = .running ∧ s.contexts[(0 : ContextId)].stage = .free
      ∧ s.retuneQueue = [] ++ { link := 2, target := .backup, reason := .fade, force := false, held := false } :: [] ∧ s.serving 2 = none
      ∧ s.links[(2 : LinkId)].standby = some 5 ∧ s.links[(2 : LinkId)].active ≠ some 5 ∧ s.plan.carriers[(5 : EntryId)].link = some 2 := by
  decide +kernel

/-- Slot 0 is the PRELOAD of context 3's rack unit. -/
def preloading (c : Context) : State :=
  let x : Slot := { state := .sent, owner := some (.context 3 .rack), unit := 10, command := [0x01, 0, 9, 0x27, 0xC0, 1], turn := true }
  { serving c with unit := { onAir.unit with slots := put onAir.unit.slots 0 x } }

theorem witness_ContextTakesOldestEntry_ends :
    ((serving { stage := .coordinate, coordinating := true }).contexts[(3 : ContextId)].stage = .coordinate ∧ (some 5 : Option EntryId) = some 5)
    ∧ (Result.noCandidate ≠ .pass)
    ∧ ((preloading { stage := .closing, coordinating := true }).holdsSlot 3 = true
       ∧ (preloading { stage := .closing }).contexts[(3 : ContextId)].stage = .closing)
    ∧ ((serving { stage := .closing, coordinating := true }).holdsSlot 3 = false ∧ (serving { stage := .closing }).agent.quiesce = .running)
    ∧ (let s := preloading { stage := .prepare }
       s.unit.slots[(0 : SlotId)].owner = some (.context 3 .rack) ∧ byteAt s.unit.slots[(0 : SlotId)].command 0 = 0x01
       ∧ s.contexts[(3 : ContextId)].stage = .prepare ∧ s.contexts[(3 : ContextId)].preloadPortable = none)
    ∧ (preloading { stage := .prepare, preloadPortable := some 20 }).contexts[(3 : ContextId)].preloadPortable ≠ none := by decide +kernel

/-- Slots of the SWITCH pair that context 3 still holds. -/
def holding (n : Nat) (c : Context) : State :=
  { serving c with unit := { onAir.unit with slots := Vector.ofFn fun i => if i.val < n then
      { state := .sent, owner := some (.context 3 (if i.val = 0 then .rack else .portable)), unit := 10, command := [0x02], single := true } else {} } }

/-- Slot 0 is the CANCEL of context 3's rack unit, and nothing else is left of it. -/
def cancelling (c : Context) : State :=
  let x : Slot := { state := .sent, owner := some (.context 3 .rack), unit := 10, command := [0x03], turn := true }
  { serving c with unit := { onAir.unit with slots := put onAir.unit.slots 0 x } }

theorem witness_ContextTakesOldestEntry_closes :
    (let s := cancelling { stage := .closing }
     s.unit.slots[(0 : SlotId)].owner = some (.context 3 .rack) ∧ s.contexts[(3 : ContextId)].stage = .closing
     ∧ byteAt s.unit.slots[(0 : SlotId)].command 0 ≠ 0x01 ∧ s.contexts[(3 : ContextId)].coordinating = false
     ∧ (∀ j : SlotId, j ≠ 0 → s.unit.slots[j].owner = none) ∧ s.unit.waiting = [])
    ∧ (cancelling { stage := .closing, coordinating := true }).contexts[(3 : ContextId)].coordinating = true
    ∧ (let s := asking2 (cancelling { stage := .closing }) [waitingFor (.context 3 .portable)]
       waitingFor (.context 3 .portable) ∈ s.unit.waiting ∧ (waitingFor (.context 3 .portable)).owner = .context 3 .portable)
    ∧ Condition.refused ≠ .done ∧ byteAt (preloading { stage := .closing }).unit.slots[(0 : SlotId)].command 0 = 0x01
    ∧ (holding 1 { stage := .switch }).contexts[(3 : ContextId)].stage = .switch
    ∧ (holding 1 { stage := .switch }).unit.slots[(0 : SlotId)].owner = some (.context 3 .rack) := by decide +kernel

/-- The end of its last slot frees a closing context. -/
theorem test_last_slot_frees_the_context :
    ((cancelling { stage := .closing }).endSlot 0 .retryError []).contexts[(3 : ContextId)].stage = .free := by decide +kernel

/-- Context 3 moves link 2 from entry 4 to entry 5, in a stage, at frame 9. -/
def moving (c : Context) (d : DueStep) : State :=
  { serving { c with newEntry := some 5, newFreq := 510000, frame := some 9, deadline := some 9 } with
    timing := { frame := 9 }, due := [d] }

theorem witness_SwitchFrameSwitches :
    (let s := moving { stage := .switch, committed := true, completions := 2, oldEntry := some 4 } (.switchFrame 3)
     .switchFrame 3 ∈ s.due ∧ s.contexts[(3 : ContextId)].stage = .switch ∧ s.contexts[(3 : ContextId)].committed = true
     ∧ s.contexts[(3 : ContextId)].frame = some s.timing.frame ∧ 2 ≤ s.contexts[(3 : ContextId)].completions)
    ∧ (let s := moving { stage := .switch, committed := true, completions := 1, oldEntry := some 4 } (.switchFrame 3)
       s.contexts[(3 : ContextId)].completions < 2 ∧ s.contexts[(3 : ContextId)].oldEntry ≠ none)
    ∧ (let s := moving { stage := .switch, committed := true, completions := 1, oldEntry := none } (.switchFrame 3)
       s.contexts[(3 : ContextId)].completions < 2 ∧ s.contexts[(3 : ContextId)].oldEntry = none) := by decide +kernel

theorem witness_SwitchFrameSwitches_confirms :
    onAir.agent.quiesce ≠ .quiescing ∧ (serving { stage := .confirm }).contexts[(3 : ContextId)].target ≠ .backup
    ∧ (let s := (serving { stage := .confirm, target := .backup }).setLink 2 { cameraLink with flags := { autoBackup := true } }
       s.contexts[(3 : ContextId)].target = .backup ∧ s.links[(2 : LinkId)].flags.autoBackup = true ∧ s.engine.queue = []
       ∧ s.links[(2 : LinkId)].profile = none ∧ s.contexts[(3 : ContextId)].deadline ≠ some s.timing.frame)
    ∧ (¬ (∃ q ∈ (coordinating 5 3).engine.queue, q.kind = .pickBackup ∧ q.link = some 2) ∧ ¬ (coordinating 5 3).engine.queue.length < 8)
    ∧ (∃ q ∈ [{ queuedReq .auto with kind := .pickBackup }], q.kind = .pickBackup ∧ q.link = some 2)
    ∧ (serving { stage := .revert, reverted := true }).contexts[(3 : ContextId)].reverted = true
    ∧ (serving { stage := .revert }).contexts[(3 : ContextId)].reverted = false := by decide +kernel

theorem witness_RevertAndFailure_start :
    (holding 1 { stage := .switch }).holdsSlot 3 = true ∧ (holding 0 { stage := .confirm }).holdsSlot 3 = false
    ∧ (let s := holding 2 { stage := .revert, cause := .pairLate }
       s.unit.slots[(0 : SlotId)].owner = some (.context 3 .rack) ∧ s.contexts[(3 : ContextId)].stage = .revert
       ∧ s.contexts[(3 : ContextId)].asked = false
       ∧ State.holdsSlot { s with unit := { s.unit with slots := put s.unit.slots 0 {} } } 3 = true)
    ∧ (let s := holding 1 { stage := .revert }
       State.holdsSlot { s with unit := { s.unit with slots := put s.unit.slots 0 {} } } 3 = false) := by decide +kernel

theorem witness_RevertAndFailure :
    (let s := moving { stage := .confirm, oldEntry := some 4 } (.confirmDeadline 3)
     .confirmDeadline 3 ∈ s.due ∧ s.contexts[(3 : ContextId)].stage = .confirm
     ∧ s.contexts[(3 : ContextId)].deadline = some s.timing.frame ∧ s.contexts[(3 : ContextId)].oldEntry ≠ none)
    ∧ (moving { stage := .confirm } (.confirmDeadline 3)).contexts[(3 : ContextId)].oldEntry = none
    ∧ (let s := moving { stage := .revert, committed := true, completions := 2, oldEntry := some 4 } (.revertFrame 3)
       .revertFrame 3 ∈ s.due ∧ s.contexts[(3 : ContextId)].stage = .revert ∧ s.contexts[(3 : ContextId)].committed = true
       ∧ s.contexts[(3 : ContextId)].reverted = false ∧ s.contexts[(3 : ContextId)].frame = some s.timing.frame
       ∧ 2 ≤ s.contexts[(3 : ContextId)].completions)
    ∧ (moving { stage := .revert, committed := true, completions := 1, oldEntry := some 4 } (.revertFrame 3)).contexts[(3 : ContextId)].completions < 2
    ∧ (let s := moving { stage := .revert, reverted := true } (.revertConfirmExpiry 3)
       .revertConfirmExpiry 3 ∈ s.due ∧ s.contexts[(3 : ContextId)].reverted = true
       ∧ s.contexts[(3 : ContextId)].deadline = some s.timing.frame)
    ∧ (let s := serving { stage := .revert }
       s.holdsSlot 3 = false ∧ s.contexts[(3 : ContextId)].coordinating = false ∧ s.agent.quiesce = .running) := by decide +kernel

/-! The link monitor -/

/-- TELEMETRY of rack unit 10, channel 1: lock in bit 7, frequency, level, quality, battery. -/
def telemetry (lock : Bool) (f : Nat) (level quality battery : Byte) : Cell :=
  cellOf 4 0 10 ([BitVec.ofNat 8 (lock.toNat * 128 + 1)] ++ u32 f ++ [level, quality, battery])

theorem witness_TelemetryIsMonitored :
    onAir.due = [] ∧ onAir.pins.reset = false
      ∧ (let c := telemetry true 600000 0x80 255 255; integral c = true ∧ c.kind = 4 ∧ c.dest = 0 ∧ c.len = 8)
      ∧ (∀ l : LinkId, ¬ (State.reset.links[l].state ≠ .unused ∧ State.reset.links[l].rack = 10 ∧ State.reset.links[l].chan = 1))
      ∧ (onAir.links[(2 : LinkId)].state ≠ .unused ∧ onAir.links[(2 : LinkId)].rack = 10
          ∧ onAir.links[(2 : LinkId)].chan = u8At (cellData (telemetry true 600000 0 0 0)) 0 % 4)
      ∧ (∀ m : LinkId, m < 2 → onAir.links[m].state = .unused)
      ∧ (cameraIn .idle).links[(2 : LinkId)].state = .idle ∧ onAir.links[(2 : LinkId)].profile = none
      ∧ u8At (cellData (telemetry true 600000 0 0 255)) 7 = 255
      ∧ (let s := onAir.setLink 2 { cameraLink with state := .idle, profile := some 7 }
         s.links[(2 : LinkId)].profile = some 7 ∧ u8At (cellData (telemetry true 600000 0 0 19)) 7 < s.profiles[(7 : Fin 8)].battery
         ∧ s.monitors[(2 : LinkId)].batteryLow = false)
      ∧ (onAir.links[(2 : LinkId)].active.map fun e => onAir.plan.carriers[e].freq) = some 600000
      ∧ u32At (cellData (telemetry true 600001 0 0 0)) 1 ≠ 600000 ∧ u32At (cellData (telemetry true 600000 0 0 0)) 1 = 600000
      ∧ (cameraIn .faded).links[(2 : LinkId)].state = .faded ∧ flagAt (cellData (telemetry true 600000 0 0 0)) 0 7 = true
      ∧ flagAt (cellData (telemetry false 600000 0 0 0)) 0 7 = false := by decide +kernel

theorem witness_TelemetryIsMonitored_states :
    (let s := onAir.setLink 2 { cameraLink with profile := some 7 }
     s.links[(2 : LinkId)].state = .up ∧ s.links[(2 : LinkId)].profile = some 7
     ∧ (s.links[(2 : LinkId)].active.map fun e => s.plan.carriers[e].freq) = some (u32At (cellData (telemetry true 600000 0 0 0)) 1))
    ∧ (let s := cameraIn .lost
       s.links[(2 : LinkId)].state = .lost ∧ (s.links[(2 : LinkId)].active.map fun e => s.plan.carriers[e].freq) = some 600000)
    ∧ ((cameraIn .retuning).links[(2 : LinkId)].state = .retuning ∧ (cameraIn .retuning).serving 2 = none)
    ∧ (let s := State.setContext (cameraIn .retuning) 3 { stage := .confirm, link := 2, newFreq := 510000, oldEntry := some 4 }
       s.serving 2 = some 3 ∧ s.contexts[(3 : ContextId)].newFreq = u32At (cellData (telemetry true 510000 0 0 0)) 1
       ∧ (s.contexts[(3 : ContextId)].oldEntry.map fun e => s.plan.carriers[e].freq) = some 600000)
    ∧ (let s := State.setContext (cameraIn .assigning) 3 { stage := .revert, reverted := true, link := 2, newFreq := 510000, oldEntry := some 4 }
       s.serving 2 = some 3 ∧ s.contexts[(3 : ContextId)].reverted = true)
    ∧ State.reset.profiles[(7 : Fin 8)].low ≤ s8At (cellData (telemetry true 600000 0xA6 0 0)) 5
    ∧ ¬ State.reset.profiles[(7 : Fin 8)].low ≤ s8At (cellData (telemetry true 600000 0xA5 0 0)) 5 := by decide +kernel

theorem witness_TelemetryIsMonitored_filter :
    LevelSide.low ≠ Monitor.side {} ∧ Monitor.run {} = 0 ∧ Profile.levelCount {} ≤ 8 ∧ 2 < Profile.levelCount {} ∧ 3 = Profile.levelCount {} := by
  decide

/-- The run of R129's example breaks at a sample on the recognized side, and a sample on the third side starts it again. -/
theorem test_level_run_breaks :
    let m (ds : List LevelSide) : Monitor := ds.foldl (fun u d => Monitor.levelFilter u {} d) {}
    (m [.low, .low, .normal, .low, .low]).side = .normal ∧ (m [.low, .low, .normal, .low, .low, .low]).side = .low
      ∧ ((m [.low, .low, .high]).runSide, (m [.low, .low, .high]).run) = (.high, 1) ∧ 1 ≤ Profile.levelCount {}
      ∧ Monitor.levelFilter {} { levelCount := 1 } .high = { side := .high, runSide := .high } := by decide +kernel

theorem witness_TelemetryIsMonitored_silent :
    let s := { (onAir.setLink 2 { cameraLink with profile := some 0 }).setMonitor 2 { silence := 25 } with due := [.telemetryTimeout 2] }
    .telemetryTimeout 2 ∈ s.due ∧ s.links[(2 : LinkId)].state = .up ∧ s.links[(2 : LinkId)].profile = some 0
      ∧ s.profiles[(0 : Fin 8)].timeout ≤ s.monitors[(2 : LinkId)].silence := by decide +kernel

theorem witness_ProfilesAndMonitorByRequest :
    takes State.reset 0x1A [8] ∧ 8 ≤ u8At [8] 0 ∧ takes State.reset 0x1A [7] ∧ u8At [7] 0 = (7 : Fin 8).val
      ∧ takes State.reset 0x1B [8, 0x81, 0, 9, 100, 0, 3, 0, 255, 100]
      ∧ takes State.reset 0x1B [7, 0x81, 0, 9, 100, 0, 3, 0, 255, 100] ∧ s8At [7, 0x81, 0] 1 = -127 ∧ s8At [7, 0x81, 0] 2 = 0
      ∧ u8At [7, 0x81, 0, 9, 100, 0, 3, 0, 255, 100] 6 = Direction.none.code ∧ u8At [7, 0x81, 0, 9, 100, 0, 3, 0, 255, 100] 7 = Direction.fall.code
      ∧ takes State.reset 0x1B [7, 0x81, 0x81, 9, 100, 0, 3, 0, 255, 100] ∧ ¬ s8At [7, 0x81, 0x81] 1 < s8At [7, 0x81, 0x81] 2
      ∧ takes State.reset 0x48 [80, 3] ∧ 80 ≤ u8At [80, 3] 0 ∧ takes onAir 0x48 [79, 3] ∧ u8At [79, 3] 0 = (79 : LinkId).val := by
  decide +kernel

/-! The scan engine -/

/-- A SCAN LIST write: segment, start, stop, step 0, enabled. -/
def segmentArgs (i : Byte) (start stop : Nat) : List Byte := [i] ++ u32 start ++ u32 stop ++ u32 0 ++ [1]
def scanning (st : ScanState) : State :=
  { State.reset with scan := { State.reset.scan with state := st, settings := { recvA := 30 }
                                                     segments := put State.reset.scan.segments 0 { start := 500000, stop := 600000, enabled := true } } }
def triggered (s : State) : State := { s with due := [.scanTrigger] }
def notRunning (s : State) : State := { s with agent := { s.agent with quiesce := .quiesced } }

theorem witness_ScanListAndStates :
    takes State.reset 0x1C [16] ∧ takes State.reset 0x1D (segmentArgs 16 30000 30000) ∧ 16 ≤ u8At [16] 0
      ∧ takes State.reset 0x1C [15] ∧ u8At [15] 0 = (15 : Fin 16).val
      ∧ takes (scanning .scanning) 0x1D (segmentArgs 15 30000 30000) ∧ (scanning .scanning).scan.state = .scanning
      ∧ takes State.reset 0x1D (segmentArgs 15 29999 30000) ∧ flagAt (segmentArgs 15 29999 30000) 13 0 = true
      ∧ takes State.reset 0x1D (segmentArgs 15 30000 1668400) ∧ u32At (segmentArgs 15 30000 1668400) 1 = 30000
      ∧ takes State.reset 0x1D (segmentArgs 15 30000 1668375) ∧ (1668375 - 30000) / 25 + 1 ≤ 65536 ∧ ¬ (1668400 - 30000) / 25 + 1 ≤ 65536
 := by
  decide +kernel

theorem witness_ScanListAndStates_states :
    takes (scanning .idle) 0x40 [] ∧ (scanning .idle).agent.quiesce = .running ∧ (scanning .idle).scan.settings.parallel = false
      ∧ (scanning .idle).scan.settings.recvA ≠ 0
      ∧ ((List.finRange 16).takeWhile fun i => (scanning .idle).scan.segments[i].enabled) = 0 :: []
      ∧ takes State.reset 0x40 [] ∧ State.reset.scan.settings.recvA = 0 ∧ State.reset.scan.settings.recvB = 0
      ∧ takes (notRunning (scanning .idle)) 0x40 [] ∧ takes (scanning .stopped) 0x40 [] ∧ takes (scanning .scanning) 0x41 []
      ∧ takes (scanning .idle) 0x41 [] ∧ takes (scanning .stopped) 0x42 [] ∧ takes (scanning .scanning) 0x42 []
      ∧ .scanTrigger ∈ (triggered (scanning .idle)).due ∧ (notRunning (scanning .idle)).agent.quiesce ≠ .running
      ∧ (triggered (scanning .stopped)).scan.state = .stopped ∧ (scanning .scanning).agent.quiesce ≠ .quiescing := by decide +kernel

/-- Both receivers sweep the list in parallel: segments 0, 1 and 8. -/
def parallel (a b : Byte) : State :=
  { State.reset with scan := { State.reset.scan with
      settings := { recvA := a, recvB := b, parallel := true }
      segments := Vector.ofFn fun i => { start := 500000, stop := 600000, enabled := i.val ≠ 2 && i.val < 9 } } }

theorem witness_ScanListAndStates_parallel :
    (parallel 30 31).scan.settings.parallel = true ∧ (parallel 30 31).scan.settings.recvA ≠ 0 ∧ (parallel 30 31).scan.settings.recvB ≠ 0
    ∧ (((List.finRange 16).filter fun i => 0 ≤ i.val ∧ i.val < 8).takeWhile fun i => (parallel 30 31).scan.segments[i].enabled) = 0 :: [1]
    ∧ (((List.finRange 16).filter fun i => 8 ≤ i.val ∧ i.val < 16).takeWhile fun i => (parallel 30 31).scan.segments[i].enabled) = 8 :: []
    ∧ (parallel 30 0).scan.settings.recvB = 0 ∧ (parallel 0 31).scan.settings.recvA = 0 := by decide +kernel

/-- A list whose first segment of each half is disabled, in a state with both receivers set. -/
def emptyList (inParallel : Bool) : State :=
  { State.reset with scan := { State.reset.scan with
      settings := { recvA := 30, recvB := 31, parallel := inParallel }
      segments := Vector.ofFn fun i => { start := 500000, stop := 600000, enabled := i.val ≠ 0 && i.val ≠ 8 } } }

theorem witness_ScanListAndStates_nothing :
    (takes (emptyList false) 0x40 [] ∧ (emptyList false).scan.state = .idle ∧ (emptyList false).agent.quiesce = .running
      ∧ (emptyList false).scan.segments[(0 : Fin 16)].enabled = false ∧ (emptyList false).scan.settings.parallel = false)
    ∧ (takes (emptyList true) 0x40 [] ∧ (emptyList true).scan.settings.parallel = true
      ∧ (emptyList true).scan.segments[(0 : Fin 16)].enabled = false ∧ (emptyList true).scan.segments[(8 : Fin 16)].enabled = false)
    ∧ ((emptyList true).hasSegments = false ∧ .scanTrigger ∈ (triggered (emptyList true)).due ∧ (triggered (emptyList true)).hasSegments = false)
    ∧ (takes (parallel 0 31) 0x40 [] ∧ (parallel 0 31).scan.settings.recvB ≠ 0 ∧ (parallel 0 31).scan.segments[(8 : Fin 16)].enabled = true
      ∧ (parallel 0 31).agent.quiesce = .running ∧ .scanTrigger ∈ (triggered (parallel 30 31)).due)
    ∧ (let s := { scanning .idle with scan := { (scanning .idle).scan with settings := { recvB := 31 } } }
       takes s 0x40 [] ∧ s.scan.settings.recvA = 0 ∧ s.scan.settings.recvB ≠ 0 ∧ s.scan.settings.parallel = false) := by decide +kernel

theorem witness_ScanListAndStates_ends :
    (sweeping.unit.slots[(0 : SlotId)].owner = some (.scan .a) ∧ sweeping.unit.slots[(0 : SlotId)].discard = false
      ∧ (sweeping.sweeper .a).current = some 0 ∧ (sweeping.sweeper .a).todo = [] ∧ (sweeping.sweeper .b).current = none
      ∧ sweeping.scan.state = .scanning)
    ∧ (sweeping.setSweeper .a { current := some 0, todo := [1] }).scan.recvA.todo = 1 :: []
    ∧ (let s := noticing [{ freq := 500000, peak := -50, lastSeen := 9, misses := 2 }, { freq := 500500, peak := -50, lastSeen := 9, misses := 1 }]
       (9 : Half) ≠ s.scan.number ∧ s.scan.failedRanges = [] ∧ s.scan.settings.ageLimit ≤ 2 + 1 ∧ ¬ s.scan.settings.ageLimit ≤ 1 + 1)
    ∧ (onAir.scan.settings.mode ≠ .loop ∧ onAir.agent.quiesce ≠ .quiescing ∧ onAir.ageForeign.scan.removed < 256)
    ∧ (scanning .idle).hasSegments = true ∧ (notRunning onAir).agent.quiesce = .quiesced := by decide +kernel

/-! The tally processor -/

/-- A TALLY cell: mode and count, sources 64 and 1, states PROGRAM and PREVIEW. -/
def tallyCell (mode : Byte) : Cell := cellOf 2 0 9 [mode + 2, 64, 1, 0x90]
def stale (s : State) : State := { s with tally := { s.tally with stale := true, staleFrames := 65535 } }

theorem witness_TallyIsTakenAppliedAndStale :
    onAir.due = [] ∧ onAir.pins.reset = false
      ∧ (let c := tallyCell 0x80
         integral c = true ∧ c.kind = 2 ∧ 2 = u8At (cellData c) 0 % 32 ∧ 2 ≤ 24 ∧ c.len.toNat = 1 + 2 + (2 + 3) / 4
         ∧ u8At (cellData c) (1 + 0) = (63 : Fin 64).val + 1 ∧ u8At (cellData c) (1 + 1) = (0 : Fin 64).val + 1
         ∧ ∀ j < 2, u8At (cellData c) (1 + j) ≠ (7 : Fin 64).val + 1)
      ∧ (let c := cellOf 2 0 9 ([24] ++ List.replicate 24 1 ++ List.replicate 6 0); integral c = true ∧ c.len.toNat = 1 + 24 + (24 + 3) / 4)
      ∧ onAir.tally.stale = false ∧ (stale onAir).tally.stale = true ∧ (stale onAir).tally.staleFrames < 65536
      ∧ (let s := { onAir with tally := { onAir.tally with count := 50 }, due := [.tallyTimeout] }
         .tallyTimeout ∈ s.due ∧ s.tally.stale = false ∧ s.tally.timeout ≤ s.tally.count ∧ s.links[(2 : LinkId)].kind = .camera
         ∧ s.links[(2 : LinkId)].state ≠ .unused) := by decide +kernel

theorem witness_TallyIsTakenAppliedAndStale_live :
    (let s := { onAir with tally := { onAir.tally with applied := put onAir.tally.applied 63 .both
                                                       inEffect := put onAir.tally.inEffect 63 { links := [2] } } }
     s.tally.liveByTally 2 = true ∧ s.links[(2 : LinkId)].live = false ∧ s.serving 2 = none
     ∧ (s.setContext 3 { stage := .prepare, link := 2 }).serving 2 = some 3 ∧ (s.setContext 3 { stage := .prepare, link := 2 }).exempt 3 = false)
    ∧ onAir.tally.liveByTally 2 = false := by decide +kernel

/-- The camera of link 2 in a record, with its TALLY_SET in slot 12. -/
def display (c : Camera) (unit : Byte) : State :=
  { oneSlot { state := .sent, owner := some (.tally 2), unit, command := [0x05, 2], turn := true } with
    tally := { onAir.tally with cameras := put onAir.tally.cameras 2 c } }

theorem witness_TallyIsTakenAppliedAndStale_cameras :
    ((display {} 20).tally.cameras[(2 : LinkId)].target = some .off ∧ (display {} 20).tally.cameras[(2 : LinkId)].busy = false
      ∧ (some Display.off) ≠ some .red ∧ (display { busy := true } 20).tally.cameras[(2 : LinkId)].busy = true)
    ∧ ((display {} 20).unit.slots[(12 : SlotId)].owner = some (.tally 2) ∧ (display {} 20).unit.slots[(12 : SlotId)].unit = 20
       ∧ (display {} 20).links[(2 : LinkId)].portable = 20 ∧ (display {} 21).unit.slots[(12 : SlotId)].unit ≠ 20
       ∧ (display {} 20).links[(2 : LinkId)].kind = .camera ∧ (display {} 20).links[(2 : LinkId)].state ≠ .unused)
    ∧ ((display { busy := true, sent := .red, latched := some .green } 20).tally.cameras[(2 : LinkId)].latched = some .green
       ∧ (Display.green ≠ .red) ∧ (display { delivered := none } 20).tally.cameras[(2 : LinkId)].delivered ≠ some .green)
    ∧ State.reset.links[(2 : LinkId)].state = .unused
    ∧ (∀ m : LinkId, m ≠ 2 → onAir.links[m].kind ≠ .camera) := by decide +kernel

/-- A TALLY MAP write of source 64: four links, every lamp line, output mix 31. -/
def mapArgs (n : Byte) (links : List Byte) (mix : Byte) : List Byte := [64, n] ++ links ++ [0xFF, 0xFF, mix]

theorem witness_TallyMapAndLampsByRequest :
    takes State.reset 0x1E [0] ∧ takes State.reset 0x1E [65] ∧ 64 < u8At [65] 0 ∧ takes State.reset 0x1F [0, 0, 0, 0, 255]
      ∧ takes State.reset 0x20 [16] ∧ takes State.reset 0x21 [16, 0] ∧ takes State.reset 0x1E [64] ∧ u8At [64] 0 = (63 : Fin 64).val + 1
      ∧ takes State.reset 0x1F (mapArgs 4 [0, 1, 2, 79] 31) ∧ 5 + u8At (mapArgs 4 [0, 1, 2, 79] 31) 1 ≤ (mapArgs 4 [0, 1, 2, 79] 31).length
      ∧ ([0, 1, 2, 79] : List LinkId).map (·.val) = (List.range 4).map (fun j => u8At (mapArgs 4 [0, 1, 2, 79] 31) (2 + j))
      ∧ byteAt (mapArgs 4 [0, 1, 2, 79] 31) (4 + 4) = indexByte (some (31 : Fin 32)) ∧ ([0, 1, 2, 79] : List LinkId).Nodup
      ∧ takes State.reset 0x1F (mapArgs 5 [0, 1, 2, 3, 4] 255) ∧ 4 < u8At (mapArgs 5 [0, 1, 2, 3, 4] 255) 1
      ∧ takes State.reset 0x1F (mapArgs 1 [80] 255) ∧ 80 ≤ u8At (mapArgs 1 [80] 255) (2 + 0)
      ∧ takes State.reset 0x1F (mapArgs 2 [3, 3] 255) ∧ u8At (mapArgs 2 [3, 3] 255) (2 + 0) = u8At (mapArgs 2 [3, 3] 255) (2 + 1)
      ∧ takes State.reset 0x1F (mapArgs 0 [] 32) ∧ 32 ≤ u8At (mapArgs 0 [] 32) (4 + 0)
      ∧ takes State.reset 0x20 [15] ∧ u8At [15] 0 = (15 : Fin 16).val ∧ takes State.reset 0x21 [15, 3] ∧ 3 ≤ u8At [15, 3] 1
      ∧ takes State.reset 0x21 [15, 2] ∧ u8At [15, 2] 1 = LampMode.either.code := by decide +kernel

/-! The talkback mixer -/

/-- Input 3 hears the rack unit 10's channel 0 with an area of two blocks, and its buffer holds some. -/
def hearing (x : Input) (blocks : Nat) : State :=
  let y : Input := { x with enabled := true, port := .d, addr := 10, chan := 0, state := .buffering, buffer := List.replicate blocks {} }
  { onAir with mixer := { onAir.mixer with inputs := put onAir.mixer.inputs 3 y } }
def audio (seq : Byte) : Cell := cellOf 3 0 10 ([0x80, seq] ++ List.replicate 32 1)

theorem witness_AudioBlockIsBuffered :
    (let c := audio 9; integral c = true ∧ c.kind = 3 ∧ c.dest = 0 ∧ c.len = 34 ∧ byteAt (cellData c) 1 = 9)
      ∧ onAir.due = [] ∧ onAir.pins.reset = false ∧ (∀ i : Fin 32, onAir.mixer.inputs[i].enabled = false)
      ∧ (let x := (hearing { lastSeq := some 8 } 1).mixer.inputs[(3 : Fin 32)]
         x.enabled = true ∧ x.port = .d ∧ x.chan = u8At (cellData (audio 9)) 0 % 4 ∧ x.addr = (audio 9).src
         ∧ x.lastSeq = some (9 - 1) ∧ x.buffer.length < x.area)
      ∧ (∀ j : Fin 32, j < 3 → (hearing {} 1).mixer.inputs[j].enabled = false)
      ∧ (let x := (hearing { lastSeq := some 9 } 1).mixer.inputs[(3 : Fin 32)]
         x.lastSeq = some 9 ∧ byteAt (cellData (audio 9)) 1 ≠ 9 + 1 ∧ x.seqGap = false)
      ∧ (hearing { lastSeq := some 9, seqGap := true } 1).mixer.inputs[(3 : Fin 32)].seqGap = true
      ∧ (let x := (hearing {} 2).mixer.inputs[(3 : Fin 32)]; ¬ x.buffer.length < x.area ∧ x.lastSeq = none ∧ x.overflow = false)
      ∧ (hearing { overflow := true } 2).mixer.inputs[(3 : Fin 32)].overflow = true := by decide +kernel

theorem witness_AudioBlockIsBuffered_gap_and_full :
    (let x := (hearing { lastSeq := some 9 } 2).mixer.inputs[(3 : Fin 32)]
     x.lastSeq = some 9 ∧ byteAt (cellData (audio 9)) 1 ≠ 9 + 1 ∧ ¬ x.buffer.length < x.area ∧ x.seqGap = false ∧ x.overflow = false)
    ∧ (let x := (hearing { lastSeq := some 255, seqGap := true, overflow := true } 2).mixer.inputs[(3 : Fin 32)]
       x.lastSeq = some 255 ∧ byteAt (cellData (audio 9)) 1 ≠ 255 + 1 ∧ x.seqGap = true ∧ x.overflow = true) := by decide +kernel

theorem witness_BlockTimerMixes :
    onAir.due = [] ∧ onAir.uport.audio.length ≤ 16 ∧ onAir.dport.audio.length ≤ 16 ∧ onAir.blockTimerRuns = true
      ∧ State.blockTimerRuns { onAir with blockTimerRuns := false } = false
      ∧ (lines { audio := List.replicate 16 (audio 0) } {}).dport.audio.length ≤ 16 := by decide +kernel

theorem witness_BlockTimerMixes_inputs :
    (let s := { cameraIn .retuning with mixer := { onAir.mixer with
       inputs := put (put onAir.mixer.inputs 3 { enabled := true, link := some 2, state := .playing, buffer := [{}] })
         31 { enabled := true, state := .muted, buffer := [{}], area := 3 }
       outputs := Vector.replicate 32 { enabled := true, addr := 254 } } }
     s.mixer.inputs[(3 : Fin 32)].enabled = true ∧ s.mixer.inputs[(3 : Fin 32)].link = some 2 ∧ s.links[(2 : LinkId)].state = .retuning
     ∧ s.mixer.inputs[(31 : Fin 32)].link = none ∧ s.mixer.inputs[(31 : Fin 32)].state = .muted ∧ ¬ (3 + 1) / 2 ≤ 1
     ∧ s.mixer.outputs[(31 : Fin 32)].enabled = true ∧ 16 < s.uport.audio.length + 32) := by decide +kernel

theorem witness_CoefficientIsNearestInteger : 127 < 128 ∧ ¬ 128 < 128 := by decide

/-- The pool with sixteen inputs of 32 blocks enabled: all 512 are taken. -/
def fullPool : State :=
  { State.reset with mixer := { State.reset.mixer with inputs := Vector.ofFn fun i =>
      if i.val < 16 then { enabled := true, port := .d, addr := BitVec.ofNat 8 (i.val + 1), area := 32, state := .buffering } else {} } }

theorem witness_InputsByRequest :
    takes State.reset 0x22 [32, 0] ∧ takes State.reset 0x23 [32, 1, 1, 10, 0, 2, 255] ∧ 32 ≤ u8At [32, 0] 0
      ∧ takes State.reset 0x22 [31, 7] ∧ u8At [31, 7] 0 = (31 : Fin 32).val
      ∧ takes State.reset 0x23 [31, 1, 2, 10, 0, 2, 255] ∧ 1 < u8At [31, 1, 2, 10, 0, 2, 255] 2
      ∧ takes State.reset 0x23 [31, 1, 1, 240, 3, 2, 255] ∧ isUnit (byteAt [31, 1, 1, 240, 3, 2, 255] 3) = false
      ∧ takes State.reset 0x23 [31, 1, 0, 1, 3, 2, 255] ∧ u8At [31, 1, 0, 1, 3, 2, 255] 3 ≠ 0
      ∧ takes State.reset 0x23 [31, 1, 1, 239, 4, 2, 80] ∧ 80 ≤ u8At [31, 1, 1, 239, 4, 2, 80] 6
      ∧ takes State.reset 0x23 [31, 1, 1, 239, 3, 2, 79] ∧ u8At [31, 1, 1, 239, 3, 2, 79] 2 = portCode .d
      ∧ byteAt [31, 1, 1, 239, 3, 2, 79] 6 = indexByte (some (79 : LinkId)) ∧ isUnit (byteAt [31, 1, 1, 239, 3, 2, 79] 3) = true
      ∧ State.reset.mixer.inputs[(31 : Fin 32)].enabled = false ∧ State.reset.mixer.owned + 2 ≤ 512
      ∧ takes State.reset 0x23 [31, 0, 1, 239, 3, 2, 79] ∧ flagAt [31, 0, 1, 239, 3, 2, 79] 1 0 = false
 := by
  decide +kernel

theorem witness_InputsByRequest_full :
    takes fullPool 0x23 [31, 1, 1, 239, 3, 2, 79] ∧ 512 < fullPool.mixer.owned + 2 ∧ flagAt [31, 1, 1, 239, 3, 2, 79] 1 0 = true
      ∧ (∀ j : Fin 32, ¬ (fullPool.mixer.inputs[j].addr = 239 ∧ fullPool.mixer.inputs[j].chan = 3))
      ∧ takes fullPool 0x23 [0, 1, 1, 1, 0, 31, 79] ∧ fullPool.mixer.inputs[(0 : Fin 32)].area ≠ 31 ∧ fullPool.mixer.inputs[(0 : Fin 32)].enabled = true
      ∧ takes fullPool 0x23 [31, 1, 1, 1, 0, 32, 79] ∧ fullPool.mixer.inputs[(0 : Fin 32)].addr = byteAt [31, 1, 1, 1, 0, 32, 79] 3
      ∧ takes fullPool 0x23 [0, 1, 1, 1, 0, 33, 79] ∧ takes fullPool 0x23 [0, 0, 1, 1, 0, 33, 79]
      ∧ (let x := fullPool.mixer.inputs[(0 : Fin 32)]; x.port = .d ∧ x.addr = 1 ∧ x.chan = 0 ∧ x.area = max 2 (min 32 33)) := by decide +kernel

theorem witness_OutputsAndCrosspointsByRequest :
    takes State.reset 0x24 [32, 1] ∧ takes State.reset 0x25 [32, 1, 1, 254, 3, 61] ∧ takes State.reset 0x26 [32, 0] ∧ takes State.reset 0x26 [0, 32]
      ∧ takes State.reset 0x27 [32, 0, 0, 128, 1] ∧ takes State.reset 0x27 [0, 32, 0, 128, 1]
      ∧ takes State.reset 0x24 [31, 1] ∧ u8At [31, 1] 0 = (31 : Fin 32).val
      ∧ takes State.reset 0x25 [31, 1, 1, 255, 3, 61] ∧ u8At [31, 1, 1, 255, 3, 61] 3 = 255
      ∧ takes State.reset 0x25 [31, 1, 1, 254, 3, 61] ∧ u8At [31, 1, 1, 254, 3, 61] 2 = portCode .d ∧ u8At [31, 1, 1, 254, 3, 61] 4 ≤ 3
      ∧ takes State.reset 0x26 [31, 31] ∧ u8At [31, 31] 1 = (31 : Fin 32).val
      ∧ takes State.reset 0x27 [31, 31, 2, 128, 1] ∧ 1 < u8At [31, 31, 2, 128, 1] 2
      ∧ takes State.reset 0x27 [31, 31, 1, 128, 1] ∧ u8At [31, 31, 1, 128, 1] 2 ≤ 1 := by decide +kernel

/-! Settings and the agent -/

theorem witness_ConfigIsReadAndWritten :
    takes State.reset 0x28 [1, 23] ∧ [23] = (List.range (u8At [1, 23] 0)).map (fun i => u8At [1, 23] (1 + i)) ∧ 22 < 23
      ∧ takes State.reset 0x28 [2, 1, 22] ∧ [1, 22] = (List.range (u8At [2, 1, 22] 0)).map (fun i => u8At [2, 1, 22] (1 + i))
      ∧ (∀ id ∈ [1, 22], 1 ≤ id ∧ id ≤ 22)
      ∧ takes State.reset 0x29 [2, 1, 5, 22, 1] ∧ configItems [2, 1, 5, 22, 1] = some [{ id := 1, value := [5] }, { id := 22, value := [1] }]
      ∧ (Instr.configStaleAction, 22) ∈ configRows ∧ State.reset.firstRefusal [{ id := 1, value := [5] }, { id := 22, value := [1] }] = none
      ∧ takes State.reset 0x29 [2, 1, 5, 22, 2]
      ∧ State.reset.firstRefusal [{ id := 1, value := [5] }, { id := 22, value := [2] }] = some (.badValue, 22)
      ∧ State.reset.judgeItem [{ id := 1, value := [6] }] 0 { id := 1, value := [6] } = some .badValue := by decide +kernel

theorem witness_ConfigIsReadAndWritten_items :
    configItems (u8 2 ++ [1, 5] ++ [4, 0, 0, 1, 0] ++ [7]) = some [{ id := 1, value := [5] }, { id := 4, value := [0, 0, 1, 0] }]
      ∧ configItems [2, 1, 5, 23] = some [{ id := 1, value := [5] }, { id := 23, value := [] }] ∧ configItems [3, 1, 5, 0] = none
      ∧ configItems [2, 1, 5, 15, 0] = none ∧ configItems [2, 1, 5] = none
      ∧ State.reset.judgeItem [{ id := 23, value := [] }] 0 { id := 23, value := [] } = some .badIndex
      ∧ State.reset.judgeItem [{ id := 1, value := [5] }, { id := 1, value := [5] }] 1 { id := 1, value := [5] } = some .badValue
      ∧ State.reset.judgeItem [{ id := 12, value := [9] }, { id := 13, value := [8] }] 0 { id := 12, value := [9] } = none
      ∧ State.reset.judgeItem [{ id := 12, value := [9] }, { id := 13, value := [9] }] 1 { id := 13, value := [9] } = some .badValue := by
  decide +kernel

/-- Every row of a CONFIG write has a write that is a command of it and that reset accepts. -/
theorem witness_ConfigIsReadAndWritten_rows :
    ∀ p ∈ configRows, takes State.reset 0x29 ([1, BitVec.ofNat 8 p.2] ++ List.replicate 4 0)
      ∧ writesSetting p.2 (asked 0x29 ([1, BitVec.ofNat 8 p.2] ++ List.replicate 4 0)) = true
      ∧ (configItems ([1, BitVec.ofNat 8 p.2] ++ List.replicate 4 0)).any (fun items => State.reset.firstRefusal items == none) := by
  decide +kernel

theorem witness_SettingsAreJudgedAndStored :
    5 < u8At [6] 0 ∧ u8At [5] 0 = FrameRate.r60.code ∧ 1 < u8At [2] 0 ∧ u8At [1] 0 ≤ 1 ∧ 4 ≤ 9 ∧ 9 ≤ 9
      ∧ (onAir.plan.carriers[(4 : EntryId)].state ≠ .free ∧ onAir.plan.carriers[(4 : EntryId)].state ≠ .blocked)
      ∧ ¬ (∃ e : EntryId, State.reset.plan.carriers[e].state ≠ .free ∧ State.reset.plan.carriers[e].state ≠ .blocked)
      ∧ 239 < u8At [240] 0 ∧ (u8At [30] 0 = (scanning .idle).scan.settings.recvA.toNat ∧ u8At [30] 0 ≠ 0)
      ∧ (u8At [239] 0 ≤ 239 ∧ u8At [239] 0 ≠ (scanning .scanning).scan.settings.recvA.toNat ∧ (scanning .scanning).scan.state = .scanning)
      ∧ (u8At [239] 0 ≠ (scanning .idle).scan.settings.recvB.toNat ∧ (scanning .idle).scan.state ≠ .scanning)
      ∧ 2 < u8At [3] 0 ∧ u8At [2] 0 = ScanMode.triggered.code ∧ u8At [1] 0 = StaleAction.dark.code
      ∧ (let a : Foreign := { freq := 500000, peak := -50, lastSeen := 1, misses := 0 }
         let b : Foreign := { freq := 500500, peak := -50, lastSeen := 1, misses := 0 }
         State.scan { State.reset with scan := { foreign := [a, b] } } = { foreign := [] ++ a :: b :: [] }
         ∧ apart a.freq b.freq ≤ max 25 (min 500 (u32At [0, 0, 1, 0xF4] 0)) ∧ ¬ apart a.freq b.freq ≤ max 25 (min 500 (u32At [0, 0, 1, 0xF3] 0))) := by
  decide +kernel

theorem witness_StatusIsReadAndCleared :
    takes State.reset 0x49 [8] ∧ takes State.reset 0x4A [8] ∧ 8 ≤ u8At [8] 0 ∧ takes State.reset 0x49 [7] ∧ u8At [7] 0 = Group.mgmt.code
      ∧ takes State.reset 0x4A [3, 0xFF, 0xFF] ∧ u8At [3, 0xFF, 0xFF] 0 = Group.link.code ∧ [3, 0xFF, 0xFF].length < 1 + 3
      ∧ takes State.reset 0x4A [3, 0xFF, 0xFF, 1] ∧ 1 + 3 ≤ [3, 0xFF, 0xFF, 1].length
      ∧ takes State.reset 0x4A [0, 0x7F, 0x7F] ∧ u8At [0, 0x7F, 0x7F] 0 = Group.port.code
      ∧ takes State.reset 0x4B [0xFF, 0xFF, 0xFF, 0xFF, 0xFF, 0xFF] := by decide +kernel

theorem witness_QuiesceAndResets :
    takes State.reset 0x58 [] ∧ State.reset.agent.quiesce = .running ∧ (∀ k : ContextId, State.reset.contexts[k].stage = .free)
      ∧ State.reset.scan.state ≠ .scanning ∧ (∀ i : SlotId, State.reset.unit.slots[i].owner = none)
      ∧ takes (scanning .scanning) 0x58 [] ∧ (scanning .scanning).scan.state = .scanning
      ∧ takes (notRunning State.reset) 0x58 [] ∧ takes (notRunning State.reset) 0x59 [] ∧ takes State.reset 0x59 []
      ∧ takes State.reset 0x5B [] ∧ takes (underReset State.reset) 0x5B [] ∧ (underReset State.reset).pins.reset = true
      ∧ takes (cameraIn .faded) 0x5A [] ∧ (∀ k : ContextId, (cameraIn .faded).contexts[k].stage = .free)
      ∧ takes fullPool 0x5A [] ∧ fullPool.mixer.inputs[(15 : Fin 32)].enabled = true := by decide +kernel

/-- A warm reset taken while stale: the input that is not enabled keeps its written fields and loses its flags. -/
theorem test_warm_reset_keeps_written_fields :
    let x : Input := { port := .d, addr := 10, area := 8, link := some 2, overflow := true }
    let s := { State.reset with mixer := { State.reset.mixer with inputs := put State.reset.mixer.inputs 31 x }
                                tally := { State.reset.tally with stale := true, staleFrames := 3, timeout := 9, count := 9 } }
    let t := after .warmReset (asking s 0x5A [])
    t.mixer.inputs[(31 : Fin 32)] = { x with overflow := false } ∧ (t.tally.staleFrames, t.tally.timeout, t.tally.count) = (3, 9, 9) := by
  decide +kernel

/-- Context 3 busy in each stage of the settlement. -/
theorem witness_QuiesceAndResets_settles :
    takes (serving { stage := .confirm, oldEntry := some 4 }) 0x5A []
    ∧ (∀ c ∈ [({ stage := .closing } : Context), { stage := .coordinate }, { stage := .prepare, newEntry := some 4 },
          { stage := .switch, prior := .up }, { stage := .switch, committed := true, oldEntry := some 4 }, { stage := .switch, committed := true },
          { stage := .confirm }, { stage := .revert }, { stage := .revert, reverted := true }],
        (serving c).contexts[(3 : ContextId)].stage = c.stage ∧ (serving c).contexts[(3 : ContextId)].committed = c.committed
        ∧ (serving c).contexts[(3 : ContextId)].oldEntry = c.oldEntry ∧ (serving c).contexts[(3 : ContextId)].reverted = c.reverted)
    ∧ (display { busy := true } 20).tally.cameras[(2 : LinkId)].busy = true := by decide +kernel

theorem witness_IdentifyNamesThePart : takes State.reset 0x60 [] := by decide +kernel

/-! ### Well-formedness: each row of an arriving cell refuses a cell of another kind or destination (R4, R5) -/

theorem test_wf_cells_refused :
    Instr.wf (.mgmtCell (cellOf 8 1 9 [])) = false ∧ Instr.wf (.mgmtCell (cellOf 7 0 9 [])) = false
      ∧ Instr.wf (.dPortMgmtCell (cellOf 9 0 9 [])) = false ∧ Instr.wf (.commandAtGuard (cellOf 5 240 9 [])) = false
      ∧ Instr.wf (.commandAtGuard (cellOf 6 20 9 [])) = false ∧ Instr.wf (.marker (cellOf 2 255 9 []) 0) = false
      ∧ Instr.wf (.answerCell (cellOf 6 1 9 [])) = false ∧ Instr.wf (.sweepCell (cellOf 6 0 9 [])) = false
      ∧ Instr.wf (.telemetryCell (cellOf 4 7 9 [])) = false ∧ Instr.wf (.tallyCell (cellOf 3 0 9 [])) = false
      ∧ Instr.wf (.audioCell .u (cellOf 3 9 9 [])) = false := by decide +kernel

theorem test_wf_forwarded_refused :
    Instr.wf (.forwardedCell .u (cellOf 8 0 9 [])) = false ∧ Instr.wf (.forwardedCell .u (cellOf 5 239 9 [])) = false
      ∧ Instr.wf (.forwardedCell .d (cellOf 8 7 9 [])) = false ∧ Instr.wf (.forwardedCell .d (cellOf 4 0 9 [])) = false := by
  decide +kernel

theorem test_wf_accepted :
    Instr.wf (.mgmtCell (cellOf 8 0 9 [])) = true ∧ Instr.wf (.forwardedCell .u (cellOf 5 240 9 [])) = true
      ∧ Instr.wf (.forwardedCell .d (cellOf 1 0 9 [])) = true ∧ Instr.wf .identify = true := by decide +kernel

/-! ### Fields and the CRC (01) -/

/-- The generator and start value of R1, with no reflection and no inversion, give 29B1h for the digits 1 to 9: the published check
value of that CRC. -/
theorem test_crc_check_value : crc16 [0x31, 0x32, 0x33, 0x34, 0x35, 0x36, 0x37, 0x38, 0x39] = 0x29B1 := by decide +kernel

/-- The table gives no row any bits, so no word spells a command (log 24). -/
theorem test_no_word_spells_a_command : decodeTableWord 16 0x38 = none ∧ State.reset.withFetchWord 16 0x38 = State.reset := ⟨rfl, rfl⟩

/-! ### Reference loss and relock (section 2.8): 1 ms is 6,000 units -/

def lockedAt (frame : Half) (flywheel : Nat) : State := timed { ref := .locked, frame, flywheel }

/-- The flywheel expires 25 ms after the window origin at rate 50. -/
theorem test_flywheel_instant : (lockedAt 4002 2).flywheelAt = 25 * 6000 := by decide

theorem test_frame_number_wraps :
    (lockedAt 65535 0).advanceFrame.timing.frame = 0 ∧ (lockedAt 65535 0).advanceFrame.agent.flags.timing = 0x20
      ∧ (lockedAt 4002 0).advanceFrame.placeFrame.dport.frameSlot.map (fun c => cellData c) = some [0x0F, 0xA3, 1] := by
  decide +kernel

/-- The completing marker 6 ms after a timer frame event only realigns; 12 ms after one it is a frame event. -/
theorem test_completing_marker :
    let s : State := timed { ref := .relocking, origin := .holdover, frame := 4013, good := 7, lastMarker := 261 * 6000
                             lastTimerEvent := 275 * 6000, nextExpiry := some (295 * 6000), relockDeadline := 321 * 6000
                             now := 275 * 6000 }
    (after (.marker marker (6 * 6000)) s).timing =
        { ref := .locked, origin := .holdover, frame := 4013, windowOrigin := 281 * 6000, lastMarker := 281 * 6000
          lastTimerEvent := 275 * 6000, relockDeadline := 341 * 6000, now := 281 * 6000 }
      ∧ s.relockIsFrame (287 * 6000) = true := by decide +kernel

/-! ### The worked coordination case (section 4.12) -/

def caseBand : Band := { valid := true, lower := 550000, upper := 606000, allowN := true }
def onCarrier (e : EntryId) (freq : Nat) : CopyCarrier := { entry := e, freq, cls := .n, blocked := false }
def caseAttempt (candidate : Nat) (carriers : List CopyCarrier) (foreign : List Nat) : Attempt :=
  { candidate, count := 1, gen := 400, cls := .n, blocked := false, bands := put State.reset.plan.bands 0 caseBand, settings := {}
    carriers, foreign, stale := false }

theorem test_case_1_passes :
    evaluate (caseAttempt 561690 [onCarrier 0 560000, onCarrier 1 560800] []) =
      { stage := 0, checked := 561700, snapped := true, band := some 0, margin := 100, comparisons := 9, offence := {} } := by
  decide +kernel

theorem test_case_2_fails_im_two :
    evaluate (caseAttempt 561650 [onCarrier 0 560000, onCarrier 1 560800] []) =
      { stage := 4, checked := 561650, snapped := false, band := some 0, margin := 50, comparisons := 7
        offence := { a := 1, b := 255, c := 254, v := 0, other := 0, distance := 50, required := 100 } } := by decide +kernel

theorem test_case_4_fails_im_three :
    evaluate (caseAttempt 562475 [onCarrier 0 560000, onCarrier 1 560800, onCarrier 2 561700] [590000]) =
      { stage := 5, checked := 562475, snapped := false, band := some 0, margin := 25, comparisons := 24
        offence := { a := 254, b := 0, c := 1, v := 2, other := 0, distance := 25, required := 50 } } := by decide +kernel

/-- The visits of section 6.12: from after the ACTIVE frequency, wrapping, and ending with it (R66). -/
theorem test_visits_wrap : visitOrder [562500, 571300, 574800] (some 571300) = [574800, 562500, 571300] := by decide

/-! ### Commit of a SWITCH pair (section 1.7) and its cells' bytes -/

theorem test_commit_stamps_frame_1204 :
    let s := lines { urgent := [{ cell := makeCell 5 21 0 false [2, 0, 0], slot := 0, context := some 1 },
                               { cell := makeCell 5 57 0 true [2, 0, 0], slot := 1, context := some 1 }] } {}
    let t := after (.transmitStart .d) { s with timing := { s.timing with frame := 1200 } }
    t.dport.urgent.map (fun c => c.cell) = [makeCell 5 21 0 false [2, 4, 0xB4], makeCell 5 57 0 true [2, 4, 0xB4]]
      ∧ (t.contexts[(1 : ContextId)]).frame = some 1204 := by decide +kernel

/-! ### Monitoring (section 7.7, sample s6) -/

theorem test_third_low_sample_fades :
    let p : Profile := { low := -80, high := -30, levelCount := 3, qualityLimit := 50, qualityCount := 2, lowDir := .both, highDir := .none
                         timeout := 25, battery := 25 }
    let l : Link := { cameraLink with profile := some 2, offset := 3, live := true, standby := some 5, flags := { autoSwitchover := true } }
    let s := State.setMonitor { onAir.setLink 2 l with profiles := put onAir.profiles 2 p } 2 { State.reset.monitors[(2 : LinkId)] with runSide := .low, run := 2 }
    let t := after (.telemetryCell (telemetry true 600000 (-95) 70 40)) s
    (t.links[(2 : LinkId)]).state = .faded ∧ (t.monitors[(2 : LinkId)]).side = .low ∧ (t.monitors[(2 : LinkId)]).run = 0
      ∧ t.retuneQueue = [{ link := 2, target := .backup, reason := .fade, force := false, held := true }] := by decide +kernel

/-! ### The worked mix case (section 10.6) -/

def mixedBlock (v : Int) : Block := { samples := Vector.replicate 16 (BitVec.ofInt 16 v), talk := true }

theorem test_worked_mix :
    coefficient 0 = 32767 ∧ coefficient 12 = 16422
      ∧ mixRound (mixSum [(mixedBlock 20000, coefficient 0), (mixedBlock (-12000), coefficient 12)] 0) = 13985
      ∧ mixRound (mixSum [(mixedBlock 20000, coefficient 12), (mixedBlock (-12000), coefficient 12)] 0) = 4009
      ∧ mixRound (mixSum [(mixedBlock 20000, coefficient 0)] 0) = 19999
      ∧ saturate (mixRound (mixSum [(mixedBlock 30000, coefficient 0), (mixedBlock 30000, coefficient 0), (mixedBlock 30000, coefficient 0)] 0)) = 32767 := by
  decide +kernel

/-- Dim adds to the step of a crosspoint with dim_when_live, and to no other (R178). -/
theorem test_dim_step :
    Crosspoint.step { on := true, gain := 0, dimWhenLive := true } 12 true = 12
      ∧ Crosspoint.step { on := true, gain := 12 } 12 true = 12 := by decide

/-! ### One input through its states (section 10.7) -/

theorem test_input_starts_to_play_at_half_its_area :
    let x : Input := { enabled := true, port := .d, addr := 10, area := 8, state := .buffering, lastSeq := some 42
                       buffer := List.replicate 3 {} }
    let t := after (.audioCell .d (audio 43)) { State.reset with mixer := { State.reset.mixer with inputs := put State.reset.mixer.inputs 3 x } }
    (t.mixer.inputs[(3 : Fin 32)]).state = .playing ∧ (t.mixer.inputs[(3 : Fin 32)]).buffer.length = 4 := by decide +kernel

theorem test_underrun_conceals_then_buffers :
    let x : Input := { enabled := true, state := .playing, area := 8 }
    x.afterExpiry.state = .concealing ∧ x.afterExpiry.afterExpiry.state = .buffering := by decide +kernel

/-! ### The foreign list (section 8.9) -/

theorem test_points_of_a_sweep :
    let pts := [0, 100] ++ s8 (-60) ++ [0, 104] ++ s8 (-75) ++ [0, 250] ++ s8 (-88) ++ [0, 253] ++ s8 (-84)
    let seg : Segment := { start := 560000, stop := 570000, step := 25, enabled := true }
    let s : State := State.setCarrier { State.reset with scan := { State.reset.scan with
      segments := put State.reset.scan.segments 0 seg, state := .scanning, recvA := { current := some 0 } } } 3
        { state := .active, freq := 562500, link := some 22 }
    let s := { s with unit := { s.unit with slots := put s.unit.slots 0 { state := .sent, owner := some (.scan .a), unit := 90, command := [6]
                                                                          turn := true, attempts := 1, deadline := some 50 } } }
    (after (.sweepCell (cellOf 7 0 90 ([0, 4] ++ pts))) s).scan.recvA.results = [{ freq := 566250, level := -84 }] := by decide +kernel

/-! ### CANCEL goes to the unit whose PRELOAD ended DONE (R109), whatever unit the link has been given since (R73) -/

theorem test_cancel_goes_to_the_same_unit :
    let s := preloading { stage := .closing, prior := .idle }
    let t := after (.answerCell (cellOf 6 0 10 [1, 1])) { s with links := put s.links 2 { cameraLink with state := .idle, rack := 99 } }
    let x := t.unit.slots[(0 : SlotId)]
    (x.unit, x.command, x.state) = (10, [0x03], .waiting) := by decide +kernel

theorem test_live_pair_is_withdrawn :
    let t := after (.transmitStart .d) pairOfLiveLink
    t.dport.urgent = [] ∧ t.dport.line = .idle ∧ t.contexts[(3 : ContextId)].stage = .free
      ∧ t.retuneQueue.map (fun e => (e.link, e.held)) = [(2, true)] := by decide +kernel

/-! ### Identity -/

theorem test_identify_names_the_part :
    (after .identify (asking State.reset 0x60 [])).agent.ready.map (fun r => (cellData r.cell).take 7)
      = [[7, 0x60, 0, 0x03, 0x12, 1, 4]] := by decide +kernel

end Sys2Proof.Tests
end

section

/-! ### The coefficient table (R179)

`coefficient` picks one of four quarters of 32 entries: it reads the table of 128 entries that the quarters make. That the entries are
the nearest integers is then a fact about that table alone, which the kernel computes in whole numbers. -/

namespace Sys2Proof.Machine

/-- The four quarters as one table, indexed by the step. -/
def coefficientTable : List Nat := coefficients0 ++ coefficients1 ++ coefficients2 ++ coefficients3

@[simp] theorem coefficients0_length : coefficients0.length = 32 := rfl
@[simp] theorem coefficients1_length : coefficients1.length = 32 := rfl
@[simp] theorem coefficients2_length : coefficients2.length = 32 := rfl
@[simp] theorem coefficients3_length : coefficients3.length = 32 := rfl

theorem coefficientTable_length : coefficientTable.length = 128 := by simp [coefficientTable]

/-- An entry of four appended quarters stands in the quarter its index falls in. -/
theorem getElem?_quarters {q₀ q₁ q₂ q₃ : List Nat} (h₀ : q₀.length = 32) (h₁ : q₁.length = 32) (h₂ : q₂.length = 32)
    (h₃ : q₃.length = 32) {e : Nat} (he : e < 128) :
    (q₀ ++ q₁ ++ q₂ ++ q₃)[e]? = some (if e < 32 then q₀.getD e 0 else if e < 64 then q₁.getD (e - 32) 0
      else if e < 96 then q₂.getD (e - 64) 0 else q₃.getD (e - 96) 0) := by
  simp only [List.getElem?_append, List.length_append, h₀, h₁, h₂]
  split_ifs <;> grind

theorem coefficientTable_getElem? {e : Nat} (he : e < 128) : coefficientTable[e]? = some (coefficient e) :=
  getElem?_quarters coefficients0_length coefficients1_length coefficients2_length coefficients3_length he

/-- c is positive and nearest to 32,767 × 10^(−e/40): twice that number lies between 2c − 1 and 2c + 1, here with each side raised to
the 40th power and multiplied by 10^e. -/
def IsNearestCoefficient (e c : Nat) : Prop :=
  (2 * c - 1) ^ 40 * 10 ^ e ≤ 65534 ^ 40 ∧ 65534 ^ 40 ≤ (2 * c + 1) ^ 40 * 10 ^ e ∧ 0 < c

theorem coefficientTable_isNearest : ∀ p ∈ coefficientTable.zipIdx, IsNearestCoefficient p.2 p.1 := by
  unfold IsNearestCoefficient
  decide +kernel

theorem coefficient_isNearest {e : Nat} (he : e < 128) : IsNearestCoefficient e (coefficient e) :=
  coefficientTable_isNearest (coefficient e, e) (List.mem_zipIdx_iff_getElem?.mpr (coefficientTable_getElem? he))

/-- Settles O53: every entry of the table is nearest at its own index, and `coefficient` reads the table at the step. -/
theorem coefficientIsNearestInteger : Obligations.CoefficientIsNearestInteger :=
  ⟨fun _ he => coefficient_isNearest he, coefficientTable_length, fun _ he => coefficientTable_getElem? he⟩

end Sys2Proof.Machine
end

section

/-! ### The identity of the part (R196) -/

namespace Sys2Proof.Machine

/-- R196's table, field by field, as the bytes that go into the reply. -/
theorem identity_bytes : identity =
    [0x03, 0x12, 1, 4, 96, 80, 8, 8, 4, 16, 4, 16, 4, 8, 16, 32, 64, 16, 32, 32, 0x02, 0x00, 4, 32] := rfl

theorem exec_identify_eq_take (s : State) :
    exec .identify s = .next (s.finishFrame.take (hasCode 0x60) State.identify) := rfl

/-- IDENTIFY requires no arguments, so its code alone makes a request of its row. -/
theorem hasCode_identify {r : Request} (hcode : r.code = 0x60) : hasCode 0x60 r = true :=
  hasCode_of_args r 0x60 0 hcode (by decide) rfl (Nat.zero_le _)

/-- Settles O60: the row's whole effect is the answer, so taking the request leaves the rest of any state as it was. -/
theorem identifyNamesThePart : Obligations.IdentifyNamesThePart := by
  intro s r htakes hcode
  have hanswer : s.identify r = s.answer r .ok identity := rfl
  have htaken : s.finishFrame.take (hasCode 0x60) State.identify = s.answer r .ok identity :=
    State.take_eq_answer htakes _ _ (hasCode_identify hcode) hanswer rfl
  rw [exec_identify_eq_take, htaken, identity_bytes]

end Sys2Proof.Machine
end

section

/-! ### What the rows leave alone

Most rows keep everything that `SameRest` names. The others are the resets, the two pins' rows, the rows of the reference monitor, those of
the mixer, and the management writes of a table or a setting. Of each of them it is said what it keeps of the waiting commands, the pins,
the frame number, the pool's law and the settings' law. -/

namespace Sys2Proof.Machine

theorem SameRest.refl (s : State) : SameRest s s := by simp [SameRest]

theorem SameRest.trans {a b c : State} (h : SameRest a b) (k : SameRest b c) : SameRest a c := by simp_all [SameRest]

theorem SameBeyond.rest {t s : State} (h : SameBeyond t s) : SameRest t s := by simp_all [SameBeyond, SameRest]

theorem SameShell.rest {t s : State} (h : SameShell t s) : SameRest t s := h.1.rest

/-- What the laws of the pool and of the settings, the frame number, the pins and the waiting commands make of a step. -/
structure Keeps (s t : State) : Prop where
  pending : t.pending = s.pending
  pins : t.pins = s.pins
  frame : t.timing.frame = s.timing.frame
  pool : s.PoolLaw → t.PoolLaw
  settings : s.SettingsLaw → t.SettingsLaw

theorem Keeps.refl (s : State) : Keeps s s := ⟨rfl, rfl, rfl, id, id⟩

theorem Keeps.trans {a b c : State} (h : Keeps a b) (k : Keeps b c) : Keeps a c :=
  ⟨k.pending.trans h.pending, k.pins.trans h.pins, k.frame.trans h.frame, k.pool ∘ h.pool, k.settings ∘ h.settings⟩

/-- The settings' law reads the settings alone. -/
theorem SettingsLaw.congr {s t : State} (hlead : t.switchLead = s.switchLead) (hwindow : t.confirmWindow = s.confirmWindow)
    (hplan : t.plan.settings = s.plan.settings) (hunit : t.unit.answerTimeout = s.unit.answerTimeout)
    (hscan : t.scan.settings = s.scan.settings) (htally : t.tally.timeout = s.tally.timeout) (h : s.SettingsLaw) :
    t.SettingsLaw := by
  simpa only [State.SettingsLaw, hlead, hwindow, hplan, hunit, hscan, htally] using h

/-- The pool's law reads the mixer alone. -/
theorem PoolLaw.congr {s t : State} (hmixer : t.mixer = s.mixer) (h : s.PoolLaw) : t.PoolLaw := by
  simpa only [State.PoolLaw, hmixer] using h

theorem SameRest.keeps {t s : State} (h : SameRest t s) : Keeps s t := by
  obtain ⟨hpending, hpins, htiming, hmixer, -, hlead, hwindow, -, hplan, -, hscan, -, hunit, htally, -⟩ := h
  exact ⟨hpending, hpins, by rw [htiming], PoolLaw.congr hmixer, SettingsLaw.congr hlead hwindow hplan hunit hscan htally⟩

theorem State.finishFrame_keeps (s : State) : Keeps s s.finishFrame := s.finishFrame_rest.keeps

/-- A row that is no step of a frame event keeps what its effect keeps. -/
theorem Keeps.settled {s t : State} (h : Keeps s.finishFrame t) : Keeps s t := s.finishFrame_keeps.trans h

/-- A management row keeps what its owning rule's effect keeps. -/
theorem State.take_keeps {f : State → Request → State} (hf : ∀ s r, Keeps s (f s r)) (s : State) (row : Request → Bool) :
    Keeps s (s.finishFrame.take row f) := by
  refine Keeps.settled ?_
  unfold State.take
  split
  · split
    · exact (hf _ _).trans (State.judgeCommon_shell _).rest.keeps
    · exact Keeps.refl _
  · exact Keeps.refl _

/-- A cell's row keeps what its act keeps. -/
theorem State.receive_keeps {act : State → State} (hact : ∀ s, Keeps s (act s)) (s : State) (p : Port) (c : Cell) (ofRow : Bool) :
    Keeps s (s.receive p c ofRow act) := by
  unfold State.receive
  repeat' split
  · exact Keeps.refl s
  · exact (State.raise_shell s ..).rest.keeps
  · exact hact s
  · exact Keeps.refl s

theorem State.checkFormat_keeps {act : State → State} (hact : ∀ s, Keeps s (act s)) (s : State) (p : Port) (ok : Bool) :
    Keeps s (s.checkFormat p ok act) := by
  unfold State.checkFormat
  split
  · exact hact s
  · exact (State.raise_shell s ..).rest.keeps

theorem State.answer_keeps (s : State) (r : Request) (res : Result) (data : List Byte) : Keeps s (s.answer r res data) :=
  SameRest.keeps (by simp [SameRest])

/-! ### Rows of cells and ports -/

theorem State.takeMgmt_keeps (s : State) (c : Cell) : Keeps s (s.takeMgmt c) := by
  apply SameRest.keeps
  unfold State.takeMgmt
  repeat' split
  all_goals simp [SameRest]

theorem State.guard_keeps (s : State) (c : Cell) : Keeps s (s.guard c) := by
  apply SameRest.keeps
  unfold State.guard State.offerRefusal
  repeat' split
  all_goals simp [SameRest]

/-! ### The mixer -/

theorem SameMixer.keeps {s t : State} (hpending : t.pending = s.pending) (hpins : t.pins = s.pins)
    (htiming : t.timing = s.timing) (hlead : t.switchLead = s.switchLead) (hwindow : t.confirmWindow = s.confirmWindow)
    (hplan : t.plan = s.plan) (hunit : t.unit = s.unit) (hscan : t.scan = s.scan) (htally : t.tally = s.tally)
    (hpool : s.PoolLaw → t.PoolLaw) : Keeps s t :=
  ⟨hpending, hpins, by rw [htiming], hpool,
    SettingsLaw.congr hlead hwindow (by rw [hplan]) (by rw [hunit]) (by rw [hscan]) (by rw [htally])⟩

/-- The areas of the enabled inputs, as one sum over the table. -/
theorem Mixer.owned_eq_sum (m : Mixer) : m.owned = ∑ i : Fin 32, if m.inputs[i].enabled then m.inputs[i].area else 0 := by
  have along : ∀ xs : List Input, ((xs.filter (·.enabled)).map (·.area)).sum
      = (xs.map fun x => if x.enabled then x.area else 0).sum := by
    intro xs
    induction xs with
    | nil => rfl
    | cons x xs ih => cases h : x.enabled <;> simp [h, ih]
  have table : m.inputs.toList = List.ofFn fun i : Fin 32 => m.inputs[i] := by
    refine List.ext_getElem (by simp) fun i h₁ h₂ => ?_
    simp only [List.getElem_ofFn, Vector.getElem_toList]
    rfl
  rw [Mixer.owned, along, table, List.map_ofFn, List.sum_ofFn]
  rfl

/-- What an input adds to the blocks owned. -/
def Input.share (x : Input) : Nat := if x.enabled then x.area else 0

theorem Mixer.owned_put (m : Mixer) (i : Fin 32) (x : Input) :
    { m with inputs := put m.inputs i x }.owned + m.inputs[i].share = m.owned + x.share := by
  have rest : ∑ j ∈ Finset.univ.erase i, (put m.inputs i x)[j].share = ∑ j ∈ Finset.univ.erase i, m.inputs[j].share := by
    refine Finset.sum_congr rfl fun j hj => ?_
    have hij : i.val ≠ j.val := fun h => (Finset.ne_of_mem_erase hj) (Fin.ext h.symm)
    simp [hij]
  have new := Finset.add_sum_erase Finset.univ (fun j : Fin 32 => (put m.inputs i x)[j].share) (Finset.mem_univ i)
  have old := Finset.add_sum_erase Finset.univ (fun j : Fin 32 => m.inputs[j].share) (Finset.mem_univ i)
  have hself : (put m.inputs i x)[i].share = x.share := by simp
  simp only [Mixer.owned_eq_sum]
  simp only [Input.share] at *
  omega

/-- A rewritten input keeps the pool's law when it is lawful and its share has room. -/
theorem State.setInput_pool {s : State} {i : Fin 32} {x : Input} (h : s.PoolLaw) (hx : x.lawful = true)
    (hroom : s.mixer.owned + x.share ≤ 512 + s.mixer.inputs[i].share) : (s.setInput i x).PoolLaw := by
  obtain ⟨hlawful, hsum⟩ := h
  refine ⟨fun j => ?_, ?_⟩
  · by_cases hij : i.val = j.val
    · obtain rfl : i = j := Fin.ext hij
      simpa using hx
    · simpa [hij] using hlawful j
  · have := Mixer.owned_put s.mixer i x
    simp only [State.setInput_mixer]
    omega

theorem State.setInput_keeps {s : State} {i : Fin 32} {x : Input} (henabled : x.enabled = s.mixer.inputs[i].enabled)
    (harea : x.area = s.mixer.inputs[i].area) (hx : s.mixer.inputs[i].lawful = true → x.lawful = true) :
    Keeps s (s.setInput i x) :=
  SameMixer.keeps rfl rfl rfl rfl rfl rfl rfl rfl rfl fun h =>
    State.setInput_pool h (hx (h.1 i)) (by simpa [Input.share, henabled, harea] using h.2)

/-- Outputs and crosspoints own no blocks. -/
theorem State.setOutput_keeps (s : State) (o : Fin 32) (x : Output) : Keeps s (s.setOutput o x) :=
  SameMixer.keeps rfl rfl rfl rfl rfl rfl rfl rfl rfl fun h => h

theorem State.setCrosspoint_keeps (s : State) (i o : Fin 32) (x : Crosspoint) : Keeps s (s.setCrosspoint i o x) :=
  SameMixer.keeps rfl rfl rfl rfl rfl rfl rfl rfl rfl fun h => h

theorem Input.lawful_iff (x : Input) : x.lawful = true ↔ 2 ≤ x.area ∧ x.area ≤ 32 ∧ x.buffer.length ≤ x.area
    ∧ (x.enabled = true ↔ x.state ≠ .disabled) ∧ (x.enabled = true ∨ x.buffer = []) := by
  unfold Input.lawful
  cases x.enabled <;> cases x.state <;> simp [and_assoc]

theorem Keeps.foldl {α : Type} {f : State → α → State} (h : ∀ s a, Keeps s (f s a)) (xs : List α) (s : State) :
    Keeps s (xs.foldl f s) := by
  induction xs generalizing s with
  | nil => exact Keeps.refl s
  | cons a xs ih => exact (h s a).trans (ih (f s a))

theorem State.raise_keeps (s : State) (n : Notice) (object : Byte) (detail : List Byte) : Keeps s (s.raise n object detail) :=
  (State.raise_shell s ..).rest.keeps

theorem State.setUnderrun_keeps (s : State) (i : Fin 32) : Keeps s (s.setUnderrun i) := by
  unfold State.setUnderrun
  dsimp only
  split
  · exact Keeps.refl s
  · refine Keeps.trans ?_ (State.raise_keeps ..)
    exact State.setInput_keeps rfl rfl fun h => h

theorem State.setClip_keeps (s : State) (o : Fin 32) (n : Nat) : Keeps s (s.setClip o n) := by
  unfold State.setClip
  dsimp only
  split
  · exact Keeps.refl s
  · exact (State.setOutput_keeps ..).trans (State.raise_keeps ..)

/-! ### A block that arrives (R172, R173)

A notice and a rewritten input touch different parts of the state, so the notices of an arriving block come out in front of one rewriting. -/

/-- The reports that wait after a notice: its own joins them where its kind is enabled and the queue has room. -/
def Agent.reportsAfter (a : Agent) (waiting : List Cell) (frame : Half) (n : Notice) (object : Byte) (detail : List Byte) : List Cell :=
  if a.enables.getLsbD n.code ∧ waiting.length < 32 then waiting ++ [reportCell n object frame detail] else waiting

/-- The flags after a notice: its own, and REPORT_OVERFLOW where its report finds no room. -/
def Agent.flagsAfter (a : Agent) (waiting : List Cell) (n : Notice) (object : Byte) : StatusFlags :=
  if a.enables.getLsbD n.code ∧ ¬ waiting.length < 32 then (a.flags.raise n object).raise .reportOverflow 0 else a.flags.raise n object

/-- A notice changes the flags and the report queue alone (R192). -/
theorem State.raise_eq (s : State) (n : Notice) (object : Byte) (detail : List Byte) :
    s.raise n object detail = { s with
      uport := { s.uport with report := s.agent.reportsAfter s.uport.report s.timing.frame n object detail }
      agent := { s.agent with flags := s.agent.flagsAfter s.uport.report n object } } := by
  unfold State.raise State.offerReport Agent.reportsAfter Agent.flagsAfter
  by_cases henabled : s.agent.enables.getLsbD n.code <;> by_cases hroom : s.uport.report.length < 32 <;>
    simp [henabled, hroom, State.setFlag]

theorem State.raise_setInput (s : State) (i : Fin 32) (x : Input) (n : Notice) (object : Byte) (detail : List Byte) :
    (s.setInput i x).raise n object detail = (s.raise n object detail).setInput i x := by
  simp only [State.raise_eq]; rfl

@[simp] theorem State.setInput_setInput (s : State) (i : Fin 32) (x y : Input) :
    (s.setInput i x).setInput i y = s.setInput i y := by
  simp [State.setInput]

@[simp] theorem State.setInput_same (s : State) (i : Fin 32) : s.setInput i s.mixer.inputs[i.val] = s := by
  simp [State.setInput]

theorem State.setInput_get (s : State) (i : Fin 32) (x : Input) : (s.setInput i x).mixer.inputs[i] = x := by simp

theorem State.setOverflow_eq (s : State) (i : Fin 32) : s.setOverflow i
    = (if s.mixer.inputs[i].overflow then s else s.raise .overflow (channelByte i) (u8 s.mixer.inputs[i].area)).setInput i
        { s.mixer.inputs[i] with overflow := true } := by
  unfold State.setOverflow
  dsimp only
  split
  · rename_i h
    have : { s.mixer.inputs[i] with overflow := true } = s.mixer.inputs[i] := by simp only [← h]
    rw [this]; exact (State.setInput_same s i).symm
  · exact State.raise_setInput ..

theorem State.setSeqGap_eq (s : State) (i : Fin 32) (expected received : Byte) : s.setSeqGap i expected received
    = (if s.mixer.inputs[i].seqGap then s else s.raise .seqGap (channelByte i) [expected, received]).setInput i
        { s.mixer.inputs[i] with seqGap := true } := by
  unfold State.setSeqGap
  dsimp only
  split
  · rename_i h
    have : { s.mixer.inputs[i] with seqGap := true } = s.mixer.inputs[i] := by simp only [← h]
    rw [this]; exact (State.setInput_same s i).symm
  · exact State.raise_setInput ..

/-- Does the sequence not follow the one before it (R173)? -/
def Input.gapsAt (x : Input) (seq : Byte) : Bool :=
  match x.lastSeq with
  | some last => seq != last + 1
  | none => false

/-- SEQ_GAP is raised when its flag becomes set. -/
def State.tellGap (s : State) (i : Fin 32) (seq : Byte) : State :=
  match s.mixer.inputs[i].lastSeq with
  | some last => if s.mixer.inputs[i].gapsAt seq && !s.mixer.inputs[i].seqGap then s.raise .seqGap (channelByte i) [last + 1, seq] else s
  | none => s

/-- OVERFLOW is raised when its flag becomes set. -/
def State.tellOverflow (s : State) (i : Fin 32) : State :=
  if s.mixer.inputs[i].buffer.length < s.mixer.inputs[i].area ∨ s.mixer.inputs[i].overflow = true then s
  else s.raise .overflow (channelByte i) (u8 s.mixer.inputs[i].area)

theorem State.tellGap_shell (s : State) (i : Fin 32) (seq : Byte) : SameShell (s.tellGap i seq) s := by
  unfold State.tellGap
  repeat' split
  all_goals simp [SameShell, SameBeyond]

theorem State.tellOverflow_shell (s : State) (i : Fin 32) : SameShell (s.tellOverflow i) s := by
  unfold State.tellOverflow
  split <;> simp [SameShell, SameBeyond]

@[simp] theorem State.tellGap_mixer (s : State) (i : Fin 32) (seq : Byte) : (s.tellGap i seq).mixer = s.mixer := by
  have := s.tellGap_shell i seq
  simp_all [SameShell, SameBeyond]

theorem State.checkSequence_eq (s : State) (i : Fin 32) (seq : Byte) : s.checkSequence i seq = (s.tellGap i seq).setInput i
    { s.mixer.inputs[i] with lastSeq := some seq, seqGap := s.mixer.inputs[i].seqGap || s.mixer.inputs[i].gapsAt seq } := by
  unfold State.checkSequence State.tellGap Input.gapsAt
  cases hlast : s.mixer.inputs[i].lastSeq with
  | none => simp
  | some last =>
    by_cases hfollows : seq = last + 1
    · simp [hfollows]
    · simp only [if_neg hfollows, State.setSeqGap_eq, State.setInput_get, State.setInput_setInput, bne_iff_ne.mpr hfollows]
      cases s.mixer.inputs[i].seqGap <;> simp

theorem State.appendBlock_eq (s : State) (i : Fin 32) (b : Block) : s.appendBlock i b = (s.tellOverflow i).setInput i
    { s.mixer.inputs[i] with
      buffer := (if s.mixer.inputs[i].buffer.length < s.mixer.inputs[i].area then s.mixer.inputs[i].buffer
                 else s.mixer.inputs[i].buffer.drop 1) ++ [b]
      overflow := s.mixer.inputs[i].overflow || decide (s.mixer.inputs[i].area ≤ s.mixer.inputs[i].buffer.length) } := by
  unfold State.appendBlock State.tellOverflow
  by_cases hroom : s.mixer.inputs[i].buffer.length < s.mixer.inputs[i].area
  · simp only [if_pos hroom, if_pos (Or.inl hroom), decide_eq_false (Nat.not_le.mpr hroom), Bool.or_false]
  · simp only [State.setOverflow_eq, State.setInput_get, decide_eq_true (Nat.not_lt.mp hroom), Bool.or_true, hroom,
      false_or]
    generalize s.mixer.inputs[i] = x
    cases x.overflow <;> simp [State.raise_setInput]

/-- What the notice of a full buffer reads of the input is not what the notice of a gap writes. -/
theorem State.tellOverflow_setInput {s : State} {i : Fin 32} {x : Input} (hbuffer : x.buffer = s.mixer.inputs[i].buffer)
    (harea : x.area = s.mixer.inputs[i].area) (hoverflow : x.overflow = s.mixer.inputs[i].overflow) :
    (s.setInput i x).tellOverflow i = (s.tellOverflow i).setInput i x := by
  unfold State.tellOverflow
  simp only [State.setInput_get, hbuffer, harea, hoverflow, State.raise_setInput]
  split <;> rfl

/-- The input that a block has reached: the block has joined the buffer, and play has started with half the area filled. -/
def Input.blockJoined (x : Input) (seq : Byte) (b : Block) : Input :=
  Input.startPlay { x with lastSeq := some seq
                           buffer := (if x.buffer.length < x.area then x.buffer else x.buffer.drop 1) ++ [b] }

theorem Input.lawful_of_enabled {x : Input} (h : x.enabled = true) :
    x.lawful = true ↔ 2 ≤ x.area ∧ x.area ≤ 32 ∧ x.buffer.length ≤ x.area ∧ x.state ≠ .disabled := by
  simp [Input.lawful_iff, h]

@[simp] theorem Input.startPlay_enabled (x : Input) : x.startPlay.enabled = x.enabled := by unfold Input.startPlay; split <;> rfl
@[simp] theorem Input.startPlay_area (x : Input) : x.startPlay.area = x.area := by unfold Input.startPlay; split <;> rfl
@[simp] theorem Input.startPlay_buffer (x : Input) : x.startPlay.buffer = x.buffer := by unfold Input.startPlay; split <;> rfl

theorem Input.startPlay_disabled {x : Input} (h : x.state ≠ .disabled) : x.startPlay.state ≠ .disabled := by
  unfold Input.startPlay; split <;> simp [h]

theorem Input.blockJoined_lawful {x : Input} (h : x.lawful = true) (henabled : x.enabled = true) (seq : Byte) (b : Block) :
    (x.blockJoined seq b).lawful = true := by
  rw [Input.lawful_of_enabled henabled] at h
  obtain ⟨hmin, hmax, hlength, hstate⟩ := h
  rw [Input.lawful_of_enabled (by simpa [Input.blockJoined] using henabled)]
  refine ⟨by simpa [Input.blockJoined] using hmin, by simpa [Input.blockJoined] using hmax, ?_,
    Input.startPlay_disabled hstate⟩
  simp only [Input.blockJoined, Input.startPlay_buffer, Input.startPlay_area]
  split <;> simp <;> omega

/-- The input with the two flags that an arriving block may set. -/
def Input.flagged (x : Input) (seq : Byte) : Input :=
  { x with seqGap := x.seqGap || x.gapsAt seq, overflow := x.overflow || decide (x.area ≤ x.buffer.length) }

theorem Input.flagged_lawful (x : Input) (seq : Byte) : (x.flagged seq).lawful = x.lawful := rfl
theorem Input.flagged_enabled (x : Input) (seq : Byte) : (x.flagged seq).enabled = x.enabled := rfl

/-- A block that matches an input: the two notices, and the input that the block has reached (R173, R176). -/
theorem State.takeAudio_eq {s : State} {p : Port} {c : Cell} {i : Fin 32}
    (h : s.matchInput p c.src (u8At (cellData c) 0 % 4) = some i) :
    s.takeAudio p c = ((s.tellGap i (byteAt (cellData c) 1)).tellOverflow i).setInput i
      ((s.mixer.inputs[i].flagged (byteAt (cellData c) 1)).blockJoined (byteAt (cellData c) 1) (blockOf (cellData c))) := by
  unfold State.takeAudio
  simp only [h, State.checkSequence_eq, State.appendBlock_eq, State.setInput_get, State.setInput_setInput]
  rw [State.tellOverflow_setInput (by simp) (by simp) (by simp)]
  simp [Input.blockJoined, Input.flagged]

theorem find_finRange_some {n : Nat} {p : Fin n → Bool} {i : Fin n} (h : (List.finRange n).find? p = some i) : p i = true :=
  ((find_finRange_iff p i).mp h).1

theorem State.takeAudio_keeps (s : State) (p : Port) (c : Cell) : Keeps s (s.takeAudio p c) := by
  cases h : s.matchInput p c.src (u8At (cellData c) 0 % 4) with
  | none => simp only [State.takeAudio, h]; exact Keeps.refl s
  | some i =>
    have henabled : s.mixer.inputs[i].enabled = true := by
      have hears := find_finRange_some h
      simp only [Input.hears, Bool.and_eq_true] at hears
      exact hears.1.1.1
    rw [State.takeAudio_eq h]
    refine ((State.tellGap_shell s i (byteAt (cellData c) 1)).rest.keeps.trans (State.tellOverflow_shell _ i).rest.keeps).trans ?_
    have hmixer : ((s.tellGap i (byteAt (cellData c) 1)).tellOverflow i).mixer = s.mixer := by
      have := State.tellOverflow_shell (s.tellGap i (byteAt (cellData c) 1)) i
      simp_all [SameShell, SameBeyond]
    refine State.setInput_keeps ?_ ?_ fun hx => ?_
    · simp [hmixer, Input.blockJoined, Input.flagged]
    · simp [hmixer, Input.blockJoined, Input.flagged]
    · simp only [hmixer] at hx
      exact Input.blockJoined_lawful (by rwa [Input.flagged_lawful]) (by rwa [Input.flagged_enabled]) ..

/-! ### A block timer expiry (R174, R175) -/

@[simp] theorem Input.followMute_enabled (x : Input) (holds : Bool) : (x.followMute holds).enabled = x.enabled := by
  unfold Input.followMute; repeat' split
  all_goals simp

@[simp] theorem Input.followMute_area (x : Input) (holds : Bool) : (x.followMute holds).area = x.area := by
  unfold Input.followMute; repeat' split
  all_goals simp

@[simp] theorem Input.followMute_buffer (x : Input) (holds : Bool) : (x.followMute holds).buffer = x.buffer := by
  unfold Input.followMute; repeat' split
  all_goals simp

theorem Input.followMute_lawful {x : Input} (h : x.lawful = true) (henabled : x.enabled = true) (holds : Bool) :
    (x.followMute holds).lawful = true := by
  rw [Input.lawful_of_enabled henabled] at h
  rw [Input.lawful_of_enabled (by simpa using henabled)]
  refine ⟨by simpa using h.1, by simpa using h.2.1, by simpa using h.2.2.1, ?_⟩
  unfold Input.followMute
  repeat' split
  · simp
  · exact Input.startPlay_disabled (by simp)
  · exact h.2.2.2

@[simp] theorem Input.afterExpiry_enabled (x : Input) : x.afterExpiry.enabled = x.enabled := by
  unfold Input.afterExpiry; split <;> rfl

@[simp] theorem Input.afterExpiry_area (x : Input) : x.afterExpiry.area = x.area := by
  unfold Input.afterExpiry; split <;> rfl

theorem Input.afterExpiry_lawful {x : Input} (h : x.lawful = true) (henabled : x.enabled = true) : x.afterExpiry.lawful = true := by
  rw [Input.lawful_of_enabled henabled] at h
  rw [Input.lawful_of_enabled (by simpa using henabled)]
  obtain ⟨hmin, hmax, hlength, hstate⟩ := h
  refine ⟨by simpa using hmin, by simpa using hmax, ?_, ?_⟩
  · rw [Input.afterExpiry_area]
    unfold Input.afterExpiry
    split <;> simp_all <;> omega
  · unfold Input.afterExpiry
    split <;> simp_all

theorem State.expireInput_keeps (s : State) (i : Fin 32) : Keeps s (s.expireInput i) := by
  unfold State.expireInput
  split
  · rename_i henabled
    have hinput : Keeps s (s.setInput i (s.mutedInput i).afterExpiry) :=
      State.setInput_keeps (by simp [State.mutedInput]) (by simp [State.mutedInput]) fun h =>
        Input.afterExpiry_lawful (Input.followMute_lawful h henabled _) (by simpa [State.mutedInput] using henabled)
    dsimp only
    split
    · exact hinput.trans (State.setUnderrun_keeps ..)
    · exact hinput
  · exact Keeps.refl s

theorem State.sendOutput_keeps (s : State) (given : Vector Block 32) (o : Fin 32) : Keeps s (s.sendOutput given o) := by
  unfold State.sendOutput
  dsimp only
  repeat' split
  · exact (State.offerAudio_shell s ..).rest.keeps.trans (State.setOutput_keeps ..)
  · exact ((State.setClip_keeps s ..).trans (State.offerAudio_shell _ ..).rest.keeps).trans (State.setOutput_keeps ..)
  · exact Keeps.refl s

theorem State.expireBlock_keeps (s : State) : Keeps s s.expireBlock := by
  unfold State.expireBlock
  split
  · exact (Keeps.foldl State.expireInput_keeps _ s).trans (Keeps.foldl (fun s o => State.sendOutput_keeps s _ o) _ _)
  · exact Keeps.refl s

/-! ### The mixer's requests (R170, R171, R177, R178) -/

theorem State.inputRead_keeps (s : State) (r : Request) : Keeps s (s.inputRead r) := by
  unfold State.inputRead
  split
  · exact State.answer_keeps ..
  · refine Keeps.trans ?_ (State.answer_keeps ..)
    exact State.setInput_keeps rfl rfl fun h => h

theorem State.outputRead_keeps (s : State) (r : Request) : Keeps s (s.outputRead r) := by
  unfold State.outputRead
  split
  · exact State.answer_keeps ..
  · exact (State.setOutput_keeps ..).trans (State.answer_keeps ..)

theorem State.outputWrite_keeps (s : State) (r : Request) : Keeps s (s.outputWrite r) := by
  unfold State.outputWrite
  split
  · exact State.answer_keeps ..
  · exact State.answer_keeps ..
  · exact (State.setOutput_keeps ..).trans (State.answer_keeps ..)

theorem State.crosspointRead_keeps (s : State) (r : Request) : Keeps s (s.crosspointRead r) := by
  unfold State.crosspointRead
  split <;> exact State.answer_keeps ..

theorem State.crosspointWrite_keeps (s : State) (r : Request) : Keeps s (s.crosspointWrite r) := by
  unfold State.crosspointWrite
  split
  · exact State.answer_keeps ..
  · exact State.answer_keeps ..
  · exact (State.setCrosspoint_keeps ..).trans (State.answer_keeps ..)

/-- The written input of an accepted INPUT write has an area from 2 to 32 and no buffer. -/
theorem inputOf?_area {args : List Byte} {w : Input} (h : inputOf? args = some w) :
    2 ≤ w.area ∧ w.area ≤ 32 ∧ w.buffer = [] := by
  unfold inputOf? at h
  split at h
  · dsimp only at h
    split at h
    · cases h
    · obtain rfl := Option.some.inj h
      simp [clamp]
  · cases h

/-- A write of an input keeps it lawful, where one that stays enabled keeps its area. -/
theorem Input.write_lawful {x w : Input} (h : x.lawful = true) (hmin : 2 ≤ w.area) (hmax : w.area ≤ 32) (hbuffer : w.buffer = []) :
    (x.write w).lawful = true := by
  unfold Input.write
  rw [Input.lawful_iff] at *
  split <;> simp_all [Input.enable]

/-- An accepted write takes no more blocks of the pool than there are: one that enables an input is tested, and an enabled one keeps its
area. -/
theorem Input.write_share {x w : Input} {owned : Nat} (_hmoves : ¬ (x.enabled = true ∧ x.moves w = true)) (howned : owned ≤ 512)
    (hspace : ¬ ((!x.enabled) = true ∧ w.enabled = true ∧ 512 < owned + w.area)) : owned + (x.write w).share ≤ 512 + x.share := by
  unfold Input.write Input.share
  cases hx : x.enabled <;> cases hw : w.enabled <;> simp_all [Input.enable]
  omega

theorem State.inputWrite_keeps (s : State) (r : Request) : Keeps s (s.inputWrite r) := by
  unfold State.inputWrite
  split
  · exact State.answer_keeps ..
  · exact State.answer_keeps ..
  · rename_i i w hi hw
    obtain ⟨hmin, hmax, hbuffer⟩ := inputOf?_area hw
    dsimp only
    repeat' split
    · exact State.answer_keeps ..
    · exact State.answer_keeps ..
    · exact State.answer_keeps ..
    · rename_i hmoves _ hspace
      refine Keeps.trans ?_ (State.answer_keeps ..)
      refine SameMixer.keeps rfl rfl rfl rfl rfl rfl rfl rfl rfl fun h => ?_
      exact State.setInput_pool h (Input.write_lawful (h.1 i) hmin hmax hbuffer) (Input.write_share hmoves h.2 hspace)

end Sys2Proof.Machine
end

section

/-! ### The settings' own writes (R189) -/

namespace Sys2Proof.Machine

/-- A write of the settings alone keeps them in their ranges. -/
theorem SameSettings.keeps {s t : State} (hpending : t.pending = s.pending) (hpins : t.pins = s.pins)
    (hframe : t.timing.frame = s.timing.frame) (hmixer : t.mixer = s.mixer) (hsettings : s.SettingsLaw → t.SettingsLaw) : Keeps s t :=
  ⟨hpending, hpins, hframe, PoolLaw.congr hmixer, hsettings⟩

/-- A step that leaves the pool and the settings as they are. -/
theorem SameFields.keeps {s t : State} (hpending : t.pending = s.pending) (hpins : t.pins = s.pins)
    (hframe : t.timing.frame = s.timing.frame) (hmixer : t.mixer = s.mixer) (hlead : t.switchLead = s.switchLead)
    (hwindow : t.confirmWindow = s.confirmWindow) (hplan : t.plan.settings = s.plan.settings)
    (hunit : t.unit.answerTimeout = s.unit.answerTimeout) (hscan : t.scan.settings = s.scan.settings)
    (htally : t.tally.timeout = s.tally.timeout) : Keeps s t :=
  SameSettings.keeps hpending hpins hframe hmixer (SettingsLaw.congr hlead hwindow hplan hunit hscan htally)

theorem clamp_range {lo hi : Nat} (h : lo ≤ hi) (n : Nat) : lo ≤ clamp lo hi n ∧ clamp lo hi n ≤ hi := by
  unfold clamp; omega

theorem clampInt_range {lo hi : Int} (h : lo ≤ hi) (n : Int) : lo ≤ clampInt lo hi n ∧ clampInt lo hi n ≤ hi := by
  unfold clampInt; omega

/-- A coordination setting is stored as a multiple of 25 kHz in its range (R42). -/
theorem roundedSetting_ok {lo hi : Nat} (h : lo ≤ hi) (hlo : lo % 25 = 0) (hhi : hi % 25 = 0) (v : List Byte) :
    settingOk lo hi (roundedSetting lo hi v) := by
  unfold settingOk roundedSetting clamp
  omega

theorem State.storeItem_keeps (s : State) (x : ConfigItem) : Keeps s (s.storeItem x) := by
  unfold State.storeItem
  split
  case h_1 => unfold State.storeFrameRate; split <;> exact SameFields.keeps rfl rfl rfl rfl rfl rfl rfl rfl rfl rfl
  case h_2 => exact SameFields.keeps rfl rfl rfl rfl rfl rfl rfl rfl rfl rfl
  case h_3 => exact SameSettings.keeps rfl rfl rfl rfl fun ⟨_, h⟩ => ⟨clamp_range (by omega) _, h⟩
  case h_4 => exact SameSettings.keeps rfl rfl rfl rfl fun ⟨h1, h2, _, h⟩ => ⟨h1, h2, roundedSetting_ok (by omega) rfl rfl _, h⟩
  case h_5 => exact SameSettings.keeps rfl rfl rfl rfl fun ⟨h1, h2, h3, _, h⟩ => ⟨h1, h2, h3, roundedSetting_ok (by omega) rfl rfl _, h⟩
  case h_6 =>
    exact SameSettings.keeps rfl rfl rfl rfl fun ⟨h1, h2, h3, h4, _, h⟩ => ⟨h1, h2, h3, h4, roundedSetting_ok (by omega) rfl rfl _, h⟩
  case h_7 =>
    exact SameSettings.keeps rfl rfl rfl rfl fun ⟨h1, h2, h3, h4, h5, _, h⟩ =>
      ⟨h1, h2, h3, h4, h5, roundedSetting_ok (by omega) rfl rfl _, h⟩
  case h_8 =>
    exact SameSettings.keeps rfl rfl rfl rfl fun ⟨h1, h2, h3, h4, h5, h6, _, h⟩ =>
      ⟨h1, h2, h3, h4, h5, h6, roundedSetting_ok (by omega) rfl rfl _, h⟩
  case h_9 =>
    exact SameSettings.keeps rfl rfl rfl rfl fun ⟨h1, h2, h3, h4, h5, h6, h7, _, h⟩ =>
      ⟨h1, h2, h3, h4, h5, h6, h7, roundedSetting_ok (by omega) rfl rfl _, h⟩
  case h_10 =>
    exact SameSettings.keeps rfl rfl rfl rfl fun ⟨h1, h2, h3, h4, h5, h6, h7, h8, _, h⟩ =>
      ⟨h1, h2, h3, h4, h5, h6, h7, h8, clamp_range (by omega) _, h⟩
  case h_11 => exact SameSettings.keeps rfl rfl rfl rfl fun ⟨h1, _, h⟩ => ⟨h1, clamp_range (by omega) _, h⟩
  case h_12 => exact SameSettings.keeps rfl rfl rfl rfl id
  case h_13 => exact SameSettings.keeps rfl rfl rfl rfl id
  case h_14 => unfold State.storeScanMode; split <;> exact SameSettings.keeps rfl rfl rfl rfl id
  case h_15 => exact SameSettings.keeps rfl rfl rfl rfl id
  case h_16 => exact SameSettings.keeps rfl rfl rfl rfl id
  case h_17 =>
    exact SameSettings.keeps rfl rfl rfl rfl fun ⟨h1, h2, h3, h4, h5, h6, h7, h8, h9, _, h⟩ =>
      ⟨h1, h2, h3, h4, h5, h6, h7, h8, h9, clamp_range (by omega) _, h⟩
  case h_18 =>
    exact SameSettings.keeps rfl rfl rfl rfl fun ⟨h1, h2, h3, h4, h5, h6, h7, h8, h9, h10, _, h⟩ =>
      ⟨h1, h2, h3, h4, h5, h6, h7, h8, h9, h10, clampInt_range (by omega) _, h⟩
  case h_19 =>
    exact SameSettings.keeps rfl rfl rfl rfl fun ⟨h1, h2, h3, h4, h5, h6, h7, h8, h9, h10, h11, _, h⟩ =>
      ⟨h1, h2, h3, h4, h5, h6, h7, h8, h9, h10, h11, clamp_range (by omega) _, h⟩
  case h_20 =>
    exact SameSettings.keeps rfl rfl rfl rfl fun ⟨h1, h2, h3, h4, h5, h6, h7, h8, h9, h10, h11, h12, _, h⟩ =>
      ⟨h1, h2, h3, h4, h5, h6, h7, h8, h9, h10, h11, h12, clamp_range (by omega) _, h⟩
  case h_21 =>
    exact SameSettings.keeps rfl rfl rfl rfl fun ⟨h1, h2, h3, h4, h5, h6, h7, h8, h9, h10, h11, h12, h13, _⟩ =>
      ⟨h1, h2, h3, h4, h5, h6, h7, h8, h9, h10, h11, h12, h13, clamp_range (by omega) _⟩
  case h_22 => unfold State.storeStaleAction; split <;> exact SameFields.keeps rfl rfl rfl rfl rfl rfl rfl rfl rfl rfl
  case h_23 => exact Keeps.refl s

theorem State.configWrite_keeps (s : State) (r : Request) : Keeps s (s.configWrite r) := by
  unfold State.configWrite
  split
  · exact State.answer_keeps ..
  · split
    · exact State.answer_keeps ..
    · refine Keeps.trans ?_ (State.answer_keeps ..)
      unfold State.storeItems
      dsimp only
      split
      · exact (Keeps.foldl State.storeItem_keeps _ s).trans (State.markStale_shell _).rest.keeps
      · exact Keeps.foldl State.storeItem_keeps _ s

/-! ### Management requests -/

/-- The owning rules whose effects reach neither the mixer nor the settings nor the timing of the part. -/
def plainEffects : List (State → Request → State) :=
  [State.bandRead, State.carrierRead, State.unblock, State.block, State.check, State.linkRead, State.linkWrite, State.candidatesRead,
   State.candidatesWrite, State.assign, State.retune, State.abortRetune, State.setBackup, State.releaseLink, State.undefine,
   State.profileRead, State.readMonitor, State.scanListRead, State.scanStart, State.scanStop, State.scanRelease, State.tallyMapRead,
   State.lampLineRead, State.lampLineWrite, State.configRead, State.readStatus, State.clearStatus, State.unitCommand, State.quiesceRequest,
   State.resume, State.identify]

@[simp] theorem State.fileCoord_shell (s : State) (r : Request) (q : CoordRequest) : SameShell (s.fileCoord r q) s := by
  unfold State.fileCoord
  split <;> simp [SameShell, SameBeyond]

@[simp] theorem State.checkBlocked_shell (s : State) (r : Request) : SameShell (s.checkBlocked r) s := by
  unfold State.checkBlocked
  repeat' split
  all_goals simp [SameShell, SameBeyond]

@[simp] theorem State.checkLink_shell (s : State) (r : Request) (l : LinkId) : SameShell (s.checkLink r l) s := by
  unfold State.checkLink
  repeat' split
  all_goals simp [SameShell, SameBeyond]

@[simp] theorem State.answerFiled_shell (s : State) (r : Request) (f : Filed) : SameShell (s.answerFiled r f) s := by
  cases f <;> simp [State.answerFiled, SameShell, SameBeyond]

@[simp] theorem State.fileFor_shell (s : State) (r : Request) (l : LinkId) (t : Target) (reason : Reason) (force : Bool) :
    SameShell (s.fileFor r l t reason force) s :=
  (State.answerFiled_shell ..).trans (State.fileRetune_shell ..)

@[simp] theorem State.linkWritten_shell (s : State) (l : LinkId) (old : Link) : SameShell (s.linkWritten l old) s := by
  unfold State.linkWritten
  dsimp only
  repeat' split
  all_goals simp [SameShell, SameBeyond]

@[simp] theorem State.storeLink_shell (s : State) (l : LinkId) (w : Link) : SameShell (s.storeLink l w) s := by
  unfold State.storeLink
  dsimp only
  split <;> simp [SameShell, SameBeyond]

@[simp] theorem State.clearMonitor_shell (s : State) (l : LinkId) (args : List Byte) : SameShell (s.clearMonitor l args) s := by
  simp [State.clearMonitor, SameShell, SameBeyond]

/-- UNIT COMMAND grants first, and then allocates or answers. -/
theorem State.unitCommand_shell (s : State) (r : Request) : SameShell (s.unitCommand r) s := by
  unfold State.unitCommand
  dsimp only
  have hgrant := State.grantAll_shell s.unit.waiting.length s
  generalize State.grantAll s.unit.waiting.length s = u at hgrant ⊢
  refine SameShell.trans ?_ hgrant
  repeat' split
  all_goals simp [SameShell, SameBeyond]

theorem State.abortRetune_shell (s : State) (r : Request) : SameShell (s.abortRetune r) s := by
  unfold State.abortRetune
  split
  · simp [SameShell, SameBeyond]
  · rename_i l _
    have habort := (State.abortContext_shell (s.removeEntry l) l (s.queued l)).trans (State.removeEntry_shell s l)
    generalize (s.removeEntry l).abortContext l (s.queued l) = p at habort ⊢
    refine SameShell.trans ?_ habort
    simp [SameShell, SameBeyond]

theorem plainEffects_shell : ∀ f ∈ plainEffects, ∀ (s : State) (r : Request), SameShell (f s r) s := by
  simp only [plainEffects, List.forall_mem_cons]
  refine ⟨?bandRead, ?carrierRead, ?unblock, ?block, ?check, ?linkRead, ?linkWrite, ?candidatesRead, ?candidatesWrite, ?assign, ?retune,
    State.abortRetune_shell, ?setBackup, ?releaseLink, ?undefine, ?profileRead, ?readMonitor, ?scanListRead, ?scanStart, ?scanStop,
    ?scanRelease, ?tallyMapRead, ?lampLineRead, ?lampLineWrite, ?configRead, ?readStatus, ?clearStatus, State.unitCommand_shell,
    ?quiesceRequest, ?resume, ?identify, nofun⟩
  case bandRead => intro s r; unfold State.bandRead; split <;> simp [SameShell, SameBeyond]
  case carrierRead => intro s r; unfold State.carrierRead; split <;> simp [SameShell, SameBeyond]
  case linkRead => intro s r; unfold State.linkRead; split <;> simp [SameShell, SameBeyond]
  case candidatesRead => intro s r; unfold State.candidatesRead; split <;> simp [SameShell, SameBeyond]
  case profileRead => intro s r; unfold State.profileRead; split <;> simp [SameShell, SameBeyond]
  case scanListRead => intro s r; unfold State.scanListRead; split <;> simp [SameShell, SameBeyond]
  case tallyMapRead => intro s r; unfold State.tallyMapRead; split <;> simp [SameShell, SameBeyond]
  case lampLineRead => intro s r; unfold State.lampLineRead; split <;> simp [SameShell, SameBeyond]
  case configRead => intro s r; unfold State.configRead; split <;> simp [SameShell, SameBeyond]
  case readStatus => intro s r; unfold State.readStatus; split <;> simp [SameShell, SameBeyond]
  case identify => intro s r; simp [State.identify, SameShell, SameBeyond]
  case scanStop => intro s r; simp [State.scanStop, SameShell, SameBeyond]
  case readMonitor => intro s r; unfold State.readMonitor; split <;> simp [SameShell, SameBeyond]
  case lampLineWrite => intro s r; unfold State.lampLineWrite; split <;> simp [SameShell, SameBeyond]
  case candidatesWrite => intro s r; unfold State.candidatesWrite; dsimp only; repeat' split
                          all_goals simp [SameShell, SameBeyond]
  case unblock => intro s r; unfold State.unblock; repeat' split
                  all_goals simp [SameShell, SameBeyond]
  case block => intro s r; unfold State.block; dsimp only; repeat' split
                all_goals simp [SameShell, SameBeyond]
  case check => intro s r; unfold State.check; repeat' split
                all_goals simp [SameShell, SameBeyond]
  case linkWrite => intro s r; unfold State.linkWrite; dsimp only; repeat' split
                    all_goals simp [SameShell, SameBeyond]
  case assign => intro s r; unfold State.assign; repeat' split
                 all_goals simp [SameShell, SameBeyond]
  case retune => intro s r; unfold State.retune; repeat' split
                 all_goals simp [SameShell, SameBeyond]
  case setBackup => intro s r; unfold State.setBackup; repeat' split
                    all_goals simp [SameShell, SameBeyond]
  case releaseLink => intro s r; unfold State.releaseLink; dsimp only; repeat' split
                      all_goals simp [SameShell, SameBeyond]
  case undefine => intro s r; unfold State.undefine; repeat' split
                   all_goals simp [SameShell, SameBeyond]
  case scanStart => intro s r; unfold State.scanStart; repeat' split
                    all_goals simp [SameShell, SameBeyond]
  case scanRelease => intro s r; unfold State.scanRelease; split <;> simp [SameShell, SameBeyond]
  case clearStatus => intro s r; unfold State.clearStatus State.clearFlags; repeat' split
                      all_goals simp [SameShell, SameBeyond]
  case quiesceRequest => intro s r; unfold State.quiesceRequest; split <;> simp [SameShell, SameBeyond]
  case resume => intro s r; unfold State.resume; split <;> simp [SameShell, SameBeyond]

/-- A plain management row. -/
theorem take_plain_keeps {f : State → Request → State} (hf : f ∈ plainEffects) (s : State) (row : Request → Bool) :
    Keeps s (s.finishFrame.take row f) :=
  State.take_keeps (fun s r => (plainEffects_shell f hf s r).rest.keeps) s row

/-! ### The other requests that write a table, a setting or the mixer -/

theorem State.bandWrite_keeps (s : State) (r : Request) : Keeps s (s.bandWrite r) := by
  unfold State.bandWrite
  dsimp only
  repeat' split
  all_goals try exact State.answer_keeps ..
  exact SameFields.keeps rfl rfl rfl rfl rfl rfl rfl rfl rfl rfl

theorem State.profileWrite_keeps (s : State) (r : Request) : Keeps s (s.profileWrite r) := by
  unfold State.profileWrite
  split
  · exact State.answer_keeps ..
  · exact State.answer_keeps ..
  · exact SameFields.keeps rfl rfl rfl rfl rfl rfl rfl rfl rfl rfl

theorem State.scanListWrite_keeps (s : State) (r : Request) : Keeps s (s.scanListWrite r) := by
  unfold State.scanListWrite
  dsimp only
  repeat' split
  all_goals try exact State.answer_keeps ..
  exact SameFields.keeps rfl rfl rfl rfl rfl rfl rfl rfl rfl rfl

theorem State.tallyMapWrite_keeps (s : State) (r : Request) : Keeps s (s.tallyMapWrite r) := by
  unfold State.tallyMapWrite
  split
  · exact State.answer_keeps ..
  · exact State.answer_keeps ..
  · exact SameFields.keeps rfl rfl rfl rfl rfl rfl rfl rfl rfl rfl

theorem State.reportEnable_keeps (s : State) (r : Request) : Keeps s (s.reportEnable r) := SameFields.keeps rfl rfl rfl rfl rfl rfl rfl rfl rfl rfl

theorem State.relock_keeps (s : State) (r : Request) : Keeps s (s.relock r) := by
  unfold State.relock
  repeat' split
  all_goals try exact State.answer_keeps ..
  exact SameFields.keeps rfl rfl rfl rfl rfl rfl rfl rfl rfl rfl

end Sys2Proof.Machine
end

section

/-! ### The resets -/

namespace Sys2Proof.Machine

theorem State.reset_pool : State.reset.PoolLaw := by
  refine ⟨fun i => ?_, ?_⟩
  · simp [State.reset, Input.lawful]
  · simp [State.reset, Mixer.owned_eq_sum]

theorem State.reset_settings : State.reset.SettingsLaw := by decide

theorem State.reset_queues : State.reset.QueueLaw := by
  refine ⟨by decide, by decide, ⟨by decide, by decide, by decide, nofun⟩, by decide, fun i _ => .inl ?_⟩
  simp [State.reset]

/-- Settles O5. -/
theorem lawsHoldAtReset : Obligations.LawsHoldAtReset := ⟨State.reset_queues, State.reset_pool, State.reset_settings⟩

/-- Settles O6: each row's definition is its equation, by the RESET input. -/
theorem coldResetRows : Obligations.ColdResetRows := by
  refine ⟨fun s h => ?_, fun s h => ?_, fun s h => ?_, fun s h => ?_⟩
  · simp [exec, execResetAssert, h, State.coldReset, State.stopTimers]
  · simp [exec, execResetRelease, h, State.startTimers, State.period]
  · simp [exec, execPowerUp, State.coldResetDone, h, State.coldReset]
  · simp [exec, execPowerUp, State.coldResetDone, h, State.coldReset, State.stopTimers]

/-- A cold reset keeps the pins and the waiting commands; the laws hold of what it leaves, and the frame number is 0. -/
structure Resets (s t : State) : Prop where
  pending : t.pending = s.pending
  pins : t.pins = s.pins
  frame : t.timing.frame = 0
  pool : t.PoolLaw
  settings : t.SettingsLaw

theorem State.coldReset_resets (s : State) : Resets s s.coldReset := ⟨rfl, rfl, rfl, State.reset_pool, State.reset_settings⟩

theorem State.stopTimers_resets {s t : State} (h : Resets s t) : Resets s t.stopTimers :=
  ⟨h.pending, h.pins, h.frame, h.pool, h.settings⟩

theorem State.coldResetDone_resets (s : State) : Resets s s.coldResetDone := by
  unfold State.coldResetDone
  split
  · exact State.stopTimers_resets s.coldReset_resets
  · exact s.coldReset_resets

theorem State.warmSettle_shell (s : State) (k : ContextId) : SameShell (s.warmSettle k) s := by
  unfold State.warmSettle
  dsimp only
  repeat' split
  all_goals simp [SameShell, SameBeyond]

theorem State.warmContexts_shell (s : State) : SameShell s.warmContexts s := by
  have h := foldl_shell State.warmSettle State.warmSettle_shell (List.finRange 4) s
  simp_all [State.warmContexts, SameShell, SameBeyond]

@[simp] theorem Input.warm_enabled (x : Input) : x.warm.enabled = x.enabled := by unfold Input.warm; split <;> rfl
@[simp] theorem Input.warm_area (x : Input) : x.warm.area = x.area := by unfold Input.warm; split <;> rfl

theorem Input.warm_lawful {x : Input} (h : x.lawful = true) : x.warm.lawful = true := by
  unfold Input.warm
  rw [Input.lawful_iff] at *
  split <;> simp_all

theorem Mixer.warm_owned (m : Mixer) : m.warm.owned = m.owned := by
  simp [Mixer.owned_eq_sum, Mixer.warm]

theorem State.warmDrop_keeps (s : State) : Keeps s s.warmDrop := SameFields.keeps rfl rfl rfl rfl rfl rfl rfl rfl rfl rfl

theorem State.warmLinks_keeps (s : State) : Keeps s s.warmLinks := by
  unfold State.warmLinks
  exact SameFields.keeps rfl rfl rfl rfl rfl rfl rfl rfl rfl rfl

theorem State.warmPorts_keeps (s : State) : Keeps s s.warmPorts := SameFields.keeps rfl rfl rfl rfl rfl rfl rfl rfl rfl rfl

theorem Scan.warm_settings (c : Scan) : c.warm.settings = c.settings := rfl
theorem Tally.warm_timeout (t : Tally) : t.warm.timeout = t.timeout := by unfold Tally.warm; rfl

theorem State.warmMixer_keeps (s : State) : Keeps s { s with mixer := s.mixer.warm } := by
  refine ⟨rfl, rfl, rfl, fun h => ⟨fun i => ?_, ?_⟩, fun h => h⟩
  · simpa [Mixer.warm] using Input.warm_lawful (h.1 i)
  · exact (Mixer.warm_owned _).trans_le h.2

theorem State.warmTables_keeps (s : State) : Keeps s { s with scan := s.scan.warm, tally := s.tally.warm } :=
  SameFields.keeps rfl rfl rfl rfl rfl rfl rfl rfl s.scan.warm_settings s.tally.warm_timeout

theorem State.warmBlocks_keeps (s : State) :
    Keeps s { s with scan := s.scan.warm, tally := s.tally.warm, mixer := s.mixer.warm } :=
  s.warmTables_keeps.trans (State.warmMixer_keeps { s with scan := s.scan.warm, tally := s.tally.warm })

theorem State.warmReset_keeps (s : State) : Keeps s s.warmReset := by
  have hsettled : Keeps s s.warmDrop.warmContexts.warmLinks :=
    (s.warmDrop_keeps.trans s.warmDrop.warmContexts_shell.rest.keeps).trans (State.warmLinks_keeps _)
  unfold State.warmReset
  generalize s.warmDrop.warmContexts.warmLinks = u at hsettled
  exact (hsettled.trans u.warmBlocks_keeps).trans (State.warmPorts_keeps _)

theorem State.offerWarmReply_keeps (s : State) (c : Cell) :
    Keeps s { s with uport := { s.uport with reply := s.uport.reply ++ [c] } } :=
  SameFields.keeps rfl rfl rfl rfl rfl rfl rfl rfl rfl rfl

theorem State.warmResetRequest_keeps (s : State) (r : Request) : Keeps s (s.warmResetRequest r) := by
  have h := s.warmReset_keeps
  unfold State.warmResetRequest
  generalize s.warmReset = u at h
  exact h.trans (u.offerWarmReply_keeps _)

/-! ### The frame events -/

/-- The state with another frame number. -/
def State.atFrame (s : State) (f : Half) : State := s.setTiming { s.timing with frame := f }

/-- A step that makes at most one frame event. -/
abbrev Moves (s t : State) : Prop := Keeps s t ∨ Keeps (s.atFrame (s.timing.frame + 1)) t

theorem Keeps.moves {a b c : State} (h : Keeps a b) (k : Moves b c) : Moves a c := by
  refine k.imp h.trans fun k => ?_
  have hframe : (b.atFrame (b.timing.frame + 1)).timing.frame = (a.atFrame (a.timing.frame + 1)).timing.frame := by
    simp [State.atFrame, h.frame]
  have hat : Keeps (a.atFrame (a.timing.frame + 1)) (b.atFrame (b.timing.frame + 1)) := ⟨h.pending, h.pins, hframe, h.pool, h.settings⟩
  exact hat.trans k

theorem Moves.keeps {a b c : State} (h : Moves a b) (k : Keeps b c) : Moves a c := h.imp (·.trans k) (·.trans k)

theorem Moves.frame {s t : State} (h : Moves s t) : t.timing.frame = s.timing.frame ∨ t.timing.frame = s.timing.frame + 1 :=
  h.imp (·.frame) (·.frame)

/-- What a step of at most one frame event leaves of the laws. -/
theorem Moves.laws {s t : State} (h : Moves s t) :
    t.pending = s.pending ∧ t.pins = s.pins ∧ (s.PoolLaw → t.PoolLaw) ∧ (s.SettingsLaw → t.SettingsLaw) :=
  h.elim (fun k => ⟨k.pending, k.pins, k.pool, k.settings⟩) (fun k => ⟨k.pending, k.pins, k.pool, k.settings⟩)

theorem State.setTiming_keeps {s : State} {x : Timing} (h : x.frame = s.timing.frame) : Keeps s (s.setTiming x) :=
  SameFields.keeps rfl rfl h rfl rfl rfl rfl rfl rfl rfl

theorem State.passTo_keeps (s : State) (t : Nat) : Keeps s (s.passTo t) := State.setTiming_keeps rfl

theorem State.raiseReference_keeps (s : State) (n : Notice) : Keeps s (s.raiseReference n) := (State.raiseReference_shell s n).rest.keeps

theorem State.advanceFrame_keeps (s : State) : Keeps (s.atFrame (s.timing.frame + 1)) s.advanceFrame := by
  unfold State.advanceFrame
  have hset : Keeps (s.atFrame (s.timing.frame + 1))
      (s.setTiming { s.timing with frame := s.timing.frame + 1, rateInForce := s.timing.rate }) := SameFields.keeps rfl rfl rfl rfl rfl rfl rfl rfl rfl rfl
  dsimp only
  split
  · exact hset.trans (State.raise_keeps ..)
  · exact hset

theorem State.placeFrame_keeps (s : State) : Keeps s s.placeFrame := SameFields.keeps rfl rfl rfl rfl rfl rfl rfl rfl rfl rfl

theorem State.profilelessConfirms_shell (s : State) : SameShell s.profilelessConfirms s := by
  unfold State.profilelessConfirms
  exact foldl_shell State.profilelessConfirm State.profilelessConfirm_shell _ s

/-- What follows the number and the FRAME cell in a frame event keeps the shell. -/
theorem State.frameWork_keeps (s : State) : Keeps s s.tallyFrame.profilelessConfirms.countSilence :=
  (s.tallyFrame_shell.rest.keeps.trans (State.profilelessConfirms_shell _).rest.keeps).trans (State.countSilence_shell _).rest.keeps

theorem State.setDue_keeps (s : State) (l : List DueStep) : Keeps s { s with due := l } :=
  SameFields.keeps rfl rfl rfl rfl rfl rfl rfl rfl rfl rfl

theorem State.frameEvent_moves (s : State) : Moves s s.frameEvent := by
  have h : Keeps (s.atFrame (s.timing.frame + 1)) s.advanceFrame.placeFrame.tallyFrame.profilelessConfirms.countSilence :=
    (s.advanceFrame_keeps.trans (State.placeFrame_keeps _)).trans (State.frameWork_keeps _)
  unfold State.frameEvent
  generalize s.advanceFrame.placeFrame.tallyFrame.profilelessConfirms.countSilence = u at h
  exact .inr (h.trans (u.setDue_keeps _))

theorem State.flywheelExpiry_moves (s : State) : Moves s s.flywheelExpiry := by
  unfold State.flywheelExpiry
  split
  · refine (s.passTo_keeps s.flywheelAt).moves ?_
    dsimp only
    split
    · refine Moves.keeps ?_ (State.raiseReference_keeps ..)
      refine Keeps.moves ?_ (State.frameEvent_moves _)
      exact State.setTiming_keeps rfl
    · refine Keeps.moves ?_ (State.frameEvent_moves _)
      exact State.setTiming_keeps rfl
  · exact .inl (Keeps.refl s)

theorem State.timerExpiry_moves (s : State) : Moves s s.timerExpiry := by
  unfold State.timerExpiry
  repeat' split
  · exact .inl (Keeps.refl s)
  · rename_i t _ _
    refine (s.passTo_keeps t).moves ?_
    refine Keeps.moves ?_ (State.frameEvent_moves _)
    exact State.setTiming_keeps rfl
  · exact .inl (Keeps.refl s)

theorem State.relockTimeout_keeps (s : State) : Keeps s s.relockTimeout := by
  unfold State.relockTimeout
  split
  · refine (s.passTo_keeps s.timing.relockDeadline).trans ?_
    exact State.setTiming_keeps rfl
  · exact Keeps.refl s

theorem State.lockedMarker_moves (s : State) (t : Nat) : Moves s (s.lockedMarker t) := by
  unfold State.lockedMarker
  dsimp only
  split
  · refine .inl (Keeps.trans ?_ (State.raise_keeps ..))
    exact State.setTiming_keeps rfl
  · refine Keeps.moves ?_ (State.frameEvent_moves _)
    exact State.setTiming_keeps rfl

theorem State.completeRelock_moves (s : State) (t : Nat) : Moves s (s.completeRelock t) := by
  have hset : Keeps s (s.setTiming { s.timing with ref := .locked, flywheel := 0, good := 0, armed := false, nextExpiry := none
                                                   windowOrigin := t }) := State.setTiming_keeps rfl
  unfold State.completeRelock
  generalize s.setTiming { s.timing with ref := .locked, flywheel := 0, good := 0, armed := false, nextExpiry := none
                                         windowOrigin := t } = u at hset
  have hevent : Moves s (if s.relockIsFrame t then u.frameEvent else u) := by
    split
    · exact hset.moves u.frameEvent_moves
    · exact .inl hset
  dsimp only
  generalize (if s.relockIsFrame t then u.frameEvent else u) = v at hevent
  split <;> exact hevent.keeps (State.raiseReference_keeps ..)

theorem State.relockMarker_moves (s : State) (t : Nat) : Moves s (s.relockMarker t) := by
  unfold State.relockMarker
  dsimp only
  split
  · refine Keeps.moves (b := s.setTiming { s.timing with
      good := min 8 (s.timing.good + 1), lastMarker := t, relockDeadline := t + 3 * s.period }) (State.setTiming_keeps rfl) ?_
    repeat' split
    · exact State.completeRelock_moves ..
    · exact .inl (State.raise_keeps ..)
    · exact .inl (Keeps.refl _)
  · exact .inl (State.setTiming_keeps rfl)

theorem State.judgeMarker_moves (s : State) : Moves s s.judgeMarker := by
  unfold State.judgeMarker
  dsimp only
  split
  · exact State.lockedMarker_moves ..
  · exact .inl (State.setTiming_keeps rfl)
  · exact .inl (State.setTiming_keeps rfl)
  · exact State.relockMarker_moves ..

theorem exec_marker_moves (c : Cell) (e : Nat) (s : State) : ∃ t, exec (.marker c e) s = .next t ∧ Moves s t := by
  refine ⟨_, rfl, (s.finishFrame_keeps.trans (State.passTo_keeps _ (s.finishFrame.markerAt e))).moves ?_⟩
  dsimp only
  unfold State.receive
  repeat' split
  · exact .inl (Keeps.refl _)
  · exact .inl (State.raise_keeps ..)
  · exact State.judgeMarker_moves _
  · exact .inl (Keeps.refl _)

/-! ### Every row -/

/-- The rows that reset the part, move a pin or make a frame event. -/
def isSpecial : Instr → Prop
  | .backoffAssert | .backoffRelease | .resetAssert | .resetRelease | .powerUp | .marker _ _ | .flywheelExpiry | .frameTimerExpiry
  | .coldReset => True
  | _ => False

theorem SameShell.keeps {s t : State} (h : SameShell t s) : Keeps s t := h.rest.keeps
theorem SameBeyond.keeps {s t : State} (h : SameBeyond t s) : Keeps s t := h.rest.keeps

theorem exec_receive_keeps {act : State → State} (hact : ∀ s, Keeps s (act s)) (s : State) (p : Port) (c : Cell) (ofRow : Bool) :
    Keeps s (s.finishFrame.receive p c ofRow act) := (State.receive_keeps hact _ p c ofRow).settled

/-- A row that is not special answers a next state and keeps what the laws need. -/
theorem exec_keeps (c : Instr) (hc : ¬ isSpecial c) (s : State) : ∃ t, exec c s = .next t ∧ Keeps s t := by
  cases c
  case backoffAssert | backoffRelease | resetAssert | resetRelease | powerUp | marker | flywheelExpiry | frameTimerExpiry
    | coldReset => exact absurd trivial hc
  case mgmtCell c => exact ⟨_, rfl, exec_receive_keeps (fun s => s.takeMgmt_keeps c) ..⟩
  case dPortMgmtCell => exact ⟨_, rfl, exec_receive_keeps (fun s => s.raise_keeps ..) ..⟩
  case forwardedCell p c => exact ⟨_, rfl, exec_receive_keeps (fun s => (s.offerForward_shell _ c).keeps) ..⟩
  case commandAtGuard c => exact ⟨_, rfl, exec_receive_keeps (fun s => s.guard_keeps c) ..⟩
  case answerCell c => exact ⟨_, rfl, exec_receive_keeps (fun s => (s.takeAnswer_shell c).keeps) ..⟩
  case sweepCell c =>
    exact ⟨_, rfl, exec_receive_keeps (State.checkFormat_keeps (fun s => (s.takeSweepCell_shell c).keeps) · ..) ..⟩
  case telemetryCell c =>
    exact ⟨_, rfl, exec_receive_keeps (State.checkFormat_keeps (fun s => (s.takeTelemetry_shell c).keeps) · ..) ..⟩
  case tallyCell c =>
    exact ⟨_, rfl, exec_receive_keeps (State.checkFormat_keeps (fun s => (s.takeTally_shell _).keeps) · ..) ..⟩
  case audioCell p c =>
    exact ⟨_, rfl, exec_receive_keeps (State.checkFormat_keeps (fun s => s.takeAudio_keeps p c) · ..) ..⟩
  case transmitStart p =>
    cases p
    · exact ⟨_, rfl, (State.startU_shell _).keeps.settled⟩
    · exact ⟨_, rfl, (State.startD_shell _).keeps.settled⟩
  case transmitComplete p =>
    cases p
    · exact ⟨_, rfl, (State.completeU_shell _).keeps.settled⟩
    · exact ⟨_, rfl, (State.completeD_shell _).keeps.settled⟩
  case relockTimeout => exact ⟨_, rfl, (State.relockTimeout_keeps _).settled⟩
  case coordRequestStart => exact ⟨_, rfl, (State.startRequest_shell _).keeps.settled⟩
  case attemptComplete => exact ⟨_, rfl, (State.completeAttempt_shell _).keeps.settled⟩
  case slotGrant => exact ⟨_, rfl, (State.grantOne_shell _).keeps.settled⟩
  case slotOffer i => exact ⟨_, rfl, (State.offerSlot_shell _ i).keeps.settled⟩
  case pairSubmit k => exact ⟨_, rfl, (State.submitPair_shell _ k).keeps.settled⟩
  case contextTake => exact ⟨_, rfl, (State.contextTake_shell _).keeps.settled⟩
  case blockTimerExpiry => exact ⟨_, rfl, (State.expireBlock_keeps _).settled⟩
  case replyOffer => exact ⟨_, rfl, (State.offerReply_shell _).keeps.settled⟩
  case answerDeadline | switchFrame | confirmDeadline | revertFrame | revertConfirmExpiry | telemetryTimeout | scanTrigger
    | tallyTimeout => exact ⟨_, rfl, (State.dueStep_rest s _).keeps⟩
  case bandWrite => exact ⟨_, rfl, State.take_keeps State.bandWrite_keeps s _⟩
  case profileWrite => exact ⟨_, rfl, State.take_keeps State.profileWrite_keeps s _⟩
  case scanListWrite => exact ⟨_, rfl, State.take_keeps State.scanListWrite_keeps s _⟩
  case tallyMapWrite => exact ⟨_, rfl, State.take_keeps State.tallyMapWrite_keeps s _⟩
  case inputRead => exact ⟨_, rfl, State.take_keeps State.inputRead_keeps s _⟩
  case inputWrite => exact ⟨_, rfl, State.take_keeps State.inputWrite_keeps s _⟩
  case outputRead => exact ⟨_, rfl, State.take_keeps State.outputRead_keeps s _⟩
  case outputWrite => exact ⟨_, rfl, State.take_keeps State.outputWrite_keeps s _⟩
  case crosspointRead => exact ⟨_, rfl, State.take_keeps State.crosspointRead_keeps s _⟩
  case crosspointWrite => exact ⟨_, rfl, State.take_keeps State.crosspointWrite_keeps s _⟩
  case relock => exact ⟨_, rfl, State.take_keeps State.relock_keeps s _⟩
  case reportEnable => exact ⟨_, rfl, State.take_keeps State.reportEnable_keeps s _⟩
  case warmReset => exact ⟨_, rfl, State.take_keeps State.warmResetRequest_keeps s _⟩
  case configFrameRate | configAutoRelock | configSwitchLead | configGNN | configGWW | configGNW | configW | configW3 | configGF
    | configAnswerTimeout | configConfirmWindow | configSweepReceiverA | configSweepReceiverB | configScanMode | configTriggerPeriod
    | configScanLayout | configSegmentTimeout | configOccupancyThreshold | configMergeWidth | configAgeLimit | configTallyTimeout
    | configStaleAction => exact ⟨_, rfl, State.take_keeps State.configWrite_keeps s _⟩
  all_goals exact ⟨_, rfl, take_plain_keeps (by simp [plainEffects]) s _⟩

/-! ### The special rows -/

theorem State.releaseBackoff_pins (s : State) : s.releaseBackoff.pins = { s.pins with backoff := false } := by
  obtain ⟨_, hpins, _⟩ := State.startD_shell { s with pins := { s.pins with backoff := false } }
  exact hpins

/-- A change of the BACKOFF pin alone. -/
theorem State.backoff_keeps {s t : State} (b : Bool) (h : Keeps { s with pins := { s.pins with backoff := b } } t) :
    t.pending = s.pending ∧ t.pins = { s.pins with backoff := b } ∧ t.timing.frame = s.timing.frame
      ∧ (s.PoolLaw → t.PoolLaw) ∧ (s.SettingsLaw → t.SettingsLaw) :=
  ⟨h.pending, h.pins, h.frame, h.pool, h.settings⟩

theorem State.assertBackoff_keeps (s : State) : Keeps { s with pins := { s.pins with backoff := true } } s.assertBackoff := by
  unfold State.assertBackoff
  exact SameFields.keeps rfl rfl rfl rfl rfl rfl rfl rfl rfl rfl

theorem State.releaseBackoff_keeps (s : State) : Keeps { s with pins := { s.pins with backoff := false } } s.releaseBackoff :=
  (State.startD_shell _).keeps

/-- COLD_RESET takes its request, or leaves the laws' part of the state alone. -/
theorem State.takeColdReset (s : State) (row : Request → Bool) :
    Keeps s (s.finishFrame.take row State.coldResetRequest) ∨ Resets s (s.finishFrame.take row State.coldResetRequest) := by
  have hs := s.finishFrame_keeps
  unfold State.take
  split
  · split
    · have hreset := State.coldResetDone_resets s.finishFrame
      have hjudge := (State.judgeCommon_shell s.finishFrame.coldResetDone).keeps
      unfold State.coldResetRequest
      exact .inr ⟨hjudge.pending.trans (hreset.pending.trans hs.pending), hjudge.pins.trans (hreset.pins.trans hs.pins),
        hjudge.frame.trans hreset.frame, hjudge.pool hreset.pool, hjudge.settings hreset.settings⟩
    · exact .inl hs
  · exact .inl hs

/-- What every command leaves of the laws, the pins, the queue and the frame number. -/
structure Steps (c : Instr) (s t : State) : Prop where
  pending : t.pending = s.pending
  pins : t.pins = match c with
    | .resetAssert => { s.pins with reset := true }
    | .resetRelease => { s.pins with reset := false }
    | .backoffAssert => { s.pins with backoff := true }
    | .backoffRelease => { s.pins with backoff := false }
    | _ => s.pins
  frame : match c with
    | .marker _ _ | .flywheelExpiry | .frameTimerExpiry => t.timing.frame = s.timing.frame ∨ t.timing.frame = s.timing.frame + 1
    | .resetAssert | .powerUp | .coldReset => t.timing.frame = s.timing.frame ∨ t.timing.frame = 0
    | _ => t.timing.frame = s.timing.frame
  pool : s.PoolLaw → t.PoolLaw
  settings : s.SettingsLaw → t.SettingsLaw

theorem Keeps.steps {c : Instr} (hc : ¬ isSpecial c) {s t : State} (h : Keeps s t) : Steps c s t := by
  refine ⟨h.pending, ?_, ?_, h.pool, h.settings⟩
  · cases c <;> first | exact h.pins | exact absurd trivial hc
  · cases c <;> first | exact h.frame | exact absurd trivial hc

/-- The rows of a frame event. -/
theorem Moves.steps {c : Instr} (hc : c = .flywheelExpiry ∨ c = .frameTimerExpiry ∨ ∃ x e, c = .marker x e) {s t : State}
    (h : Moves s t) : Steps c s t := by
  obtain ⟨hpending, hpins, hpool, hsettings⟩ := h.laws
  obtain rfl | rfl | ⟨x, e, rfl⟩ := hc <;> exact ⟨hpending, hpins, h.frame, hpool, hsettings⟩

/-- Every command answers a next state, and moves no more than `Steps` says. -/
theorem exec_steps (c : Instr) (s : State) : ∃ t, exec c s = .next t ∧ Steps c s t := by
  by_cases hc : isSpecial c
  case neg =>
    obtain ⟨t, hexec, hkeeps⟩ := exec_keeps c hc s
    exact ⟨t, hexec, hkeeps.steps hc⟩
  have hs := s.finishFrame_keeps
  cases c <;> try exact hc.elim
  case backoffAssert =>
    have h := s.finishFrame.assertBackoff_keeps
    exact ⟨_, rfl, h.pending.trans hs.pending, h.pins.trans (by rw [← hs.pins]), h.frame.trans hs.frame,
      fun k => h.pool (hs.pool k), fun k => h.settings (hs.settings k)⟩
  case backoffRelease =>
    have h := s.finishFrame.releaseBackoff_keeps
    exact ⟨_, rfl, h.pending.trans hs.pending, h.pins.trans (by rw [← hs.pins]), h.frame.trans hs.frame,
      fun k => h.pool (hs.pool k), fun k => h.settings (hs.settings k)⟩
  case resetAssert =>
    by_cases hreset : s.pins.reset = true
    · exact ⟨s, by simp [exec, execResetAssert, hreset], rfl, by simp [← hreset], .inl rfl, fun k => k, fun k => k⟩
    · have h := State.stopTimers_resets (State.coldReset_resets { s with pins := { s.pins with reset := true } })
      exact ⟨_, by simp only [exec, execResetAssert, if_neg hreset], h.pending, h.pins, .inr h.frame, fun _ => h.pool,
        fun _ => h.settings⟩
  case resetRelease =>
    by_cases hreset : s.pins.reset = true
    · refine ⟨State.startTimers { s with pins := { s.pins with reset := false } }, ?_, rfl, rfl, rfl, fun k => k, fun k => k⟩
      simp only [exec, execResetRelease, if_pos hreset]
    · have hclear : s.pins.reset = false := by simpa using hreset
      exact ⟨s, by simp [exec, execResetRelease, hreset], rfl, by simp [← hclear], rfl, fun k => k, fun k => k⟩
  case powerUp =>
    have h := s.coldResetDone_resets
    exact ⟨_, rfl, h.pending, h.pins, .inr h.frame, fun _ => h.pool, fun _ => h.settings⟩
  case marker c e =>
    obtain ⟨t, hexec, h⟩ := exec_marker_moves c e s
    exact ⟨t, hexec, Moves.steps (.inr (.inr ⟨c, e, rfl⟩)) h⟩
  case flywheelExpiry => exact ⟨_, rfl, Moves.steps (.inl rfl) (hs.moves (State.flywheelExpiry_moves _))⟩
  case frameTimerExpiry => exact ⟨_, rfl, Moves.steps (.inr (.inl rfl)) (hs.moves (State.timerExpiry_moves _))⟩
  case coldReset =>
    refine ⟨_, rfl, ?_⟩
    obtain h | h := s.takeColdReset (hasCode 0x5B)
    · exact ⟨h.pending, h.pins, .inl h.frame, h.pool, h.settings⟩
    · exact ⟨h.pending, h.pins, .inr h.frame, fun _ => h.pool, fun _ => h.settings⟩

/-! ### The statements -/

/-- Settles O2. -/
theorem everyCommandAnswersNext : Obligations.EveryCommandAnswersNext := by
  intro c s
  obtain ⟨t, hexec, h⟩ := exec_steps c s
  exact ⟨t, hexec, h.pending, h.pins⟩

theorem exec_next_steps {c : Instr} {s t : State} (h : exec c s = .next t) : Steps c s t := by
  obtain ⟨u, hexec, hu⟩ := exec_steps c s
  rw [hexec] at h
  cases h
  exact hu

/-- Settles O3. -/
theorem frameNumberMovesByOne : Obligations.FrameNumberMovesByOne := by
  intro c s t h
  have hframe := (exec_next_steps h).frame
  cases c <;> exact hframe

/-- A step idles, or runs the command in front; so it keeps a law that idling and every command keep. -/
theorem step_keeps {Law : State → Prop} (hpending : ∀ s rest, Law s → Law { s with pending := rest })
    (hexec : ∀ c s t, exec c s = .next t → Law s → Law t) {s t : State} (hs : Law s) (h : step s = .next t) : Law t := by
  unfold step at h
  split at h
  · cases h
    exact hs
  · exact hexec _ _ _ h (hpending _ _ hs)

/-- Settles O8. -/
theorem poolLawKept : Obligations.PoolLawKept := fun _ _ hs h =>
  step_keeps (fun _ _ hs => hs) (fun _ _ _ h => (exec_next_steps h).pool) hs h

/-- Settles O9. -/
theorem settingsLawKept : Obligations.SettingsLawKept := fun _ _ hs h =>
  step_keeps (fun _ _ hs => hs) (fun _ _ _ h => (exec_next_steps h).settings) hs h

end Sys2Proof.Machine
end

section

/-! ### The machine and its tables at reset -/

namespace Sys2Proof.Machine

theorem State.finishFrame_cons {s : State} {d : DueStep} {rest : List DueStep} (h : s.due = d :: rest) :
    s.finishFrame = (s.dueStep d).finishFrame := by
  simp [State.finishFrame, h]

/-- Every step of the due list takes itself off it, so nothing of it is left (log 4). -/
theorem State.finishFrame_due (s : State) : s.finishFrame.due = [] := by
  generalize hl : s.due = l
  induction l generalizing s with
  | nil => rw [State.finishFrame_of_idle hl, hl]
  | cons d l ih =>
    rw [State.finishFrame_cons hl]
    exact ih _ (by simp [hl])

theorem State.settled_finishFrame (s : State) (f : State → State) : s.finishFrame.settled f = s.settled f := by
  rw [State.settled, State.settled, State.finishFrame_of_idle s.finishFrame_due]

/-- With no work left of the last frame event, a row acts on the state as it stands. -/
theorem State.settled_of_idle {s : State} (h : s.due = []) (f : State → State) : s.settled f = .next (f s) := by
  rw [State.settled, State.finishFrame_of_idle h]

/-- The rows that do not take the rest of the frame event first: the steps of that work, and those of RESET and power. -/
def takesDueFirst : Instr → Bool
  | .answerDeadline _ | .switchFrame _ | .confirmDeadline _ | .revertFrame _ | .revertConfirmExpiry _ | .telemetryTimeout _
  | .scanTrigger | .tallyTimeout | .resetAssert | .resetRelease | .powerUp => false
  | _ => true

theorem exec_settled (c : Instr) (hc : takesDueFirst c = true) : ∃ f, ∀ s, exec c s = s.settled f := by
  cases c <;> first | exact absurd hc Bool.false_ne_true | exact ⟨_, fun _ => by unfold exec; rfl⟩

/-- Settles O1. -/
theorem stepTakesFrontCommand : Obligations.StepTakesFrontCommand := by
  refine ⟨fun c rest s h => ?_, fun s h => ?_, fun c s hc => ?_, fun s => ⟨s.finishFrame_due, State.finishFrame_of_idle⟩,
    fun s d rest h => ⟨State.finishFrame_cons h, by simp [h]⟩, fun s d => ⟨State.dueStep_of_not_mem, ?_⟩⟩
  · simp [step, h]
  · simp [step, h]
  · obtain ⟨f, hf⟩ := exec_settled c (by cases c <;> first | rfl | exact hc.elim)
    rw [hf, hf, State.settled_finishFrame]
  · cases d <;> rfl

/-- Settles O4: each table is one value repeated, and the rest stands in the defaults of the fields. -/
theorem resetValues : Obligations.ResetValues := by
  refine ⟨by decide, by decide, ⟨fun b => ?_, fun e => ?_, rfl, rfl, rfl⟩, fun l => ?_, rfl, ⟨fun i => ?_, rfl, fun u => ?_, rfl⟩,
    ⟨fun k => ?_, rfl⟩, ⟨fun p => ?_, fun l => ?_, fun l => ?_⟩, ⟨fun g => ?_, by decide⟩,
    ⟨fun i => ?_, fun n => ?_, fun l => ?_, by decide⟩, ⟨fun i => ?_, fun o => ?_, fun i o => ?_, ?_⟩, by decide⟩
  case refine_17 => simp [State.reset, Mixer.owned_eq_sum]
  all_goals simp [State.reset]

/-! ### Cells -/

theorem integral_makeCell (kind dest src : Byte) (toggle : Bool) (data : List Byte) (h : data.length ≤ 48) :
    integral (makeCell kind dest src toggle data) = true := by
  have hlen : (BitVec.ofNat 6 data.length).toNat ≤ 48 := by simp; omega
  simpa [integral, makeCell, sealCell, cellBytes, headByte] using hlen

theorem padPayload_beyond {data : List Byte} {i : Fin 48} (h : data.length ≤ i.val) : (padPayload data)[i] = 0 := by
  simp [padPayload, h]

/-- Byte 3 of a cell by its bits and its length. -/
theorem headByte_eq (c : Cell) :
    headByte c = BitVec.ofNat 8 ((if c.toggle then 128 else 0) + (if c.last then 64 else 0) + c.len.toNat) := by
  unfold headByte
  cases c.toggle <;> cases c.last <;> simp

/-- Settles O10. -/
theorem madeCellsAreSealed : Obligations.MadeCellsAreSealed := by
  refine ⟨fun kind dest src toggle data h => ?_, fun kind dest data => ⟨rfl, rfl⟩, fun c => ?_⟩
  · exact ⟨integral_makeCell _ _ _ _ _ h, cellData_makeCell _ _ _ _ _ h, rfl, rfl, rfl, rfl, rfl, fun i hi => padPayload_beyond hi⟩
  · have hbytes : [c.kind, c.dest, c.src, BitVec.ofNat 8 ((if c.toggle then 128 else 0) + (if c.last then 64 else 0) + c.len.toNat)]
        ++ c.payload.toList = cellBytes c := by
      rw [← headByte_eq]; rfl
    have hcrc := crc16_eq_bits (cellBytes c)
    unfold crcBit at hcrc
    intro bytes bits crc
    rw [show crc = crc16 (cellBytes c) by rw [hcrc, ← hbytes]]
    simp [integral, and_comm]

/-! ### Receivers (R1, R3 to R6) -/

section
variable {s : State} {p : Port} {c : Cell} {ofRow : Bool} {act : State → State}

theorem State.receive_of_reset (h : s.pins.reset = true) : s.receive p c ofRow act = s := by simp [State.receive, h]

theorem State.receive_of_bad (h : s.pins.reset = false) (hbad : integral c = false) :
    s.receive p c ofRow act = s.raise .checkError (portByte p) [] := by simp [State.receive, h, hbad]

theorem State.receive_of_integral (h : s.pins.reset = false) (hgood : integral c = true) (hrow : ofRow = true) :
    s.receive p c ofRow act = act s := by simp [State.receive, h, hgood, hrow]

theorem State.checkFormat_of_bad {ok : Bool} (h : ok = false) : s.checkFormat p ok act = s.raise .formatError (portByte p) [] := by
  simp [State.checkFormat, h]

theorem State.checkFormat_of_ok {ok : Bool} (h : ok = true) : s.checkFormat p ok act = act s := by simp [State.checkFormat, h]

end

/-- A cell of its row that passes the integrity check is acted on. -/
theorem State.settled_receive {s : State} {p : Port} {c : Cell} {ofRow : Bool} (hdue : s.due = []) (h : s.pins.reset = false)
    (hgood : integral c = true) (hrow : ofRow = true) (act : State → State) :
    s.settled (fun s => s.receive p c ofRow act) = .next (act s) := by
  rw [State.settled_of_idle hdue, State.receive_of_integral h hgood hrow]

/-- The instruction is the row of a cell that arrives at a port. -/
def Arrives (p : Port) (c : Cell) (i : Instr) : Prop :=
  ∃ (ofRow : Bool) (act : State → State), ∀ s, exec i s = s.settled fun s => s.receive p c ofRow act

theorem arrives_u {c : Cell} {i : Instr} (h : i ∈ [Instr.mgmtCell c, .forwardedCell .u c, .commandAtGuard c, .tallyCell c, .audioCell .u c]) :
    Arrives .u c i := by
  simp only [List.mem_cons, List.not_mem_nil, or_false] at h
  obtain rfl | rfl | rfl | rfl | rfl := h <;> exact ⟨_, _, fun _ => by unfold exec; rfl⟩

theorem arrives_d {c : Cell} {i : Instr} (h : i ∈ [Instr.dPortMgmtCell c, .forwardedCell .d c, .answerCell c, .sweepCell c,
    .telemetryCell c, .audioCell .d c]) : Arrives .d c i := by
  simp only [List.mem_cons, List.not_mem_nil, or_false] at h
  obtain rfl | rfl | rfl | rfl | rfl | rfl := h <;> exact ⟨_, _, fun _ => by unfold exec; rfl⟩

theorem Arrives.of_reset {p : Port} {c : Cell} {i : Instr} (hi : Arrives p c i) {s : State} (hdue : s.due = []) (h : s.pins.reset = true) :
    exec i s = .next s := by
  obtain ⟨ofRow, act, hexec⟩ := hi
  rw [hexec, State.settled_of_idle hdue, State.receive_of_reset h]

theorem Arrives.of_bad {p : Port} {c : Cell} {i : Instr} (hi : Arrives p c i) {s : State} (hdue : s.due = []) (h : s.pins.reset = false)
    (hbad : integral c = false) : exec i s = .next (s.raise .checkError (portByte p) []) := by
  obtain ⟨ofRow, act, hexec⟩ := hi
  rw [hexec, State.settled_of_idle hdue, State.receive_of_bad h hbad]

theorem exec_marker_of_idle {s : State} (hdue : s.due = []) (c : Cell) (e : Nat) :
    exec (.marker c e) s = .next ((s.passTo (s.markerAt e)).receive .u c (Instr.marker c e).wf State.judgeMarker) :=
  State.settled_of_idle hdue fun s => (s.passTo (s.markerAt e)).receive .u c (Instr.marker c e).wf State.judgeMarker

theorem sweepFormat_eq_false {c : Cell} (hgood : integral c = true) {n : Nat} (hn : n = u8At (cellData c) 1)
    (h : 14 < n ∨ c.len.toNat ≠ 2 + 3 * n) : sweepFormat (cellData c) = false := by
  have hlen := cellData_length_of_integral c hgood
  subst hn
  simp [sweepFormat, hlen]
  omega

theorem tallyFormat_eq_false {c : Cell} (hgood : integral c = true) {n : Nat} (hn : n = u8At (cellData c) 0 % 32)
    (h : 24 < n ∨ c.len.toNat ≠ 1 + n + (n + 3) / 4) : tallyFormat (cellData c) = false := by
  have hlen := cellData_length_of_integral c hgood
  subst hn
  simp [tallyFormat, hlen]
  omega

/-- A cell of one length alone is badly formed at any other. -/
theorem cellData_length_beq {c : Cell} (hgood : integral c = true) {n : BitVec 6} (h : c.len ≠ n) :
    ((cellData c).length == n.toNat) = false := by
  rw [cellData_length_of_integral c hgood, beq_eq_false_iff_ne]
  exact fun hn => h (BitVec.eq_of_toNat_eq hn)

/-- A cell of its row that has a length its layout does not allow is dropped with FORMAT_ERROR. -/
theorem State.settled_badFormat {s : State} {p : Port} {c : Cell} {ofRow ok : Bool} (hdue : s.due = []) (h : s.pins.reset = false)
    (hgood : integral c = true) (hrow : ofRow = true) (hok : ok = false) (act : State → State) :
    s.settled (fun s => s.receive p c ofRow fun s => s.checkFormat p ok act) = .next (s.raise .formatError (portByte p) []) := by
  rw [State.settled_receive hdue h hgood hrow, State.checkFormat_of_bad hok]

/-- Settles O11. -/
theorem badCellsAreDropped : Obligations.BadCellsAreDropped := by
  refine ⟨fun s c e hdue => ⟨fun hreset i hi => ?_, fun hreset => ?_, fun hreset hbad => ⟨fun i hi => ?_, fun i hi => ?_, ?_⟩⟩,
    fun s c hdue hreset hgood => ⟨fun hkind hdest hlen => ?_, fun hkind hdest hlen => ⟨?_, ?_⟩, fun n hkind hdest hn h => ?_,
      fun n hkind hn h => ?_⟩⟩
  · obtain hu | hd := List.mem_append.mp hi
    · exact (arrives_u hu).of_reset hdue hreset
    · exact (arrives_d hd).of_reset hdue hreset
  · rw [exec_marker_of_idle hdue, State.receive_of_reset (s := s.passTo _) hreset]
  · exact (arrives_u hi).of_bad hdue hreset hbad
  · exact (arrives_d hi).of_bad hdue hreset hbad
  · rw [exec_marker_of_idle hdue, State.receive_of_bad (s := s.passTo _) hreset hbad]
    rfl
  · exact State.settled_badFormat hdue hreset hgood (by simp [Instr.wf, hkind, hdest]) (cellData_length_beq hgood hlen) _
  · exact State.settled_badFormat hdue hreset hgood (by simp [Instr.wf, hkind, hdest]) (cellData_length_beq hgood hlen) _
  · exact State.settled_badFormat hdue hreset hgood (by simp [Instr.wf, hkind, hdest]) (cellData_length_beq hgood hlen) _
  · exact State.settled_badFormat hdue hreset hgood (by simp [Instr.wf, hkind, hdest]) (sweepFormat_eq_false hgood hn h) _
  · exact State.settled_badFormat hdue hreset hgood (by simp [Instr.wf, hkind]) (tallyFormat_eq_false hgood hn h) _

/-! ### Notices (R28, R190, R192) -/

/-- A reference notice with the REFERENCE flag clear sets that flag beside its own (R28). -/
theorem State.raiseReference_of_clear {s : State} {n : Notice} (h : s.agent.flags.timing.getLsbD 6 = false) :
    s.raiseReference n = { s with
      uport := { s.uport with report := s.agent.reportsAfter s.uport.report s.timing.frame n 0 [] }
      agent := { s.agent with flags := { s.agent.flagsAfter s.uport.report n 0 with
        timing := (s.agent.flagsAfter s.uport.report n 0).timing ||| BitVec.twoPow 7 6 } } } := by
  rw [State.raiseReference, if_neg (by rw [StatusFlags.reference, h]; decide), State.raise_eq]

/-- A notice of the TIMING group sets its own bit there; REPORT_OVERFLOW is of another group. -/
theorem Agent.flagsAfter_timing {a : Agent} {n : Notice} (h : n.group = .timing) (waiting : List Cell) (object : Byte) :
    (a.flagsAfter waiting n object).timing = a.flags.timing ||| BitVec.twoPow 7 n.bit := by
  unfold Agent.flagsAfter
  have hown (f : StatusFlags) : (f.raise n object).timing = f.timing ||| BitVec.twoPow 7 n.bit := by simp [StatusFlags.raise, h]
  have hover (f : StatusFlags) : (f.raise .reportOverflow 0).timing = f.timing := rfl
  split
  · rw [hover, hown]
  · rw [hown]

/-- Settles O12. -/
theorem noticeIsRaised : Obligations.NoticeIsRaised := by
  refine ⟨fun s n object detail => ?_, fun s n hn => ⟨fun hset => ?_, fun hclear => ?_⟩⟩
  · unfold State.raise State.offerReport
    by_cases henabled : s.agent.enables.getLsbD n.code = true
    · simp only [henabled, Bool.true_eq_false, if_true, if_false]
      rfl
    · simp only [henabled, if_false, Bool.false_eq_true, if_true]
      rfl
  · simp [State.raiseReference, StatusFlags.reference, hset]
  · have hgroup : n.group = .timing := by obtain rfl | rfl | rfl := hn <;> rfl
    rw [State.raiseReference_of_clear hclear]
    refine ⟨by rw [Agent.flagsAfter_timing hgroup], fun henabled hroom => ?_, fun henabled => ?_, rfl, rfl, rfl⟩
    · simp only [Agent.reportsAfter, henabled, hroom, and_self, if_true]
      rfl
    · simp [Agent.reportsAfter, henabled]

/-! ### Forwarding and the guard (R5 to R8, R13) -/

/-- Settles O13. -/
theorem forwardedCellPassesThrough : Obligations.ForwardedCellPassesThrough := by
  refine ⟨fun s c hdue hreset hgood => ⟨fun hrow => ?_, fun hrow => ?_⟩, fun s c hdue hreset hgood hkind => ?_⟩
  · exact State.settled_receive hdue hreset hgood hrow fun s => s.offerForward .d c
  · exact State.settled_receive hdue hreset hgood hrow fun s => s.offerForward .u c
  · exact State.settled_receive hdue hreset hgood (by simp [Instr.wf, hkind]) fun s => s.raise .mgmtOnD (portByte .d) []

/-- The guard's test is R7's condition, for a cell that carries a command code. -/
theorem State.guarded_iff {s : State} {c : Cell} (hgood : integral c = true) (hdest : isUnit c.dest = true ∨ c.dest = 255)
    (hlen : 1 ≤ c.len.toNat) : s.guarded c = true ↔ s.guardHolds c := by
  have hempty : (cellData c).isEmpty = false := by
    have hlength := cellData_length_of_integral c hgood
    cases hdata : cellData c with
    | nil => simp [hdata] at hlength; omega
    | cons => rfl
  have hcommand : isFrequencyCommand (byteAt (cellData c) 0) = true ↔ (byteAt (cellData c) 0 = 0x01 ∨ byteAt (cellData c) 0 = 0x02
      ∨ byteAt (cellData c) 0 = 0x04 ∨ byteAt (cellData c) 0 = 0x40) := by
    simp [isFrequencyCommand, or_assoc, cmdPreload, cmdSwitch, cmdRevert, cmdDirectTune]
  have hmanaged : s.managed c.dest = true ↔ ∃ l : LinkId, s.links[l].state ≠ .unused
      ∧ (c.dest = 255 ∨ s.links[l].portable = c.dest ∨ s.links[l].rack = c.dest) := by
    simp only [State.managed, List.any_eq_true, List.mem_finRange, true_and, Bool.and_eq_true, Bool.or_eq_true, beq_iff_eq, bne_iff_ne]
    refine exists_congr fun l => and_congr_right fun _ => ⟨Or.imp_right And.right, fun h => ?_⟩
    obtain hunit | hall := hdest
    · exact h.imp_right fun h => ⟨hunit, h⟩
    · exact .inl hall
  rw [State.guarded, hempty, Bool.and_eq_true, hmanaged]
  simp only [Bool.not_false, Bool.true_and, hcommand]

/-- Settles O14. -/
theorem guardRefusesOrForwards : Obligations.GuardRefusesOrForwards := by
  intro s c hdue hreset hgood hkind hdest hlen
  have hexec : exec (.commandAtGuard c) s = .next (s.guard c) :=
    State.settled_receive hdue hreset hgood (by simpa [Instr.wf, hkind] using hdest) fun s => s.guard c
  rw [hexec, State.guard, ← State.guarded_iff hgood hdest hlen]
  refine ⟨fun h => ?_, fun h => ?_⟩
  · rw [if_pos h]
    rfl
  · rw [if_neg h]
    rfl

/-! ### The agent's intake and its replies (R186 to R188) -/

/-- The answer of the common judgement to one request, where it has one. -/
def State.judgeOne (s : State) (q : Request) : State :=
  match commonJudgement q with
  | none => s
  | some (res, data) => s.answer q res data

theorem State.judgeCommon_eq (s : State) : s.judgeCommon =
    ((s.agent.requests.filter fun q => q.phase = .arrived).takeWhile fun q => (commonJudgement q).isSome).foldl State.judgeOne s := by
  rw [State.judgeCommon, commonlyJudged_eq, List.foldl_filterMap]
  congr
  funext t q
  rw [State.judgeOne]
  cases commonJudgement q <;> rfl

/-- Nothing is judged commonly behind a request that an owning rule must judge. -/
theorem commonlyJudged_of_untaken {rs : List Request} {q : Request} (h : rs.find? (·.phase = .arrived) = some q)
    (hq : commonJudgement q = none) (more : List Request) : commonlyJudged (rs ++ more) = [] := by
  induction rs with
  | nil => cases h
  | cons r rs ih =>
    by_cases hr : r.phase = .arrived
    · obtain rfl : r = q := by simpa [hr] using h
      simp [commonlyJudged, hr, hq]
    · simpa [commonlyJudged, hr] using ih (by simpa [hr] using h)

/-- A request behind others that are all taken is judged by itself. -/
theorem State.judgeCommon_of_last {s : State} {rs : List Request} {r : Request} (hrs : s.agent.requests = rs ++ [r])
    (h : ∀ q ∈ rs, q.phase ≠ .arrived) (hr : r.phase = .arrived) : s.judgeCommon = s.judgeOne r := by
  rw [State.judgeCommon, hrs, commonlyJudged_append rs r h, State.judgeOne]
  cases hj : commonJudgement r <;> simp [commonlyJudged, hr, hj]

/-- Settles O15. -/
theorem mgmtCellIntake : Obligations.MgmtCellIntake := by
  intro s c hdue hreset hgood hkind hdest r queued untaken judge
  have hexec : exec (.mgmtCell c) s = .next (s.takeMgmt c) :=
    State.settled_receive hdue hreset hgood (by simp [Instr.wf, hkind, hdest]) fun s => s.takeMgmt c
  have hlen := cellData_length_of_integral c hgood
  have hjudge : judge = State.judgeOne := rfl
  rw [hexec, State.takeMgmt, hlen]
  refine ⟨fun h => ?_, fun h hroom => ?_, fun h hfull => ?_⟩
  · rw [if_pos h]
    rfl
  · rw [if_neg (by omega), if_pos (by exact hroom)]
    have hqueued : queued = { s with agent := { s.agent with requests := s.agent.requests ++ [s.newRequest c]
                                                             nextId := s.agent.nextId + 1 } } := rfl
    rw [← hqueued]
    refine ⟨congrArg _ queued.judgeCommon_eq, fun q hq hnone => ?_, fun htaken => ?_⟩
    · rw [State.judgeCommon, show commonlyJudged queued.agent.requests = [] from commonlyJudged_of_untaken hq hnone [r]]
      rfl
    · rw [State.judgeCommon_of_last (r := r) rfl htaken rfl, hjudge]
  · rw [if_neg (by omega), if_neg (by simpa using hfull)]
    rfl

/-- The identifiers that have a value size are those from 1 to 22 (R189). -/
theorem settingSize_eq_none_iff (id : Nat) : settingSize id = none ↔ id = 0 ∨ 22 < id := by
  unfold settingSize
  split <;> simp_all
  omega

/-- The required bytes of a CONFIG write: its count byte where its items are all there, and more than it has where they are not. -/
theorem commonJudgement_of_config {r : Request} (hcode : r.code = 0x29) {items : Option (List ConfigItem)}
    (h : configItems r.args = items) : commonJudgement r = match items with
      | none => some (.badValue, [])
      | some [] => some (.ok, [])
      | some (x :: _) => if settingSize x.id = none then some (.badIndex, u8 x.id) else none := by
  have hrequired : requiredArgs r.code.toNat r.args = some (if items.isSome then 1 else r.args.length + 1) := by
    rw [hcode, ← h]
    rfl
  rw [commonJudgement, hrequired]
  cases items with
  | none => simp
  | some items =>
    have hargs : 1 ≤ r.args.length := by
      cases hargs : r.args with
      | nil => simp [hargs, configItems] at h
      | cons => simp
    simp only [Option.isSome_some, if_true, if_neg (Nat.not_lt.mpr hargs), if_pos hcode, h]
    cases items <;> rfl

/-- Settles O16. -/
theorem replyIsMadeAndJoins : Obligations.ReplyIsMadeAndJoins := by
  refine ⟨⟨fun r h => ?_, fun r n h hlen => ?_, fun r n h hlen hcode => ?_,
    fun r hcode => ⟨fun h => ?_, fun h => ?_, fun x rest h => ⟨fun hid => ?_, fun hlo hhi => ?_⟩⟩,
    ⟨?_, ?_, ?_⟩, ?_⟩, ?_⟩
  · simp [commonJudgement, h]
  · simp [commonJudgement, h, hlen]
  · simp only [commonJudgement, h, if_neg (Nat.not_lt.mpr hlen), if_neg hcode]
  · rw [commonJudgement_of_config hcode h]
  · rw [commonJudgement_of_config hcode h]
  · simp only [commonJudgement_of_config hcode h, if_pos ((settingSize_eq_none_iff x.id).mpr hid)]
  · simp only [commonJudgement_of_config hcode h, if_neg (mt (settingSize_eq_none_iff x.id).mp (by omega))]
  · intro args code n h
    simp only [List.mem_cons, Prod.mk.injEq, List.not_mem_nil, or_false] at h
    casesm* _ ∨ _
    all_goals
      obtain ⟨rfl, rfl⟩ := h
      rfl
  · exact fun _ => ⟨rfl, rfl, rfl⟩
  · intro args code h hcand htally hread hwrite
    unfold requiredArgs
    split
    all_goals simp at *
  · exact fun _ _ _ _ => rfl
  · refine fun s hdue => ⟨fun q rest hready hroom => ?_, fun h => ?_⟩
    · refine (State.settled_of_idle hdue State.offerReply).trans ?_
      simp only [State.offerReply, hready, if_pos (show s.uport.reply.length < Config.replyCap from hroom)]
    · refine (State.settled_of_idle hdue State.offerReply).trans ?_
      obtain h | h := h
      · simp only [State.offerReply, h]
      · cases hready : s.agent.ready with
        | nil => simp only [State.offerReply, hready]
        | cons q rest => simp only [State.offerReply, hready, if_neg (show ¬ s.uport.reply.length < Config.replyCap from Nat.not_lt.mpr h)]

end Sys2Proof.Machine
end

section

/-! ### The transmitters (01 sections 1.5 to 1.7) -/

namespace Sys2Proof.Machine

/-- The U-port arbiter's choice is R9's. -/
theorem State.startU_of_idle {s : State} (hreset : s.pins.reset = false) (hline : s.uport.line = .idle) :
    s.startU = { s with uport := s.uport.choice } := by
  rw [State.startU, if_pos ⟨hline, by simp [hreset]⟩, UPort.choice]
  cases hreply : s.uport.reply with
  | cons => simp [State.setULine, hreply]
  | nil =>
    cases hreport : s.uport.report with
    | cons => simp [State.setULine, hreply, hreport]
    | nil =>
      cases haudio : s.uport.audio with
      | cons => simp [State.setULine, hreply, hreport, haudio]
      | nil => cases hforward : s.uport.forward <;> simp [State.setULine, hreply, hreport, haudio, hforward]

theorem State.startU_of_busy {s : State} (h : s.pins.reset = true ∨ s.uport.line ≠ .idle) : s.startU = s := by
  rw [State.startU, if_neg]
  rintro ⟨hline, hreset⟩
  exact h.elim hreset fun h => h hline

/-- The D-port arbiter's first choice, where no uncommitted pair heads the urgent queue (R9). -/
theorem State.chooseD_of_noPair {s : State} (h : s.dport.noPair) (n : Nat) :
    State.chooseD (n + 1) s = { s with dport := s.dport.choice } := by
  rw [State.chooseD, DPort.choice]
  cases hslot : s.dport.frameSlot with
  | some c => rfl
  | none =>
    cases hurgent : s.dport.urgent with
    | cons q rest =>
      cases hcontext : q.context with
      | none => simp [State.setDLine, hslot, hurgent, hcontext]
      | some k =>
        have hcommitted : q.committed = true := by simpa [DPort.noPair, hurgent, hcontext] using h
        simp [State.setDLine, hslot, hurgent, hcontext, hcommitted]
    | nil =>
      cases hcommand : s.dport.command with
      | cons => simp [State.setDLine, hslot, hurgent, hcommand]
      | nil =>
        cases haudio : s.dport.audio with
        | cons => simp [State.setDLine, hslot, hurgent, hcommand, haudio]
        | nil => cases hforward : s.dport.forward <;> simp [State.setDLine, hslot, hurgent, hcommand, haudio, hforward]

theorem State.startD_of_idle {s : State} (hreset : s.pins.reset = false) (hbackoff : s.pins.backoff = false)
    (hline : s.dport.line = .idle) : s.startD = State.chooseD (s.dport.urgent.length + 1) s := by
  rw [State.startD, if_pos (by simp [hreset, hbackoff, hline])]

theorem State.startD_of_busy {s : State} (h : s.pins.reset = true ∨ s.pins.backoff = true ∨ s.dport.line ≠ .idle) : s.startD = s := by
  rw [State.startD, if_neg]
  rintro ⟨hline, hbackoff, hreset⟩
  obtain h | h | h := h
  · exact hreset h
  · exact hbackoff h
  · exact h hline

/-- The cell in the frame slot goes before every queue (R12). -/
theorem State.chooseD_of_frame {s : State} {c : Cell} (h : s.dport.frameSlot = some c) (n : Nat) :
    State.chooseD (n + 1) s = { s with dport := { s.dport with frameSlot := none, line := .frame c } } := by
  simp [State.chooseD, h]

theorem exec_transmitStart_u {s : State} (hdue : s.due = []) : exec (.transmitStart .u) s = .next s.startU :=
  State.settled_of_idle hdue State.startU

theorem exec_transmitStart_d {s : State} (hdue : s.due = []) : exec (.transmitStart .d) s = .next s.startD :=
  State.settled_of_idle hdue State.startD

theorem exec_transmitComplete_u {s : State} (hdue : s.due = []) : exec (.transmitComplete .u) s = .next s.completeU :=
  State.settled_of_idle hdue State.completeU

theorem exec_transmitComplete_d {s : State} (hdue : s.due = []) : exec (.transmitComplete .d) s = .next s.completeD :=
  State.settled_of_idle hdue State.completeD

/-- Settles O17. -/
theorem transmitStartByPriority : Obligations.TransmitStartByPriority := by
  intro s hdue
  rw [exec_transmitStart_u hdue, exec_transmitStart_d hdue]
  refine ⟨fun hreset hline => ?_, fun h => ?_, fun hreset hbackoff hline hpair => ?_, fun c hreset hbackoff hline hslot => ?_, fun h => ?_⟩
  · rw [State.startU_of_idle hreset hline]
  · rw [State.startU_of_busy h]
  · rw [State.startD_of_idle hreset hbackoff hline, State.chooseD_of_noPair hpair]
  · rw [State.startD_of_idle hreset hbackoff hline, State.chooseD_of_frame hslot]
  · rw [State.startD_of_busy h]

/-! ### Completions (R10, R16, R97, R101) -/

/-- A cell that no START met in transmission: its slot is SENT with its deadline (R97). -/
theorem State.slotSent_of_sent {s : State} {i : SlotId} (h : s.unit.slots[i].again = false) :
    s.slotSent i = s.setSlot i (s.sentSlotOf i) := by
  rw [State.slotSent]
  exact if_neg (by simp only [h, Bool.false_eq_true, not_false_eq_true])

/-- A cell that a START met in transmission: its slot waits, to offer it again without counting an attempt (R101). -/
def State.offeredAgain (s : State) (i : SlotId) : State :=
  s.setSlot i { s.unit.slots[i] with state := .waiting, again := false, uncounted := true, begun := true }

theorem State.slotSent_of_again {s : State} {i : SlotId} (h : s.unit.slots[i].again = true) :
    s.slotSent i = (s.offeredAgain i).noteResend s.unit.slots[i] := by
  rw [State.slotSent]
  exact if_pos h

/-- Points are set aside for a scan's slot whose discard mark is clear, and for no other. -/
theorem State.noteResend_of_other {s : State} {x : Slot} (h : ∀ rc : Receiver, x.owner = some (.scan rc) → x.discard = true) :
    s.noteResend x = s := by
  unfold State.noteResend
  split <;> simp_all

theorem State.noteResend_of_scan {s : State} {x : Slot} {rc : Receiver} (howner : x.owner = some (.scan rc)) (h : x.discard = false) :
    s.noteResend x = s.setSweeper rc { s.sweeper rc with results := [] } := by
  simp [State.noteResend, howner, h, State.setAside]

/-- The D-port's line completes a cell of a unit queue, which leaves it. -/
theorem State.completeD_of_unit {s : State} {q : UnitCell} {rest : List UnitCell} {dport : DPort}
    (h : s.dport.line = .command ∧ s.dport.command = q :: rest ∧ dport = { s.dport with line := .idle, command := rest }
      ∨ s.dport.line = .urgent ∧ s.dport.urgent = q :: rest ∧ dport = { s.dport with line := .idle, urgent := rest }) :
    s.completeD = ({ s with dport }).cellSent q := by
  obtain ⟨hline, hqueue, rfl⟩ | ⟨hline, hqueue, rfl⟩ := h <;> simp [State.completeD, hline, hqueue]

theorem State.cellSent_of_single {s : State} {q : UnitCell} (h : q.context = none) : s.cellSent q = s.slotSent q.slot := by
  simp [State.cellSent, h]

theorem State.cellSent_of_pair {s : State} {q : UnitCell} {k : ContextId} (h : q.context = some k) :
    s.cellSent q = (s.slotSent q.slot).modContext k fun c => { c with completions := c.completions + 1 } := by
  simp [State.cellSent, h]

theorem State.releaseBackoff_eq (s : State) : s.releaseBackoff = State.startD { s with pins := { s.pins with backoff := false } } := rfl

/-- Settles O19. -/
theorem transmitCompletesOrIsAbandoned : Obligations.TransmitCompletesOrIsAbandoned := by
  refine ⟨fun s hdue => ?_, fun s hdue => ?_⟩
  · intro slotsWith waitingAgain
    rw [exec_transmitComplete_u hdue, exec_transmitComplete_d hdue]
    refine ⟨fun h => ?_, fun h => ?_, fun h => ?_, fun h => ?_, fun c h => ?_, fun h => ?_, fun h => ?_, fun q rest dport h => ?_⟩
    · simp only [State.completeU, h]
    · simp only [State.completeU, h]
    · simp only [State.completeU, h]
    · simp only [State.completeU, h]
    · simp only [State.completeD, h]; rfl
    · simp only [State.completeD, h]
    · simp only [State.completeD, h]
    · rw [State.completeD_of_unit h]
      refine ⟨fun hsingle hagain => ?_, fun k hpair hagain => ?_, fun hsingle hagain hother => ?_, fun rc hsingle hagain howner hkept => ?_⟩
      · rw [State.cellSent_of_single hsingle, State.slotSent_of_sent (s := { s with dport }) hagain]
        rfl
      · rw [State.cellSent_of_pair hpair, State.slotSent_of_sent (s := { s with dport }) hagain]
        rfl
      · rw [State.cellSent_of_single hsingle, State.slotSent_of_again (s := { s with dport }) hagain, State.noteResend_of_other hother]
        rfl
      · rw [State.cellSent_of_single hsingle, State.slotSent_of_again (s := { s with dport }) hagain, State.noteResend_of_scan howner hkept]
        rfl
  · have hrelease : exec .backoffRelease s = .next (State.startD { s with pins := { s.pins with backoff := false } }) :=
      State.settled_of_idle hdue State.releaseBackoff
    rw [hrelease]
    let released : State := { s with pins := { s.pins with backoff := false } }
    refine ⟨?_, fun hreset hline hpair => ?_, fun hreset hline => ?_, fun h => ?_⟩
    · exact State.settled_of_idle hdue State.assertBackoff
    · rw [State.startD_of_idle (s := released) hreset rfl hline, State.chooseD_of_noPair (s := released) hpair]
    · exact (exec_transmitStart_d (s := released) hdue).symm
    · rw [State.startD_of_busy (s := released) (h.imp_right .inr)]

end Sys2Proof.Machine
end

section

/-! ### The frame timer and the reference monitor (02) -/

namespace Sys2Proof.Machine

/-- A good marker is judged at the instant it arrives (log 5). -/
theorem exec_marker_good {s : State} {c : Cell} {e : Nat} (hdue : s.due = []) (hreset : s.pins.reset = false) (hgood : integral c = true)
    (hkind : c.kind = 1) : exec (.marker c e) s = .next (State.judgeMarker
      { s with timing := { s.timing with now := max s.timing.now (s.markerAt e) } }) := by
  rw [exec_marker_of_idle hdue, State.receive_of_integral (s := s.passTo _) hreset hgood (by simp [Instr.wf, hkind])]
  rfl

/-! ### The frame event (R20, R21, R30) -/

/-- What a frame event leaves before its due list is made. -/
def State.frameTold (s : State) : State := s.advanceFrame.placeFrame.tallyFrame.profilelessConfirms.countSilence

theorem State.frameEvent_eq (s : State) : s.frameEvent = { s.frameTold with due := allDue.filter s.frameTold.isDue } := rfl

theorem State.frameTold_shell (s : State) : SameShell s.frameTold s.advanceFrame.placeFrame :=
  ((State.countSilence_shell _).trans (State.profilelessConfirms_shell _)).trans (State.tallyFrame_shell _)

/-- The number comes to 0 where it was 65,535 (R21). -/
theorem State.advanceFrame_eq (s : State) : s.advanceFrame =
    let t : State := { s with timing := { s.timing with frame := s.timing.frame + 1, rateInForce := s.timing.rate } }
    if s.timing.frame = 65535 then t.raise .frameWrap 0 [] else t := by
  have hwrap : s.timing.frame + 1 = 0 ↔ s.timing.frame = 65535 := by bv_omega
  rw [State.advanceFrame]
  by_cases h : s.timing.frame = 65535
  · exact (if_pos (hwrap.mpr h)).trans (if_pos h).symm
  · exact (if_neg (mt hwrap.mp h)).trans (if_neg h).symm

/-- The frame number's advance touches the timing and, at a wrap, the flags and the reports alone. -/
theorem State.advanceFrame_parts (s : State) : s.advanceFrame = { s with
    timing := { s.timing with frame := s.timing.frame + 1, rateInForce := s.timing.rate }
    uport := { s.uport with report := s.advanceFrame.uport.report }
    agent := { s.agent with flags := s.advanceFrame.agent.flags } } := by
  rw [State.advanceFrame_eq]
  dsimp only
  split
  · rw [State.raise_eq]
  · rfl

theorem SameShell.timing {s t : State} (h : SameShell t s) : t.timing = s.timing := h.1.2.2.1

theorem State.advanceFrame_timing (s : State) :
    s.advanceFrame.timing = { s.timing with frame := s.timing.frame + 1, rateInForce := s.timing.rate } := by
  rw [s.advanceFrame_parts]

theorem State.placeFrame_timing (s : State) : s.placeFrame.timing = s.timing := rfl

theorem State.frameEvent_timing (s : State) :
    s.frameEvent.timing = { s.timing with frame := s.timing.frame + 1, rateInForce := s.timing.rate } := by
  have htiming := s.frameTold_shell.timing
  rw [State.placeFrame_timing, State.advanceFrame_timing] at htiming
  rw [State.frameEvent_eq]
  generalize s.frameTold = u at htiming
  exact htiming

/-- The four contexts' links without a profile, one after the other (log 34). -/
theorem State.profilelessConfirms_eq (s : State) : s.profilelessConfirms =
    (((s.profilelessConfirm 0).profilelessConfirm 1).profilelessConfirm 2).profilelessConfirm 3 := by
  rw [State.profilelessConfirms, show List.finRange 4 = [0, 1, 2, 3] by decide]
  simp only [List.foldl]

/-- The lamp lines and the displays as the tally sets give them, or as one rule for all of them. -/
def State.shown (s : State) (on : Fin 16 → Bool) (display : LinkId → Display) : State := (s.setLamps on).setDisplays display

theorem State.shown_eq (s : State) (on : Fin 16 → Bool) (display : LinkId → Display) : s.shown on display =
    (List.finRange 80).foldl (fun v l => if v.links[l].kind = .camera ∧ v.links[l].state ≠ .unused then v.setWanted l (display l) else v)
      { s with tally := { s.tally with lamps := Vector.ofFn fun n => { s.tally.lamps[n] with on := on n } } } := by
  rw [State.shown, State.setDisplays, State.setLamps, mapTable]
  congr
  funext v l
  simp [State.cameraInUse]

/-- The displays do not read the lamp lines' levels. -/
theorem State.setLamps_display (s : State) (on : Fin 16 → Bool) : (s.setLamps on).tally.display = s.tally.display := rfl

theorem State.applyTally_eq (s : State) : s.applyTally =
    ((List.finRange 80).foldl State.workLive s.adopt).shown ((List.finRange 80).foldl State.workLive s.adopt).tally.lit
      ((List.finRange 80).foldl State.workLive s.adopt).tally.display := by
  rw [State.applyTally]
  generalize (List.finRange 80).foldl State.workLive s.adopt = u
  rw [State.shown, State.setLamps_display]

theorem State.staleAction_eq (s : State) : s.staleAction = match s.tally.action with
    | .hold => s.shown s.tally.lit s.tally.display
    | .dark => s.shown (fun _ => false) fun _ => .off := by
  rw [State.staleAction]
  cases s.tally.action
  · dsimp only
    rw [State.shown, State.setLamps_display]
  · rfl

/-- The processor's part of a frame event, whose count has already risen (R156). -/
def State.tallyTold (s : State) : State :=
  if s.tally.stale = true then State.staleAction { s with tally := { s.tally with staleFrames := s.tally.staleFrames + 1 } }
  else if s.tally.count < s.tally.timeout then s.applyTally else s

theorem State.tallyFrame_eq (s : State) :
    s.tallyFrame = State.tallyTold { s with tally := { s.tally with count := min 255 (s.tally.count + 1) } } := by
  rw [State.tallyFrame]
  generalize ({ s with tally := { s.tally with count := min 255 (s.tally.count + 1) } } : State) = u
  rw [State.tallyTold]
  split
  · rfl
  · rw [← ite_not]
    simp only [Nat.not_le]

theorem exec_flywheelExpiry {s : State} (hdue : s.due = []) : exec .flywheelExpiry s = .next s.flywheelExpiry :=
  State.settled_of_idle hdue State.flywheelExpiry

theorem exec_frameTimerExpiry {s : State} (hdue : s.due = []) : exec .frameTimerExpiry s = .next s.timerExpiry :=
  State.settled_of_idle hdue State.timerExpiry

theorem exec_relockTimeout {s : State} (hdue : s.due = []) : exec .relockTimeout s = .next s.relockTimeout :=
  State.settled_of_idle hdue State.relockTimeout

/-- Settles O21. -/
theorem timersExpire : Obligations.TimersExpire := by
  refine ⟨fun s hdue => ?_, fun s hdue => ⟨fun t hnext hlocked hrelocking => ?_, fun h => ?_⟩⟩
  · rw [exec_flywheelExpiry hdue]
    refine ⟨fun hlocked hfew => ?_, fun hlocked hthird => ?_, fun hother => ?_⟩
    · have hcount : ¬ 3 ≤ s.timing.flywheel + 1 := by omega
      rw [State.flywheelExpiry, if_pos hlocked]
      exact congrArg _ (if_neg hcount)
    · have hcount : 3 ≤ s.timing.flywheel + 1 := by omega
      rw [State.flywheelExpiry, if_pos hlocked]
      exact congrArg _ (if_pos hcount)
    · rw [State.flywheelExpiry, if_neg hother]
  · have hevent : ¬ (s.timing.ref = .locked ∨ s.timing.ref = .relocking ∧ s.timing.relockDeadline < t) := by
      rintro (h | ⟨h, hlt⟩)
      · exact hlocked h
      · exact absurd (hrelocking h) (by omega)
    rw [exec_frameTimerExpiry hdue, State.timerExpiry]
    simp only [hnext, if_neg hevent]
    rfl
  · rw [exec_frameTimerExpiry hdue, State.timerExpiry]
    cases hnext : s.timing.nextExpiry with
    | none => rfl
    | some t =>
      have hlocked : s.timing.ref = .locked := by simpa [hnext] using h
      exact congrArg _ (if_pos (.inl hlocked))

/-- Settles O22. -/
theorem markerInLocked : Obligations.MarkerInLocked := by
  intro s c e hdue hreset hgood hkind hlocked t d
  have hat : max s.timing.now (s.markerAt e) = t := by
    simp only [State.markerAt, State.nextTimer, hlocked]
    exact max_eq_right (le_max_left _ _)
  rw [exec_marker_good hdue hreset hgood hkind, hat, State.judgeMarker]
  simp only [hlocked]
  refine ⟨fun h => ?_, fun h => ?_⟩
  · exact congrArg _ (if_pos h)
  · exact congrArg _ (if_neg (Nat.not_lt.mpr h))

/-- A management row whose effect ends in an answer. -/
theorem exec_answer {c : Instr} {row : Request → Bool} {f : State → Request → State} {s t : State} {r : Request} {res : Result}
    {data : List Byte} (h : s.Takes r) (hexec : exec c s = .next (s.finishFrame.take row f)) (hrow : row r = true)
    (hf : f s r = t.answer r res data) (ht : t.agent.requests = s.agent.requests) : exec c s = .next (t.answer r res data) := by
  rw [hexec, State.take_eq_answer h row f hrow hf ht]

/-- A management row whose effect ends in the deferral of its request. -/
theorem exec_defer {c : Instr} {row : Request → Bool} {f : State → Request → State} {s t : State} {r : Request}
    (h : s.Takes r) (hexec : exec c s = .next (s.finishFrame.take row f)) (hrow : row r = true)
    (hf : f s r = t.defer r) (ht : t.agent.requests = s.agent.requests) : exec c s = .next (t.defer r) := by
  rw [hexec, State.take_eq_defer h row f hrow hf ht]

/-- Settles O23. -/
theorem relockStartsArmsAndTimesOut : Obligations.RelockStartsArmsAndTimesOut := by
  refine ⟨fun s c e hdue hreset hgood hkind => ?_, fun s hdue => ?_, fun s r h hcode => ?_⟩
  · rw [exec_marker_good hdue hreset hgood hkind, State.judgeMarker]
    refine ⟨fun href => ?_, fun href => ?_⟩ <;> simp only [href] <;> rfl
  · rw [exec_relockTimeout hdue]
    refine ⟨fun href hfirst => ?_, fun href => ?_⟩
    · have hnext : s.nextTimer = some s.timing.relockDeadline := by
        simp only [State.nextTimer, href]
        cases hexpiry : s.timing.nextExpiry with
        | none => rfl
        | some t => exact congrArg some (min_eq_right (hfirst t hexpiry))
      exact congrArg _ (if_pos ⟨href, hnext⟩)
    · exact congrArg _ (if_neg fun h => href h.1)
  · have hrow : hasCode 0x39 r = true := hasCode_of_args r 0x39 0 hcode (by decide) rfl (Nat.zero_le _)
    refine ⟨fun href hgood => exec_answer h rfl hrow ?_ rfl, fun href hgood => exec_answer h rfl hrow ?_ rfl,
      fun href => exec_answer h rfl hrow ?_ rfl⟩
    · rw [State.relock, if_pos href, if_pos hgood]
      rfl
    · rw [State.relock, if_pos href, if_neg hgood]
    · rw [State.relock, if_neg href]

/-- A regular marker in RELOCKING raises the count to at most 8 and is judged by it (R25, R27). -/
theorem State.relockMarker_of_regular {s : State} {t : Nat} (hlow : 98 * s.period ≤ 100 * (t - s.timing.lastMarker))
    (hhigh : 100 * (t - s.timing.lastMarker) ≤ 102 * s.period) :
    s.relockMarker t =
      let u := s.setTiming { s.timing with good := min 8 (s.timing.good + 1), lastMarker := t, relockDeadline := t + 3 * s.period }
      if min 8 (s.timing.good + 1) = 8 ∧ ((s.timing.good = 7 ∧ s.timing.autoRelock = true) ∨ s.timing.armed = true) then u.completeRelock t
      else if s.timing.good = 7 then u.raise .relockReady 0 [] else u := by
  have hregular : s.regular t = true := by simp [State.regular, hlow, hhigh]
  rw [State.relockMarker]
  exact if_pos hregular

theorem State.relockMarker_of_irregular {s : State} {t : Nat}
    (h : 100 * (t - s.timing.lastMarker) < 98 * s.period ∨ 102 * s.period < 100 * (t - s.timing.lastMarker)) :
    s.relockMarker t = s.setTiming { s.timing with good := 1, armed := false, lastMarker := t, relockDeadline := t + 3 * s.period } := by
  have hregular : ¬ s.regular t = true := by
    simp only [State.regular, Bool.and_eq_true, decide_eq_true_eq]
    omega
  rw [State.relockMarker]
  exact if_neg hregular

/-- A regular marker that neither rises to 8 nor finds the relock armed is counted alone. -/
theorem State.relockMarker_counts {s : State} {t : Nat} (hlow : 98 * s.period ≤ 100 * (t - s.timing.lastMarker))
    (hhigh : 100 * (t - s.timing.lastMarker) ≤ 102 * s.period) (hcount : s.timing.good ≠ 7)
    (hunarmed : s.timing.good < 7 ∨ s.timing.armed = false) : s.relockMarker t =
      s.setTiming { s.timing with good := min 8 (s.timing.good + 1), lastMarker := t, relockDeadline := t + 3 * s.period } := by
  rw [State.relockMarker_of_regular hlow hhigh]
  refine (if_neg ?_).trans (if_neg hcount)
  rintro ⟨hmin, ⟨hseven, _⟩ | harmed⟩
  · exact hcount hseven
  · obtain h | h := hunarmed
    · omega
    · exact absurd harmed (by simp [h])

/-- The rise to 8 with auto-relock clear and the relock not armed (R27). -/
theorem State.relockMarker_rises {s : State} {t : Nat} (hlow : 98 * s.period ≤ 100 * (t - s.timing.lastMarker))
    (hhigh : 100 * (t - s.timing.lastMarker) ≤ 102 * s.period) (hcount : s.timing.good = 7) (hauto : s.timing.autoRelock = false)
    (harmed : s.timing.armed = false) : s.relockMarker t = State.raise
      (s.setTiming { s.timing with good := min 8 (s.timing.good + 1), lastMarker := t, relockDeadline := t + 3 * s.period })
      .relockReady 0 [] := by
  rw [State.relockMarker_of_regular hlow hhigh]
  exact (if_neg (by simp [hauto, harmed])).trans (if_pos hcount)

/-- A marker that completes a relock (R26). -/
theorem State.relockMarker_completes {s : State} {t : Nat} (hlow : 98 * s.period ≤ 100 * (t - s.timing.lastMarker))
    (hhigh : 100 * (t - s.timing.lastMarker) ≤ 102 * s.period)
    (h : (s.timing.good = 7 ∧ s.timing.autoRelock = true) ∨ ((s.timing.good = 7 ∨ s.timing.good = 8) ∧ s.timing.armed = true)) :
    s.relockMarker t = State.completeRelock
      (s.setTiming { s.timing with good := min 8 (s.timing.good + 1), lastMarker := t, relockDeadline := t + 3 * s.period }) t := by
  rw [State.relockMarker_of_regular hlow hhigh]
  refine if_pos ⟨by omega, ?_⟩
  exact h.imp_right And.right

theorem State.judgeMarker_of_relocking {s : State} (h : s.timing.ref = .relocking) : s.judgeMarker = s.relockMarker s.timing.now := by
  simp only [State.judgeMarker, h]

/-- The relock that completes: LOCKED from here, with the frame event where half a period has passed (R26). -/
theorem State.completeRelock_eq (s : State) (t : Nat) :
    let locked := s.setTiming { s.timing with ref := .locked, flywheel := 0, good := 0, armed := false, nextExpiry := none
                                              windowOrigin := t }
    s.completeRelock t = (if s.period ≤ 2 * (t - s.timing.lastTimerEvent) then locked.frameEvent else locked).raiseReference
      (match s.timing.origin with
        | .searching => .referenceAcquired
        | .holdover => .referenceRestored) := by
  intro locked
  have horigin : (if s.period ≤ 2 * (t - s.timing.lastTimerEvent) then locked.frameEvent else locked).timing.origin = s.timing.origin := by
    split
    · exact (congrArg Timing.origin (State.frameEvent_timing locked)).trans rfl
    · rfl
  simp only [State.completeRelock, State.relockIsFrame, decide_eq_true_eq]
  rw [horigin]
  generalize (if s.period ≤ 2 * (t - s.timing.lastTimerEvent) then locked.frameEvent else locked) = u
  cases s.timing.origin <;> rfl

/-- Settles O24. -/
theorem markerInRelocking : Obligations.MarkerInRelocking := by
  refine ⟨fun s c e hdue hreset hgood hkind href => ?_, fun s c e hdue hreset hgood hkind href => ?_⟩
  · intro t p gap seen
    let u : State := { s with timing := { s.timing with now := t } }
    rw [exec_marker_good hdue hreset hgood hkind, State.judgeMarker_of_relocking (s := u) href]
    refine ⟨fun h => ?_, fun hlow hhigh hcount => ?_, fun hlow hhigh hcount hauto harmed => ?_, fun hlow hhigh hcount harmed => ?_⟩
    · rw [State.relockMarker_of_irregular (s := u) h]
      rfl
    · have hmin : min 8 (s.timing.good + 1) = s.timing.good + 1 := by omega
      rw [State.relockMarker_counts (s := u) hlow hhigh (Nat.ne_of_lt hcount) (.inl hcount)]
      simp only [u, hmin]
      rfl
    · have hmin : min 8 (s.timing.good + 1) = 8 := by omega
      rw [State.relockMarker_rises (s := u) hlow hhigh hcount hauto harmed]
      simp only [u, hmin]
      rfl
    · have hmin : min 8 (s.timing.good + 1) = 8 := by omega
      rw [State.relockMarker_counts (s := u) hlow hhigh (by simp only [u, hcount]; decide) (.inr harmed)]
      simp only [u, hmin]
      rfl
  · intro t p gap hlow hhigh h locked notice
    let u : State := { s with timing := { s.timing with now := t } }
    rw [exec_marker_good hdue hreset hgood hkind, State.judgeMarker_of_relocking (s := u) href,
      State.relockMarker_completes (s := u) hlow hhigh h, State.completeRelock_eq]
    rfl

/-! ### What a frame event does -/

theorem State.mem_due_iff (u : State) (d : DueStep) : d ∈ allDue.filter u.isDue ↔ u.isDue d = true := by
  have hall : d ∈ allDue := by cases d <;> simp [allDue]
  simp [hall]

theorem State.frameEvent_due (s : State) : s.frameEvent.due = allDue.filter s.frameEvent.isDue := by
  rw [State.frameEvent_eq]
  generalize s.frameTold = u
  rfl

/-- A step is due at a frame event by its own rule's condition. -/
theorem State.isDue_iff (u : State) (d : DueStep) : u.isDue d = true ↔ match d with
    | .answerDeadline i => u.unit.slots[i].state = .sent ∧ u.unit.slots[i].deadline = some u.timing.frame
    | .switchFrame k => u.contexts[k].stage = .switch ∧ u.contexts[k].committed = true ∧ u.contexts[k].frame = some u.timing.frame
    | .confirmDeadline k => u.contexts[k].stage = .confirm ∧ u.contexts[k].deadline = some u.timing.frame
    | .revertFrame k => u.contexts[k].stage = .revert ∧ u.contexts[k].committed = true ∧ u.contexts[k].reverted = false
        ∧ u.contexts[k].frame = some u.timing.frame
    | .revertConfirmExpiry k => u.contexts[k].stage = .revert ∧ u.contexts[k].reverted = true
        ∧ u.contexts[k].deadline = some u.timing.frame
    | .telemetryTimeout l => (u.links[l].state = .up ∨ u.links[l].state = .faded)
        ∧ ∃ p ∈ u.links[l].profile, u.profiles[p].timeout ≤ u.monitors[l].silence
    | .tallyTimeout => u.tally.stale = false ∧ u.tally.timeout ≤ u.tally.count
    | .scanTrigger => u.scan.settings.mode = .triggered ∧ 0 < u.scan.settings.triggerPeriod.toNat
        ∧ u.timing.frame.toNat % u.scan.settings.triggerPeriod.toNat = 0 := by
  cases d with
  | telemetryTimeout l =>
    simp only [State.isDue, State.silent]
    cases u.links[l].profile <;> simp
  | _ => simp [State.isDue, and_assoc]

theorem LampMode.accepts_iff (m : LampMode) (x : TallyState) : m.accepts x = true ↔ match m with
    | .program => x = .program ∨ x = .both
    | .preview => x = .preview ∨ x = .both
    | .either => x ≠ .off := by
  cases m <;> cases x <;> decide

theorem TallyState.onProgram_iff (x : TallyState) : x.onProgram = true ↔ x = .program ∨ x = .both := by cases x <;> decide
theorem TallyState.onPreview_iff (x : TallyState) : x.onPreview = true ↔ x = .preview ∨ x = .both := by cases x <;> decide

theorem Tally.lit_iff (t : Tally) (n : Fin 16) : t.lit n = true ↔ ∃ i : Fin 64, t.inEffect[i].lamps.getLsbD n.val = true ∧
    t.lamps[n].inEffect.accepts t.applied[i] = true := by
  simp [Tally.lit, List.any_eq_true]

theorem Tally.listed_iff (t : Tally) (l : LinkId) (p : TallyState → Bool) :
    t.listed l p = true ↔ ∃ i : Fin 64, p t.applied[i] = true ∧ l ∈ t.inEffect[i].links := by
  simp [Tally.listed, List.any_eq_true]

/-- Program before preview, and neither off (R161). -/
theorem Tally.display_iff (t : Tally) (l : LinkId) :
    (t.display l = .red ↔ t.listed l TallyState.onProgram = true)
      ∧ (t.display l = .green ↔ ¬ t.listed l TallyState.onProgram = true ∧ t.listed l TallyState.onPreview = true) := by
  unfold Tally.display Tally.liveByTally
  cases t.listed l TallyState.onProgram <;> cases t.listed l TallyState.onPreview <;> simp

/-- What the frame event leaves of the blocks that it does not touch. -/
theorem State.frameEvent_rest (s : State) :
    s.frameEvent.pending = s.pending ∧ s.frameEvent.pins = s.pins ∧ s.frameEvent.mixer = s.mixer
      ∧ s.frameEvent.switchLead = s.switchLead ∧ s.frameEvent.confirmWindow = s.confirmWindow
      ∧ s.frameEvent.profiles = s.profiles ∧ s.frameEvent.plan.bands = s.plan.bands
      ∧ s.frameEvent.plan.settings = s.plan.settings ∧ s.frameEvent.scan.settings = s.scan.settings
      ∧ s.frameEvent.tally.written = s.tally.written ∧ s.frameEvent.agent.enables = s.agent.enables
      ∧ s.frameEvent.dport.line = s.dport.line
      ∧ s.frameEvent.dport.frameSlot =
          some (ownCell 1 255 (half (s.timing.frame + 1) ++ [BitVec.ofNat 8 s.timing.ref.code])) := by
  have hshell := s.frameTold_shell
  rw [State.frameEvent_eq]
  generalize s.frameTold = u at hshell
  obtain ⟨reports, flags, hadvance⟩ : ∃ reports flags, s.advanceFrame = { s with
      timing := { s.timing with frame := s.timing.frame + 1, rateInForce := s.timing.rate }
      uport := { s.uport with report := reports }
      agent := { s.agent with flags := flags } } := ⟨_, _, s.advanceFrame_parts⟩
  rw [hadvance] at hshell
  obtain ⟨⟨hpending, hpins, htiming, hdue, hmixer, hblock, hlead, hwindow, hprofiles, hsettings, hbands, hscan, hsegments, htimeout,
    htally, haction, hwritten, henables⟩, hslot, hline⟩ := hshell
  exact ⟨hpending, hpins, hmixer, hlead, hwindow, hprofiles, hbands, hsettings, hscan, hwritten, henables, hline, hslot⟩

/-- Settles O20. -/
theorem frameEventAdvances : Obligations.FrameEventAdvances := by
  refine ⟨fun s => ?_, fun s d => ?_, fun t => ⟨fun n => ?_, fun l => ?_⟩, fun s => ?_⟩
  · intro count placed shown applied staleNow told confirmed counted
    obtain ⟨reports, flags, hadvance⟩ : ∃ reports flags, s.advanceFrame = { s with
        timing := { s.timing with frame := s.timing.frame + 1, rateInForce := s.timing.rate }
        uport := { s.uport with report := reports }
        agent := { s.agent with flags := flags } } := ⟨_, _, s.advanceFrame_parts⟩
    have hplaced : { s.advanceFrame.placeFrame with
        tally := { s.advanceFrame.placeFrame.tally with count := min 255 (s.advanceFrame.placeFrame.tally.count + 1) } } = placed := by
      simp only [placed, State.placeFrame, hadvance]
      rfl
    have hshown (u : State) (on : Fin 16 → Bool) (display : LinkId → Display) : shown u on display = u.shown on display :=
      (State.shown_eq u on display).symm
    have happlied : placed.applyTally = shown applied applied.tally.lit applied.tally.display := by
      rw [hshown, State.applyTally_eq]
      have hadopt : placed.adopt = { placed with
          tally := { placed.tally with
            applied := s.tally.pendingSet, inEffect := s.tally.written
            lamps := Vector.ofFn fun n => { s.tally.lamps[n] with inEffect := s.tally.lamps[n].written } }
          links := Vector.ofFn fun l => { s.links[l] with always := s.links[l].flags.alwaysLive } } := by
        simp only [placed, State.adopt, hadvance, mapTable]
      rw [hadopt]
    have htold : s.advanceFrame.placeFrame.tallyFrame = told := by
      rw [State.tallyFrame_eq, hplaced, State.tallyTold]
      simp only [told, happlied, State.staleAction_eq, ← hshown]
      rfl
    refine ⟨?_, fun hstale hcount => ?_⟩
    · rw [State.frameEvent_eq, State.frameTold, htold, State.profilelessConfirms_eq]
      have hcounted : confirmed.countSilence = counted := by
        simp only [counted, State.countSilence, mapTable]
      change ({ confirmed.countSilence with due := allDue.filter confirmed.countSilence.isDue } : State) = _
      rw [hcounted]
    · have hlive : ¬ s.tally.stale = true := by simp [hstale]
      have happly : told = shown applied applied.tally.lit applied.tally.display := (if_neg hlive).trans (if_pos hcount)
      rw [happly, ← happlied]
  · have hdue : d ∈ s.frameEvent.due ↔ s.frameEvent.isDue d = true := by
      rw [State.frameEvent_due, State.mem_due_iff]
    generalize s.frameEvent = u at hdue
    exact hdue.trans (u.isDue_iff d)
  · exact (t.lit_iff n).trans (exists_congr fun i => and_congr_right fun _ => t.lamps[n].inEffect.accepts_iff t.applied[i])
  · simp only [Tally.display_iff, Tally.listed_iff, TallyState.onProgram_iff, TallyState.onPreview_iff]
    trivial
  · obtain ⟨hpending, hpins, hmixer, hlead, hwindow, hprofiles, hbands, hsettings, hscan, hwritten, henables, hline, hslot⟩ :=
      s.frameEvent_rest
    exact ⟨s.frameEvent_timing, hslot, s.advanceFrame_eq, s.frameEvent_due, hpending, hpins, hmixer, hlead, hwindow, hprofiles, hbands,
      hsettings, hscan, hwritten, henables, hline⟩

end Sys2Proof.Machine
end

section

/-! ### Carrier entries (R35 to R41, R78, R89) -/

namespace Sys2Proof.Machine

section
variable {s : State} {e : EntryId}

theorem State.releaseEntry_of_free (h : s.plan.carriers[e].state = .free) : s.releaseEntry e = s := by
  simp only [State.releaseEntry, if_pos h]

theorem State.releaseEntry_of_noLink (h : s.plan.carriers[e].state ≠ .free) (hlink : s.plan.carriers[e].link = none) :
    s.releaseEntry e = (s.setCarrier e {}).bumpGen := by
  simp only [State.releaseEntry, if_neg h, hlink]

/-- A release of a link's entry: the link forgets it, and its queued BACKUP turns where it so has no STANDBY. -/
theorem State.releaseEntry_of_link {l : LinkId} (h : s.plan.carriers[e].state ≠ .free) (hlink : s.plan.carriers[e].link = some l) :
    s.releaseEntry e =
      let t := ((s.setCarrier e {}).bumpGen).modLink l (·.forget e)
      if s.plan.carriers[e].state = .standby ∧ t.links[l].standby = none then t.retargetBackup l else t := by
  simp only [State.releaseEntry, if_neg h, hlink]

end

/-- A release is nothing to the agent. -/
theorem State.releaseEntry_agent (s : State) (e : EntryId) : (s.releaseEntry e).agent = s.agent := by
  unfold State.releaseEntry
  dsimp only
  repeat' split
  all_goals rfl

theorem Link.forget_standby_eq_none {r : Link} {e : EntryId} (h : r.standby = some e ∨ r.standby = none) : (r.forget e).standby = none := by
  obtain h | h := h <;> simp [Link.forget, h]

theorem State.modLink_get (s : State) (l : LinkId) (f : Link → Link) : (s.modLink l f).links[l] = f s.links[l] := by
  simp [State.modLink, State.setLink]

theorem State.modLink_modLink (s : State) (l : LinkId) (f g : Link → Link) : (s.modLink l f).modLink l g = s.modLink l (g ∘ f) := by
  simp [State.modLink, State.setLink, put_put]

/-- Settles O25. -/
theorem entryChangesAndReleases : Obligations.EntryChangesAndReleases := by
  refine ⟨fun s e => ⟨State.releaseEntry_of_free, fun hused => ?_⟩, fun s e l hlink => ?_⟩
  · cases hlink : s.plan.carriers[e].link with
    | none =>
      rw [State.releaseEntry_of_noLink hused hlink]
      exact ⟨rfl, nofun, fun _ => rfl, nofun, fun _ => rfl, rfl, rfl, rfl⟩
    | some l =>
      have hother (m : LinkId) (hm : some l = some m) : m = l := (Option.some.inj hm).symm
      rw [State.releaseEntry_of_link hused hlink]
      dsimp only
      by_cases hlost : s.plan.carriers[e].state = .standby
          ∧ (((s.setCarrier e {}).bumpGen).modLink l (·.forget e)).links[l].standby = none
      · rw [if_pos hlost]
        refine ⟨rfl, fun m hm => ?_, nofun, fun m hm _ _ => ?_, fun h => absurd hlost.1 h, rfl, rfl, rfl⟩
        · rw [hother m hm]
          rfl
        · rw [hother m hm]
          rfl
      · rw [if_neg hlost]
        refine ⟨rfl, fun m hm => ?_, nofun, fun m hm hstandby hrecorded => ?_, fun _ => rfl, rfl, rfl, rfl⟩
        · rw [hother m hm]
          rfl
        · rw [hother m hm] at hrecorded
          refine absurd ⟨hstandby, ?_⟩ hlost
          rw [State.modLink_get]
          exact Link.forget_standby_eq_none hrecorded
  · intro kept plan
    have hforget (st : CarrierState) : s.changeEntry e st =
        (((s.setCarrier e { s.plan.carriers[e] with state := st }).modLink l (·.forget e)).noteEntered e l st) := by
      simp only [State.changeEntry, hlink]
    refine ⟨?_, ?_, fun hnone => ?_⟩
    · rw [hforget, State.noteEntered, State.modLink_modLink]
      rfl
    · rw [hforget]
      rfl
    · have hkept : (((s.setCarrier e { s.plan.carriers[e] with state := .standby }).modLink l (·.forget e))).links[l].standby = none := by
        rw [State.modLink_get]
        exact Link.forget_standby_eq_none (.inr hnone)
      rw [hforget, State.noteEntered]
      dsimp only
      rw [if_pos hkept, State.modLink_modLink]
      rfl

/-! ### Management requests of the plan -/

theorem Band.bytes_eq (b : Band) : b.bytes = u8 b.valid.toNat ++ u32 b.lower ++ u32 b.upper ++ u32 b.step
    ++ u8 (b.allowN.toNat + 2 * b.allowW10.toNat + 4 * b.allowW20.toNat) := by
  have hflags : b.allowN.toNat + 2 * (b.allowW10.toNat + 2 * (b.allowW20.toNat + 2 * 0))
      = b.allowN.toNat + 2 * b.allowW10.toNat + 4 * b.allowW20.toNat := by ring
  simp only [Band.bytes, flagByte, List.foldr]
  rw [hflags]
  rfl

theorem State.bandInUse_iff (s : State) (i : Fin 4) :
    s.bandInUse i = true ↔ ∃ e : EntryId, s.plan.carriers[e].state ≠ .free ∧ s.plan.carriers[e].band = some i := by
  simp only [State.bandInUse, List.any_eq_true, Bool.and_eq_true, decide_eq_true_eq, Carrier.counted, bne_iff_ne]
  refine ⟨fun ⟨c, hmem, hc⟩ => ?_, fun ⟨e, he⟩ => ⟨_, by simp, he⟩⟩
  obtain ⟨j, hj, rfl⟩ := List.mem_iff_getElem.mp hmem
  exact ⟨⟨j, by simpa using hj⟩, by simpa using hc⟩

theorem freqOk_iff (f : Nat) : freqOk f = true ↔ 30000 ≤ f ∧ f ≤ 7125000 := by simp [freqOk]

theorem State.bandOverlaps_iff (s : State) (i : Fin 4) (b : Band) : s.bandOverlaps i b = true ↔
    ∃ j : Fin 4, j ≠ i ∧ s.plan.bands[j].valid = true ∧ b.lower ≤ s.plan.bands[j].upper ∧ s.plan.bands[j].lower ≤ b.upper := by
  simp [State.bandOverlaps, Band.overlaps, List.any_eq_true, and_assoc]

/-- The written entry, with its step clamped, or the cold-reset entry (R33). -/
theorem bandOf_eq (args : List Byte) : bandOf args =
    if flagAt args 1 0 = true then
      { valid := true, lower := u32At args 2, upper := u32At args 6, step := max 5 (min 1000 (u32At args 10))
        allowN := flagAt args 14 0, allowW10 := flagAt args 14 1, allowW20 := flagAt args 14 2 }
    else { valid := false, lower := 0, upper := 0, step := 25, allowN := false, allowW10 := false, allowW20 := false } := rfl

/-- The edges that BAND WRITE refuses (R33). -/
theorem badEdges_iff (b : Band) : ((!freqOk b.lower) = true ∨ (!freqOk b.upper) = true ∨ b.upper ≤ b.lower) ↔
    ¬ (30000 ≤ b.lower ∧ b.lower ≤ 7125000 ∧ 30000 ≤ b.upper ∧ b.upper ≤ 7125000 ∧ b.lower < b.upper) := by
  simp only [Bool.not_eq_true', ← Bool.not_eq_true, freqOk_iff]
  omega

/-- Settles O26. -/
theorem bandsAndCarriersByRequest : Obligations.BandsAndCarriersByRequest := by
  refine ⟨fun s r h => ?_, fun s r h hlen => ?_⟩
  · intro fields
    have hfields : fields = Band.bytes := funext fun b => b.bytes_eq.symm
    clear_value fields
    subst hfields
    have hread (hcode : r.code = 0x10) (hlen : 1 ≤ r.args.length) : hasCode 0x10 r = true := hasCode_of_args r 0x10 1 hcode (by decide) rfl hlen
    have hwrite (hcode : r.code = 0x11) (hlen : 15 ≤ r.args.length) : hasCode 0x11 r = true := hasCode_of_args r 0x11 15 hcode (by decide) rfl hlen
    refine ⟨fun i hcode hlen hi => exec_answer h rfl (hread hcode hlen) ?_ rfl, fun hcode hlen hi => exec_answer h rfl (hread hcode hlen) ?_ rfl,
      fun hcode hlen hi => exec_answer h rfl (hwrite hcode hlen) ?_ rfl, fun i hcode hlen hi => ?_⟩
    · rw [State.bandRead, indexOf?_of_eq hi]
    · rw [State.bandRead, indexOf?_of_le hi]
    · rw [State.bandWrite, indexOf?_of_le hi]
    · intro b inUse edges shares
      have hb : bandOf r.args = b := rfl
      have hrow := hwrite hcode hlen
      refine ⟨fun huse => exec_answer h rfl hrow ?_ rfl, fun hfree hvalid hedges => exec_answer h rfl hrow ?_ rfl,
        fun hfree hvalid hedges hshares => exec_answer h rfl hrow ?_ rfl, fun hfree hok => ?_⟩
      · rw [State.bandWrite, indexOf?_of_eq hi]
        exact if_pos ((s.bandInUse_iff i).mpr huse)
      · rw [State.bandWrite, indexOf?_of_eq hi]
        exact (if_neg (mt (s.bandInUse_iff i).mp hfree)).trans (if_pos ⟨hvalid, (badEdges_iff b).mpr hedges⟩)
      · rw [State.bandWrite, indexOf?_of_eq hi]
        exact (if_neg (mt (s.bandInUse_iff i).mp hfree)).trans ((if_neg fun hbad => (badEdges_iff b).mp hbad.2 hedges).trans
          (if_pos ⟨hvalid, (s.bandOverlaps_iff i b).mpr hshares⟩))
      · refine exec_answer (f := State.bandWrite) h rfl hrow ?_ rfl
        rw [State.bandWrite, indexOf?_of_eq hi]
        exact (if_neg (mt (s.bandInUse_iff i).mp hfree)).trans
          ((if_neg fun hbad => (badEdges_iff b).mp hbad.2 (hok hbad.1).1).trans
            (if_neg fun hbad => (hok hbad.1).2 ((s.bandOverlaps_iff i b).mp hbad.2)))
  · have hread (hcode : r.code = 0x12) : hasCode 0x12 r = true := hasCode_of_args r 0x12 1 hcode (by decide) rfl hlen
    have hunblock (hcode : r.code = 0x14) : hasCode 0x14 r = true := hasCode_of_args r 0x14 1 hcode (by decide) rfl hlen
    refine ⟨fun hcode hi => exec_answer h rfl (hread hcode) ?_ rfl, fun hcode hi => exec_answer h rfl (hunblock hcode) ?_ rfl,
      fun e hi => ⟨fun hcode => exec_answer h rfl (hread hcode) ?_ rfl, fun hcode hstate => exec_answer h rfl (hunblock hcode) ?_ rfl,
        fun hcode hstate => exec_answer h rfl (hunblock hcode) ?_ ?_⟩⟩
    · rw [State.carrierRead, indexOf?_of_le hi]
    · rw [State.unblock, indexOf?_of_le hi]
    · rw [State.carrierRead, indexOf?_of_eq hi]
      simp [Carrier.bytes, flagByte, index, u8]
    · rw [State.unblock, indexOf?_of_eq hi]
      exact if_neg hstate
    · rw [State.unblock, indexOf?_of_eq hi]
      exact if_pos hstate
    · rw [State.releaseEntry_agent]

end Sys2Proof.Machine
end

section

/-! ### Coordination requests of management (R44, R45, R82) -/

namespace Sys2Proof.Machine

/-- Is a place free for a request of another filer than the contexts (R45)? -/
abbrev State.otherPlace (s : State) : Prop :=
  s.engine.queue.length < 8 ∧ (s.engine.queue.filter fun q => match q.filer with
    | .context _ => false
    | _ => true).length < 4

theorem State.coordPlace_management (s : State) (id : Nat) : s.coordPlace (.management id) = true ↔ s.otherPlace := by
  have hfilter : (s.engine.queue.filter fun q => match q.filer with
      | .context _ => false
      | .management _ | .auto => true) = s.engine.queue.filter fun q => match q.filer with
      | .context _ => false
      | _ => true := List.filter_congr fun q _ => by cases q.filer <;> rfl
  rw [State.coordPlace, Bool.and_eq_true, decide_eq_true_eq, decide_eq_true_eq]
  exact and_congr_right fun _ => Iff.of_eq (congrArg (fun l => List.length l < 4) hfilter)

/-- A request of management that finds a place waits for its end (R45, R47). -/
theorem State.fileCoord_of_place {s : State} {r : Request} {q : CoordRequest} {id : Nat} (hq : q.filer = .management id)
    (h : s.otherPlace) : s.fileCoord r q = (s.placeCoord q).defer r := by
  rw [State.fileCoord, if_pos]
  rw [hq]
  exact (s.coordPlace_management id).mpr h

theorem State.fileCoord_of_full {s : State} {r : Request} {q : CoordRequest} {id : Nat} (hq : q.filer = .management id)
    (h : ¬ s.otherPlace) : s.fileCoord r q = s.answer r .queueFull [] := by
  rw [State.fileCoord, if_neg]
  rw [hq]
  exact mt (s.coordPlace_management id).mp h

/-- A row that files a coordination request of management. -/
theorem exec_fileCoord {c : Instr} {row : Request → Bool} {f : State → Request → State} {s : State} {r : Request} {q : CoordRequest}
    (h : s.Takes r) (hexec : exec c s = .next (s.finishFrame.take row f)) (hrow : row r = true) (hq : q.filer = .management r.id)
    (hf : f s r = s.fileCoord r q) :
    (s.otherPlace → exec c s = .next ((s.placeCoord q).defer r)) ∧ (¬ s.otherPlace → exec c s = .next (s.answer r .queueFull [])) :=
  ⟨fun hplace => exec_defer h hexec hrow (hf.trans (State.fileCoord_of_place hq hplace)) rfl,
    fun hfull => exec_answer h hexec hrow (hf.trans (State.fileCoord_of_full hq hfull)) rfl⟩

theorem CarrierClass.ofCode?_of_lt {n : Nat} (h : 2 < n) : CarrierClass.ofCode? n = none := by
  unfold CarrierClass.ofCode?
  split <;> first | rfl | omega

theorem freqOk_of_range {f : Nat} (hlow : 30000 ≤ f) (hhigh : f ≤ 7125000) : freqOk f = true := (freqOk_iff f).mpr ⟨hlow, hhigh⟩

theorem freqOk_of_outside {f : Nat} (h : f < 30000 ∨ 7125000 < f) : freqOk f = false := by
  rw [← Bool.not_eq_true, freqOk_iff]
  omega

/-- A target that CHECK and SET BACKUP do not take: a code that is none or BACKUP, or EXPLICIT out of range. -/
theorem targetOk_of_bad {f n : Nat} (h : 2 ≤ n ∨ n = 0 ∧ (f < 30000 ∨ 7125000 < f)) : targetOk (Target.ofCode? f n) = false := by
  obtain h | ⟨rfl, hf⟩ := h
  · match n, h with
    | 2, _ => rfl
    | _ + 3, _ => rfl
  · exact freqOk_of_outside hf

/-- A target that they take: NEXT_CANDIDATE, or EXPLICIT in range. -/
theorem ofCode?_of_good {f n : Nat} {t : Target} (h : n = 1 ∧ t = .nextCandidate ∨ n = 0 ∧ t = .explicit f ∧ 30000 ≤ f ∧ f ≤ 7125000) :
    Target.ofCode? f n = some t ∧ targetOk (some t) = true := by
  obtain ⟨rfl, rfl⟩ | ⟨rfl, rfl, hlow, hhigh⟩ := h
  · exact ⟨rfl, rfl⟩
  · exact ⟨rfl, freqOk_of_range hlow hhigh⟩

theorem State.checkLink_of_bad {s : State} {r : Request} {l : LinkId} (h : targetOk (Target.ofCode? (u32At r.args 2) (u8At r.args 1)) = false) :
    s.checkLink r l = s.answer r .badValue [] := by
  rw [State.checkLink]
  cases ht : Target.ofCode? (u32At r.args 2) (u8At r.args 1) with
  | none => rfl
  | some t => exact if_pos (by simpa [ht] using h)

theorem State.checkBlocked_of_bad {s : State} {r : Request}
    (h : u8At r.args 1 ≠ 0 ∨ (u32At r.args 2 < 30000 ∨ 7125000 < u32At r.args 2) ∨ 2 < u8At r.args 6) :
    s.checkBlocked r = s.answer r .badValue [] := by
  rw [State.checkBlocked]
  cases hcls : CarrierClass.ofCode? (u8At r.args 6) with
  | none => rfl
  | some cls =>
    have hclass : ¬ 2 < u8At r.args 6 := fun hlt => by simp [CarrierClass.ofCode?_of_lt hlt] at hcls
    cases ht : Target.ofCode? (u32At r.args 2) (u8At r.args 1) with
    | none => rfl
    | some t =>
      cases t with
      | explicit f =>
        obtain ⟨hzero, rfl⟩ : u8At r.args 1 = 0 ∧ u32At r.args 2 = f := by
          unfold Target.ofCode? at ht
          split at ht <;> simp_all
        exact if_neg (by simp [freqOk_of_outside (by tauto : u32At r.args 2 < 30000 ∨ 7125000 < u32At r.args 2)])
      | nextCandidate => rfl
      | backup => rfl

theorem State.check_of_link {s : State} {r : Request} {l : LinkId} (h : u8At r.args 0 = l.val) : s.check r = s.checkLink r l := by
  have hnot : u8At r.args 0 ≠ 255 := by omega
  rw [State.check, if_neg hnot, indexOf?_of_eq h]

/-- Settles O27. -/
theorem coordinationRequestsAreFiled : Obligations.CoordinationRequestsAreFiled := by
  intro s r h place filed
  have hblock (hcode : r.code = 0x13) (hlen : 5 ≤ r.args.length) : hasCode 0x13 r = true := hasCode_of_args r 0x13 5 hcode (by decide) rfl hlen
  have hcheck (hcode : r.code = 0x38) (hlen : 7 ≤ r.args.length) : hasCode 0x38 r = true := hasCode_of_args r 0x38 7 hcode (by decide) rfl hlen
  have hbackup (hcode : r.code = 0x33) (hlen : 6 ≤ r.args.length) : hasCode 0x33 r = true := hasCode_of_args r 0x33 6 hcode (by decide) rfl hlen
  refine ⟨fun f cls hcode hlen hf hlow hhigh hcls => ?_, fun f cls hcode hlen hlink htarget hf hlow hhigh hcls => ?_,
    ⟨fun hcode hlen hbad => ?_, fun hcode hlen hlink hbad => ?_, fun hcode hlen hlink hnone => ?_, fun hcode hlen hlink => ?_,
      fun hcode hlen hlink hbad => ?_, fun hcode hlen hlink hbad => ?_⟩,
    fun l t hl ht => ⟨fun hcode hlen hstate => ?_, fun hcode hlen hstate => ?_, fun hcode hlen hunused hidle => ?_, fun hcode hlen hstate => ?_⟩⟩
  · refine exec_fileCoord (f := State.block) h rfl (hblock hcode hlen) rfl ?_
    rw [State.block, hcls, CarrierClass.ofCode?_code, hf]
    exact if_pos (freqOk_of_range hlow hhigh)
  · refine exec_fileCoord (f := State.check) h rfl (hcheck hcode hlen) rfl ?_
    rw [State.check, if_pos hlink, State.checkBlocked, hcls, CarrierClass.ofCode?_code, htarget, hf]
    exact if_pos (freqOk_of_range hlow hhigh)
  · refine exec_answer (f := State.block) h rfl (hblock hcode hlen) ?_ rfl
    rw [State.block]
    cases hcls : CarrierClass.ofCode? (u8At r.args 4) with
    | none => rfl
    | some cls =>
      have hclass : ¬ 2 < u8At r.args 4 := fun hlt => by simp [CarrierClass.ofCode?_of_lt hlt] at hcls
      exact if_neg (by simp [freqOk_of_outside (hbad.resolve_right hclass)])
  · refine exec_answer (f := State.check) h rfl (hcheck hcode hlen) ?_ rfl
    rw [State.check, if_pos hlink, State.checkBlocked_of_bad hbad]
  · refine exec_answer (f := State.check) h rfl (hcheck hcode hlen) ?_ rfl
    rw [State.check, if_neg hnone, indexOf?_of_le hlink]
  · refine exec_answer (f := State.setBackup) h rfl (hbackup hcode hlen) ?_ rfl
    rw [State.setBackup, indexOf?_of_le hlink]
  · refine exec_answer (f := State.check) h rfl (hcheck hcode hlen) ?_ rfl
    rw [State.check_of_link (l := ⟨_, hlink⟩) rfl, State.checkLink_of_bad (targetOk_of_bad hbad)]
  · refine exec_answer (f := State.setBackup) h rfl (hbackup hcode hlen) ?_ rfl
    have hlink' : indexOf? 80 (u8At r.args 0) = some ⟨u8At r.args 0, hlink⟩ := indexOf?_of_eq rfl
    have hnone := targetOk_of_bad hbad
    rw [State.setBackup, hlink', targetArg]
    cases ht : Target.ofCode? (u32At r.args 2) (u8At r.args 1) with
    | none => rfl
    | some t => exact if_pos (by simpa [ht] using hnone)
  · obtain ⟨hof, hok⟩ := ofCode?_of_good ht
    refine exec_fileCoord (f := State.check) h rfl (hcheck hcode hlen) rfl ?_
    rw [State.check_of_link hl, State.checkLink, hof]
    exact (if_neg (by simp [hok])).trans (if_neg hstate)
  · obtain ⟨hof, hok⟩ := ofCode?_of_good ht
    refine exec_answer (f := State.check) h rfl (hcheck hcode hlen) ?_ rfl
    rw [State.check_of_link hl, State.checkLink, hof]
    exact (if_neg (by simp [hok])).trans (if_pos hstate)
  · obtain ⟨hof, hok⟩ := ofCode?_of_good ht
    refine exec_fileCoord (f := State.setBackup) h rfl (hbackup hcode hlen) rfl ?_
    rw [State.setBackup, indexOf?_of_eq hl, targetArg, hof]
    exact (if_neg (by simp [hok])).trans (if_neg (not_or.mpr ⟨hunused, hidle⟩))
  · obtain ⟨hof, hok⟩ := ofCode?_of_good ht
    refine exec_answer (f := State.setBackup) h rfl (hbackup hcode hlen) ?_ rfl
    rw [State.setBackup, indexOf?_of_eq hl, targetArg, hof]
    exact (if_neg (by simp [hok])).trans (if_pos hstate)

end Sys2Proof.Machine
end

section

/-! ### The coordination engine (R46, R47, R52, R63 to R69) -/

namespace Sys2Proof.Machine

theorem exec_coordRequestStart {s : State} (hdue : s.due = []) : exec .coordRequestStart s = .next s.startRequest :=
  State.settled_of_idle hdue State.startRequest

theorem exec_attemptComplete {s : State} (hdue : s.due = []) : exec .attemptComplete s = .next s.completeAttempt :=
  State.settled_of_idle hdue State.completeAttempt

theorem State.freeEntry_eq_none_iff (s : State) : s.freeEntry = none ↔ ∀ e : EntryId, s.plan.carriers[e].state ≠ .free := by
  simp [State.freeEntry]

/-- The FREE entry of an admission is the lowest-numbered one (R37). -/
theorem State.freeEntry_eq_some_iff (s : State) (e : EntryId) : s.freeEntry = some e ↔
    s.plan.carriers[e].state = .free ∧ ∀ j : EntryId, j < e → s.plan.carriers[j].state ≠ .free := by
  rw [State.freeEntry, find_finRange_iff]
  simp

theorem State.mem_linkFreqs (s : State) (link : Option LinkId) (f : Nat) : (s.linkFreqs link).contains f = true ↔
    ∃ (e : EntryId) (l : LinkId), link = some l ∧ s.plan.carriers[e].state ≠ .free ∧ s.plan.carriers[e].link = some l
      ∧ s.plan.carriers[e].freq = f := by
  cases link with
  | none => simp [State.linkFreqs]
  | some l => simp [State.linkFreqs, Carrier.counted, and_assoc]

theorem State.linkGone_iff (s : State) (link : Option LinkId) : s.linkGone link = true ↔
    ∃ l : LinkId, link = some l ∧ (s.links[l].state = .unused ∨ s.links[l].state = .idle) := by
  cases link <;> simp [State.linkGone]

/-! #### The order of visits (R66) -/

theorem findIdx?_eq_none_of_absent {list : List Nat} {f : Nat} (h : f ∉ list) : list.findIdx? (· = f) = none := by
  rw [List.findIdx?_eq_none_iff]
  intro g hg
  exact decide_eq_false fun hgf : g = f => h (hgf ▸ hg)

theorem visitOrder_of_absent {list : List Nat} {f : Nat} (h : f ∉ list) : visitOrder list (some f) = list := by
  simp [visitOrder, findIdx?_eq_none_of_absent h]

theorem visitOrder_of_first {before after : List Nat} {f : Nat} (h : f ∉ before) :
    visitOrder (before ++ f :: after) (some f) = after ++ before ++ [f] := by
  have hfirst : (before ++ f :: after).findIdx? (· = f) = some before.length := by
    simp [List.findIdx?_append, findIdx?_eq_none_of_absent h, List.findIdx?_cons]
  simp [visitOrder, hfirst, List.take_append, List.drop_append, List.take_of_length_le, List.drop_of_length_le]

theorem mem_visitOrder {list : List Nat} {active : Option Nat} {g : Nat} (h : g ∈ visitOrder list active) : g ∈ list := by
  unfold visitOrder at h
  split at h
  · exact h
  · split at h
    · exact h
    · obtain h | h := List.mem_append.mp h
      · exact List.mem_of_mem_drop h
      · exact List.mem_of_mem_take h

/-! #### The start of a request (R46, R65, R67) -/

section
variable {s : State} {q : CoordRequest} {rest : List CoordRequest}

theorem State.startRequest_of_full (hqueue : s.engine.queue = q :: rest) (hrun : s.engine.run = none)
    (hfull : s.freeEntry = none) (hkind : q.kind ≠ .check) : s.startRequest = s.endRequest q .tableFull none none 0 := by
  simp only [State.startRequest, hqueue, hrun, if_pos (And.intro hfull hkind)]

theorem State.startRequest_of_gone (hqueue : s.engine.queue = q :: rest) (hrun : s.engine.run = none)
    (hfree : s.freeEntry ≠ none) (hkind : q.kind = .pickBackup) (hgone : s.linkGone q.link = true) :
    s.startRequest = s.endRequest q .badState none none 0 := by
  simp only [State.startRequest, hqueue, hrun, if_neg (fun h : s.freeEntry = none ∧ q.kind ≠ .check => hfree h.1),
    if_pos (And.intro hkind hgone)]

/-- The two entry tests of R46 pass. -/
structure State.Admissible (s : State) (q : CoordRequest) : Prop where
  entry : ¬ (s.freeEntry = none ∧ q.kind ≠ .check)
  link : ¬ (q.kind = .pickBackup ∧ s.linkGone q.link = true)

theorem State.startRequest_of_explicit (hqueue : s.engine.queue = q :: rest) (hrun : s.engine.run = none) (h : s.Admissible q)
    {f : Nat} (htarget : q.target = .explicit f) :
    s.startRequest = s.setRun { cls := s.requestClass q, list := [], visits := [], tries := 1, lastTry := none
                                attempt := s.newAttempt f 1 (s.requestClass q) q.forBlocked } := by
  simp only [State.startRequest, hqueue, hrun, if_neg h.entry, if_neg h.link, htarget]

theorem State.startRequest_of_search (hqueue : s.engine.queue = q :: rest) (hrun : s.engine.run = none) (h : s.Admissible q)
    {l : LinkId} (htarget : q.target = .nextCandidate) (hlink : q.link = some l) :
    s.startRequest = s.searchOn q (s.requestClass q) s.links[l].candidates (visitOrder s.links[l].candidates (s.activeFreq l)) 0 none := by
  simp only [State.startRequest, hqueue, hrun, if_neg h.entry, if_neg h.link, htarget]
  simp only [hlink]

/-- Every visit left is of a frequency of the link's own carriers, so the request ends (R67). -/
theorem State.searchOn_of_none {cls : CarrierClass} {list visits : List Nat} {tries : Nat} {last : Option TryRecord}
    (h : ∀ g ∈ visits, (s.linkFreqs q.link).contains g = true) :
    s.searchOn q cls list visits tries last = s.endRequest q .noCandidate none last tries := by
  have hdrop : (visits.dropWhile fun f => (s.linkFreqs q.link).contains f) = [] := List.dropWhile_eq_nil_iff.mpr h
  simp only [State.searchOn, hdrop]

/-- The first visit of no frequency of the link's own carriers is tried (R67). -/
theorem State.searchOn_of_visit {cls : CarrierClass} {list own visits : List Nat} {tries f : Nat} {last : Option TryRecord}
    (hown : ∀ g ∈ own, (s.linkFreqs q.link).contains g = true) (hf : ¬ (s.linkFreqs q.link).contains f = true) :
    s.searchOn q cls list (own ++ f :: visits) tries last =
      s.setRun { cls, list, visits, tries := tries + 1, lastTry := last, attempt := s.newAttempt f 1 cls q.forBlocked } := by
  have hdrop : ((own ++ f :: visits).dropWhile fun f => (s.linkFreqs q.link).contains f) = f :: visits := by
    rw [List.dropWhile_append_of_pos hown]
    exact List.dropWhile_cons_of_neg hf
  simp only [State.searchOn, hdrop]

end

/-- Settles O28. -/
theorem coordinationStarts : Obligations.CoordinationStarts := by
  refine ⟨fun s q rest hdue hqueue hrun => ?_, ⟨rfl, rfl, rfl, rfl, rfl, rfl, rfl⟩, fun _ => rfl, fun _ _ => visitOrder_of_absent,
    fun _ _ _ => visitOrder_of_first⟩
  intro cls attempt started admissible dropped told
  have htold (res : Result) : told res = s.endRequest q res none none 0 := by
    simp only [told, dropped, State.endRequest, hqueue]
    cases q.filer with
    | auto => cases q.link <;> rfl
    | _ => rfl
  have hadmissible (h : admissible) : s.Admissible q := by
    obtain ⟨hentry, hlink⟩ := h
    refine ⟨fun ⟨hfull, hkind⟩ => ?_, fun ⟨hkind, hgone⟩ => ?_⟩
    · obtain ⟨e, he⟩ := hentry.resolve_right hkind
      exact s.freeEntry_eq_none_iff.mp hfull e he
    · obtain ⟨l, hl, hstate⟩ := (s.linkGone_iff q.link).mp hgone
      obtain ⟨hunused, hidle⟩ := hlink hkind l hl
      exact hstate.elim hunused hidle
  have hown {l : LinkId} (hl : q.link = some l) {g : Nat} (h : ∃ e : EntryId, s.plan.carriers[e].state ≠ .free
      ∧ s.plan.carriers[e].link = some l ∧ s.plan.carriers[e].freq = g) : (s.linkFreqs q.link).contains g = true := by
    obtain ⟨e, hstate, hlink, hfreq⟩ := h
    exact (s.mem_linkFreqs q.link g).mpr ⟨e, l, hl, hstate, hlink, hfreq⟩
  rw [exec_coordRequestStart hdue]
  simp only [htold]
  refine ⟨fun hkind hfull => ?_, fun l hfree hkind hl hgone => ?_, fun l h htarget hl hskip => ?_, fun f h htarget => ?_,
    fun l f own visits h htarget hl horder hskip hf => ?_⟩
  · rw [State.startRequest_of_full hqueue hrun (s.freeEntry_eq_none_iff.mpr hfull) hkind]
  · have hentry : s.freeEntry ≠ none := fun hnone => by
      obtain ⟨e, he⟩ := hfree
      exact s.freeEntry_eq_none_iff.mp hnone e he
    rw [State.startRequest_of_gone hqueue hrun hentry hkind ((s.linkGone_iff q.link).mpr ⟨l, hl, hgone⟩)]
  · rw [State.startRequest_of_search hqueue hrun (hadmissible h) htarget hl,
      State.searchOn_of_none fun g hg => hown hl (hskip g (mem_visitOrder hg))]
  · rw [State.startRequest_of_explicit hqueue hrun (hadmissible h) htarget]
    rfl
  · have hnew : ¬ (s.linkFreqs q.link).contains f = true := fun hmem => by
      obtain ⟨e, m, hm, hstate, hlink, hfreq⟩ := (s.mem_linkFreqs q.link f).mp hmem
      rw [hl] at hm
      cases hm
      exact hf e hstate hlink hfreq
    rw [State.startRequest_of_search hqueue hrun (hadmissible h) htarget hl, State.activeFreq, horder,
      State.searchOn_of_visit (fun g hg => hown hl (hskip g hg)) hnew]
    rfl

/-! #### The completion of an attempt (R37, R63 to R69) -/

section
variable {s : State} {q : CoordRequest} {rest : List CoordRequest} {x : Run}

/-- The plan or the settings have changed since the attempt began (R63). -/
abbrev State.overtaken (s : State) (t : Attempt) : Prop := t.gen ≠ s.plan.gen ∨ t.stale = true

theorem State.completeAttempt_of_repeat (hqueue : s.engine.queue = q :: rest) (hrun : s.engine.run = some x)
    (h : s.overtaken x.attempt) (hcount : x.attempt.count < 3) : s.completeAttempt =
      s.setRun { x with attempt := s.newAttempt x.attempt.candidate (x.attempt.count + 1) x.cls q.forBlocked } := by
  simp only [State.completeAttempt, hqueue, hrun, if_pos h, if_pos hcount]

theorem State.completeAttempt_of_busy (hqueue : s.engine.queue = q :: rest) (hrun : s.engine.run = some x)
    (h : s.overtaken x.attempt) (hcount : 3 ≤ x.attempt.count) :
    s.completeAttempt = s.tryFailed q x (tryRecord x.attempt .planBusy) := by
  simp only [State.completeAttempt, hqueue, hrun, if_pos h, if_neg (Nat.not_lt.mpr hcount)]

theorem State.completeAttempt_of_fail (hqueue : s.engine.queue = q :: rest) (hrun : s.engine.run = some x)
    (h : ¬ s.overtaken x.attempt) (hstage : (evaluate x.attempt).stage ≠ 0) :
    s.completeAttempt = s.tryFailed q x (tryRecord x.attempt .fail) := by
  simp only [State.completeAttempt, hqueue, hrun, if_neg h, if_neg hstage]

theorem State.completeAttempt_of_pass (hqueue : s.engine.queue = q :: rest) (hrun : s.engine.run = some x)
    (h : ¬ s.overtaken x.attempt) (hstage : (evaluate x.attempt).stage = 0) : s.completeAttempt = s.tryPassed q x := by
  simp only [State.completeAttempt, hqueue, hrun, if_neg h, if_pos hstage]

theorem State.tryFailed_of_explicit {f : Nat} (htarget : q.target = .explicit f) (y : TryRecord) :
    s.tryFailed q x y = s.endRequest q y.result.asResult none (some y) x.tries := by
  simp only [State.tryFailed, htarget]

theorem State.tryFailed_of_search (htarget : q.target = .nextCandidate) (y : TryRecord) :
    s.tryFailed q x y = s.searchOn q x.cls x.list x.visits x.tries (some y) := by
  simp only [State.tryFailed, htarget]

theorem State.tryPassed_of_check (hkind : q.kind = .check) :
    s.tryPassed q x = s.endRequest q .pass none (some (tryRecord x.attempt .pass)) x.tries := by
  simp only [State.tryPassed, if_pos hkind]

theorem State.tryPassed_of_gone (hkind : q.kind = .pickBackup) (hgone : s.linkGone q.link = true) :
    s.tryPassed q x = s.endRequest q .badState none (some (tryRecord x.attempt .pass)) x.tries := by
  have hcheck : q.kind ≠ .check := by simp [hkind]
  simp only [State.tryPassed, if_neg hcheck, if_pos (And.intro hkind hgone)]

theorem State.tryPassed_of_full (hcheck : q.kind ≠ .check) (hlink : ¬ (q.kind = .pickBackup ∧ s.linkGone q.link = true))
    (hfull : s.freeEntry = none) : s.tryPassed q x = s.endRequest q .tableFull none (some (tryRecord x.attempt .pass)) x.tries := by
  simp only [State.tryPassed, if_neg hcheck, if_neg hlink, hfull]

theorem State.tryPassed_of_free (hcheck : q.kind ≠ .check) (hlink : ¬ (q.kind = .pickBackup ∧ s.linkGone q.link = true))
    {e : EntryId} (hfree : s.freeEntry = some e) : s.tryPassed q x =
      (s.admitCarrier q e x.cls (evaluate x.attempt)).endRequest q .pass (some e) (some (tryRecord x.attempt .pass)) x.tries := by
  simp only [State.tryPassed, if_neg hcheck, if_neg hlink, hfree]

end

theorem State.releaseEntry_engine (s : State) (e : EntryId) : (s.releaseEntry e).engine = s.engine := by
  unfold State.releaseEntry
  dsimp only
  repeat' split
  all_goals rfl

theorem State.releaseOpt_engine (s : State) (e : Option EntryId) : (s.releaseOpt e).engine = s.engine := by
  cases e with
  | none => rfl
  | some e => exact s.releaseEntry_engine e

/-- Settles O29. -/
theorem attemptCompletes : Obligations.AttemptCompletes := by
  refine ⟨fun y gen e tries => ?_, fun p => rfl, fun s q rest x hdue hqueue hrun => ?_⟩
  · obtain ⟨result, stage, requested, checked, snapped, margin, attempts, offence⟩ := y
    cases result <;> simp [recordBytes, TryResult.asResult, Result.code, flagByte, index, u8]
  · intro t o changed fresh passed failed busy handed admitted gone lowest own
    have hhanded (u : State) (hu : u.engine.queue = q :: rest) (res : Result) (e : Option EntryId) (y : TryRecord) :
        handed u res e y = u.endRequest q res e (some y) x.tries := by
      simp only [handed, State.endRequest, hu]
      cases q.filer with
      | auto => cases e <;> cases q.link <;> rfl
      | _ => rfl
    have hown (f : Nat) : own f ↔ (s.linkFreqs q.link).contains f = true := (s.mem_linkFreqs q.link f).symm
    have hgone : gone ↔ q.kind = .pickBackup ∧ s.linkGone q.link = true := and_congr_right fun _ => (s.linkGone_iff q.link).symm
    have hpassed : passed = tryRecord x.attempt .pass := rfl
    have hfailed : failed = tryRecord x.attempt .fail := rfl
    have hbusy : busy = tryRecord x.attempt .planBusy := rfl
    have hadmit (hchanged : ¬ changed) (hstage : o.stage = 0) (e : EntryId) (hlowest : lowest e) (hcheck : q.kind ≠ .check)
        (hlink : ¬ (q.kind = .pickBackup ∧ s.linkGone q.link = true)) : s.completeAttempt =
          (s.admitCarrier q e x.cls (evaluate x.attempt)).endRequest q .pass (some e) (some (tryRecord x.attempt .pass)) x.tries := by
      rw [State.completeAttempt_of_pass hqueue hrun hchanged hstage, State.tryPassed_of_free hcheck hlink
        ((s.freeEntry_eq_some_iff e).mpr hlowest)]
    have hsearch (y : TryRecord) (htarget : q.target = .nextCandidate)
        (hy : changed ∧ 3 ≤ t.count ∧ y = busy ∨ ¬ changed ∧ o.stage ≠ 0 ∧ y = failed) :
        s.completeAttempt = s.searchOn q x.cls x.list x.visits x.tries (some y) := by
      obtain ⟨hchanged, hcount, rfl⟩ | ⟨hchanged, hstage, rfl⟩ := hy
      · rw [State.completeAttempt_of_busy hqueue hrun hchanged hcount, State.tryFailed_of_search htarget, hbusy]
      · rw [State.completeAttempt_of_fail hqueue hrun hchanged hstage, State.tryFailed_of_search htarget, hfailed]
    rw [exec_attemptComplete hdue]
    refine ⟨fun hchanged hcount => ?_, fun f htarget => ⟨fun hchanged hcount => ?_, fun hchanged hstage => ?_⟩,
      fun y htarget hy => ⟨fun before after f hvisits hbefore hf => ?_, fun hall => ?_⟩,
      fun hchanged hstage => ⟨fun hkind => ?_, fun hcheck hlink hfull => ?_, fun hlink => ?_, fun e hlowest => ⟨fun hkind => ?_, fun hkind => ?_,
        fun l hkind hlink hl => ?_⟩⟩⟩
    · rw [State.completeAttempt_of_repeat hqueue hrun hchanged hcount]
      rfl
    · rw [State.completeAttempt_of_busy hqueue hrun hchanged hcount, State.tryFailed_of_explicit htarget, hhanded s hqueue, hbusy]
      rfl
    · rw [State.completeAttempt_of_fail hqueue hrun hchanged hstage, State.tryFailed_of_explicit htarget, hhanded s hqueue, hfailed]
      rfl
    · rw [hsearch y htarget hy, hvisits, State.searchOn_of_visit (fun g hg => (hown g).mp (hbefore g hg)) (mt (hown f).mpr hf)]
      rfl
    · rw [hsearch y htarget hy, State.searchOn_of_none fun g hg => (hown g).mp (hall g hg), hhanded s hqueue]
    · rw [State.completeAttempt_of_pass hqueue hrun hchanged hstage, State.tryPassed_of_check hkind, hhanded s hqueue, hpassed]
    · rw [State.completeAttempt_of_pass hqueue hrun hchanged hstage, State.tryPassed_of_full hcheck (mt hgone.mpr hlink)
        (s.freeEntry_eq_none_iff.mpr hfull), hhanded s hqueue, hpassed]
    · obtain ⟨hkind, hlinkGone⟩ := hgone.mp hlink
      rw [State.completeAttempt_of_pass hqueue hrun hchanged hstage, State.tryPassed_of_gone hkind hlinkGone, hhanded s hqueue, hpassed]
    · rw [hadmit hchanged hstage e hlowest (by simp [hkind]) (by simp [hkind]), hhanded (admitted e .reserved) hqueue, hpassed]
      simp only [State.admitCarrier, admittedCarrier, admitted, hkind]
      rfl
    · rw [hadmit hchanged hstage e hlowest (by simp [hkind]) (by simp [hkind]), hhanded (admitted e .blocked) hqueue, hpassed]
      simp only [State.admitCarrier, admittedCarrier, admitted, hkind]
      rfl
    · have hengine : (State.releaseOpt { admitted e .standby with links := put s.links l { s.links[l] with standby := some e } }
          s.links[l].standby).engine.queue = q :: rest := by
        rw [State.releaseOpt_engine]
        exact hqueue
      rw [hadmit hchanged hstage e hlowest (by simp [hkind]) (mt hgone.mpr hlink), hhanded _ hengine, hpassed]
      simp only [State.admitCarrier, admittedCarrier, admitted, hkind, hl]
      rfl

end Sys2Proof.Machine
end

section

/-! ### One check attempt (04) -/

namespace Sys2Proof.Machine

theorem Band.holds_iff (b : Band) (f : Nat) : b.holds f = true ↔ b.valid = true ∧ b.lower ≤ f ∧ f ≤ b.upper := by
  simp [Band.holds, and_assoc]

theorem findBand_eq_some_iff (bands : Vector Band 4) (f : Nat) (i : Fin 4) : findBand bands f = some i ↔
    bands[i].holds f = true ∧ ∀ j : Fin 4, j < i → bands[j].holds f = false := by
  rw [findBand, find_finRange_iff]

theorem findBand_eq_none_iff (bands : Vector Band 4) (f : Nat) : findBand bands f = none ↔ ∀ i : Fin 4, ¬ bands[i].holds f = true := by
  simp [findBand]

/-- The snap is the nearest point of the raster, an exact half down (R55). -/
theorem snap_nearest {b : Band} {f : Nat} (hstep : 0 < b.step) (hlow : b.lower ≤ f) :
    (∃ k : Nat, snap b f = b.lower + k * b.step) ∧ 2 * f ≤ 2 * snap b f + b.step ∧ 2 * snap b f < 2 * f + b.step := by
  obtain ⟨d, rfl⟩ := Nat.exists_eq_add_of_le hlow
  obtain ⟨k, hk⟩ : ∃ k, k = (2 * d + b.step - 1) / (2 * b.step) := ⟨_, rfl⟩
  have hsnap : snap b (b.lower + d) = b.lower + k * b.step := by simp [snap, hk]
  have hfloor : 2 * b.step * k ≤ 2 * d + b.step - 1 := by rw [hk]; exact Nat.mul_div_le _ _
  have hceil : 2 * d + b.step - 1 < 2 * b.step * (k + 1) := by
    rw [hk]
    exact Nat.lt_mul_div_succ _ (by omega)
  have hexpand : 2 * b.step * (k + 1) = 2 * (k * b.step) + 2 * b.step := by ring
  have hcomm : 2 * b.step * k = 2 * (k * b.step) := by ring
  rw [hsnap]
  exact ⟨⟨k, rfl⟩, by omega, by omega⟩

section
variable {t : Attempt} {i : Fin 4}

theorem evaluate_of_noBand (h : findBand t.bands t.candidate = none) : evaluate t =
    { stage := 1, checked := 0, snapped := false, band := none, margin := 65535, comparisons := 1, offence := {} } := by
  simp only [evaluate, h]

theorem evaluate_of_class (h : findBand t.bands t.candidate = some i) (hclass : t.bands[i].allows t.cls = false) : evaluate t =
    { stage := 1, checked := 0, snapped := false, band := some i, margin := 65535, comparisons := 1, offence := {} } := by
  simp only [evaluate, h, hclass, Bool.false_eq_true, if_false]

/-- What stage 1 has found of a candidate whose class its band allows. -/
def Attempt.snapped (t : Attempt) (i : Fin 4) : RawOutcome :=
  { stage := 0, checked := snap t.bands[i] t.candidate, snapped := snap t.bands[i] t.candidate != t.candidate, band := some i
    margin := 65535, comparisons := 1, offence := {} }

theorem evaluate_of_allowed (h : findBand t.bands t.candidate = some i) (hclass : t.bands[i].allows t.cls = true) : evaluate t =
    if t.bands[i].fits t.cls (snap t.bands[i] t.candidate) then
      runStages (laterStages t (snap t.bands[i] t.candidate)) (t.snapped i)
    else { t.snapped i with stage := 1 } := by
  simp only [evaluate, h, hclass, if_true]
  rfl

end

theorem Band.fits_iff (b : Band) (c : CarrierClass) (f : Nat) :
    b.fits c f = true ↔ b.lower + c.bandwidth / 2 ≤ f ∧ f + c.bandwidth / 2 ≤ b.upper := by simp [Band.fits]

/-- The later stages leave what stage 1 has found, and end in one of themselves or in none. -/
theorem runStages_keeps (stages : List (Nat × List Comparison)) (r : RawOutcome) :
    (runStages stages r).checked = r.checked ∧ (runStages stages r).band = r.band ∧ (runStages stages r).snapped = r.snapped
      ∧ ((runStages stages r).stage = r.stage ∨ (runStages stages r).stage ∈ stages.map (·.1)) := by
  induction stages generalizing r with
  | nil => exact ⟨rfl, rfl, rfl, .inl rfl⟩
  | cons x rest ih =>
    obtain ⟨k, cs⟩ := x
    rw [runStages]
    dsimp only
    split
    · exact ⟨rfl, rfl, rfl, .inr (by simp)⟩
    · obtain ⟨hchecked, hband, hsnapped, hstage⟩ := ih { r with
        comparisons := r.comparisons + (compareAll cs).made
        margin := if k ≥ 4 then min r.margin (compareAll cs).nearest else r.margin }
      exact ⟨hchecked, hband, hsnapped, hstage.imp_right (List.mem_cons_of_mem _)⟩

theorem stage_of_laterStages {t : Attempt} {f k : Nat} (h : k ∈ (laterStages t f).map (·.1)) : 2 ≤ k := by
  unfold laterStages at h
  split at h
  · split at h <;> simp at h <;> omega
  · simp at h
    omega

/-- Settles O30. -/
theorem bandAndRaster : Obligations.BandAndRaster := by
  refine ⟨fun bands f => ?_, fun b => ⟨rfl, rfl, rfl⟩, ⟨rfl, rfl, rfl⟩, fun b f => snap_nearest, fun t h => ?_, fun t i h hclass => ?_,
    fun t i h hclass => ?_⟩
  · intro holds
    have hholds (i : Fin 4) : holds i ↔ bands[i].holds f = true := (bands[i].holds_iff f).symm
    refine ⟨fun i h => (hholds i).mpr ((findBand_eq_some_iff bands f i).mp h).1, fun i hi honly => ?_, ?_⟩
    · refine (findBand_eq_some_iff bands f i).mpr ⟨(hholds i).mp hi, fun j hj => ?_⟩
      simpa using mt (hholds j).mpr (honly j (ne_of_lt hj))
    · simp only [hholds]
      exact findBand_eq_none_iff bands f
  · rw [evaluate_of_noBand ((findBand_eq_none_iff _ _).mpr fun i hi => h i ((Band.holds_iff _ _).mp hi))]
    exact ⟨rfl, rfl, rfl, rfl⟩
  · rw [evaluate_of_class h hclass]
    exact ⟨rfl, rfl, rfl, rfl⟩
  · intro f
    rw [evaluate_of_allowed h hclass]
    by_cases hfits : t.bands[i].fits t.cls (snap t.bands[i] t.candidate) = true
    · rw [if_pos hfits]
      obtain ⟨hchecked, hband, hsnapped, hstage⟩ := runStages_keeps (laterStages t f) (t.snapped i)
      refine ⟨hchecked, hband, ?_, fun hno => absurd ((Band.fits_iff _ _ _).mp hfits) hno, fun _ _ hone => ?_⟩
      · rw [hsnapped]
        exact bne_iff_ne
      · obtain h0 | hlater := hstage
        · exact absurd (hone.symm.trans h0) Nat.one_ne_zero
        · exact absurd (stage_of_laterStages hlater) (by rw [hone]; decide)
    · rw [if_neg hfits]
      exact ⟨rfl, rfl, bne_iff_ne, fun _ => ⟨rfl, rfl⟩, fun hlow hhigh => absurd ((Band.fits_iff _ _ _).mpr ⟨hlow, hhigh⟩) hfits⟩

/-! #### The later stages (R53, R56 to R60) -/

/-- Comparisons have no offender exactly when each meets its threshold (R53). -/
theorem compareAll_offence (cs : List Comparison) : (compareAll cs).offence = none ↔ ∀ c ∈ cs, c.required ≤ c.distance := by
  induction cs with
  | nil => simp [compareAll]
  | cons c cs ih =>
    rw [compareAll]
    by_cases h : c.distance < c.required
    · simp [h]
    · simp [h, ih, Nat.not_lt.mp h]

/-- An attempt that has come to its later stages passes exactly when each of their comparisons meets its threshold. -/
theorem runStages_stage_eq_zero {stages : List (Nat × List Comparison)} (h : ∀ x ∈ stages, x.1 ≠ 0) {r : RawOutcome} (hr : r.stage = 0) :
    (runStages stages r).stage = 0 ↔ ∀ x ∈ stages, ∀ c ∈ x.2, c.required ≤ c.distance := by
  induction stages generalizing r with
  | nil => simp [runStages, hr]
  | cons x rest ih =>
    obtain ⟨k, cs⟩ := x
    have hk : k ≠ 0 := h (k, cs) (by simp)
    have hrest : ∀ x ∈ rest, x.1 ≠ 0 := fun x hx => h x (List.mem_cons_of_mem _ hx)
    rw [runStages, List.forall_mem_cons, ← compareAll_offence cs]
    cases ho : (compareAll cs).offence with
    | some o => simp [ho, hk]
    | none =>
      simp only [ho, true_and]
      exact ih hrest hr

theorem forall_laterStages {t : Attempt} {f : Nat} {P : Comparison → Prop} : (∀ x ∈ laterStages t f, ∀ c ∈ x.2, P c) ↔
    (∀ c ∈ spacingStage t f, P c) ∧ (∀ c ∈ foreignStage t f, P c)
      ∧ (t.cls = .n → ∀ c ∈ imTwoStage t f, P c) ∧ (t.cls = .n → 0 < t.settings.w3 → ∀ c ∈ imThreeStage t f, P c) := by
  unfold laterStages
  by_cases hn : t.cls = .n
  · by_cases hw : t.settings.w3 > 0
    · simp [hn, hw]
    · simp [hn, hw]
  · simp [hn]

/-- The members of stages 4 and 5 other than the candidate, each under its entry's index. -/
theorem members_code {t : Attempt} {m : Member} (h : m ∈ members t) : ∃ j ∈ t.carriers, m.code = BitVec.ofNat 8 j.entry.val := by
  simp only [members, List.mem_map, List.mem_filter] at h
  obtain ⟨j, ⟨hj, -⟩, rfl⟩ := h
  exact ⟨j, hj, rfl⟩

theorem members_codes_nodup {t : Attempt} (h : t.proper) : ((members t).map (·.code)).Nodup := by
  have hcodes : (members t).map (·.code) = (((t.carriers.filter fun j => j.cls == .n).map (·.entry)).map fun e => BitVec.ofNat 8 e.val) := by
    simp [members, indexByte, Function.comp_def]
  have hinjective : Function.Injective fun e : EntryId => (BitVec.ofNat 8 e.val : Byte) := fun a b hab => by
    have hval : a.val % 256 = b.val % 256 := by simpa using congrArg BitVec.toNat hab
    exact Fin.ext (by omega)
  rw [hcodes]
  exact List.Nodup.map hinjective (List.Nodup.sublist (List.Sublist.map _ List.filter_sublist) h)

/-- The candidate is no member of the plan: its code is that of none (R58). -/
theorem candidate_code {t : Attempt} {m : Member} (h : m ∈ members t) : m.code ≠ 254 := by
  obtain ⟨j, -, hcode⟩ := members_code h
  rw [hcode]
  have hlt : j.entry.val < 96 := j.entry.isLt
  intro heq
  have hval : j.entry.val % 256 = 254 := congrArg BitVec.toNat heq
  omega

/-- The members other than one of them. -/
theorem mem_others {ms : List Member} (hcodes : (ms.map (·.code)).Nodup) {c v : Member} (hc : c ∈ ms) :
    v ∈ others ms c ↔ v ∈ ms ∧ v ≠ c := by
  simp only [others, List.mem_filter, decide_eq_true_eq]
  refine and_congr_right fun hv => not_congr ⟨fun h => List.inj_on_of_nodup_map hcodes hv hc h, fun h => h ▸ rfl⟩

theorem mem_others_others {ms : List Member} (hcodes : (ms.map (·.code)).Nodup) {a b v : Member} (ha : a ∈ ms) (hb : b ∈ ms) :
    v ∈ others (others ms a) b ↔ v ∈ ms ∧ v ≠ a ∧ v ≠ b := by
  rw [others, List.mem_filter, mem_others hcodes ha, and_assoc]
  simp only [decide_eq_true_eq]
  refine and_congr_right fun hv => and_congr_right fun _ => ?_
  exact not_congr ⟨fun h => List.inj_on_of_nodup_map hcodes hv hb h, fun h => h ▸ rfl⟩

theorem forall_others {ms : List Member} (hcodes : (ms.map (·.code)).Nodup) {c : Member} (hc : c ∈ ms) {P : Member → Prop} :
    (∀ v ∈ others ms c, P v) ↔ ∀ v ∈ ms, v ≠ c → P v := by
  simp only [mem_others hcodes hc, and_imp]

theorem forall_others_others {ms : List Member} (hcodes : (ms.map (·.code)).Nodup) {a b : Member} (ha : a ∈ ms) (hb : b ∈ ms)
    {P : Member → Prop} : (∀ v ∈ others (others ms a) b, P v) ↔ ∀ v ∈ ms, v ≠ a → v ≠ b → P v := by
  simp only [mem_others_others hcodes ha hb, and_imp]

/-- A two-signal comparison is met, or not made at all (R58, R59). -/
def TwoMet (w : Nat) (a c v : Member) : Prop :=
  ¬ (a.blocked = true ∧ c.blocked = true ∧ v.blocked = true) → w ≤ apart (2 * a.freq - c.freq) v.freq

theorem forall_twoSignal {w : Nat} {a c v : Member} :
    (∀ y ∈ twoSignal w a c v, y.required ≤ y.distance) ↔ TwoMet w a c v := by
  unfold twoSignal TwoMet
  cases a.blocked <;> cases c.blocked <;> cases v.blocked <;> simp

/-- A three-signal comparison is met, or not made at all (R58, R60). -/
def ThreeMet (w : Nat) (a b c v : Member) : Prop :=
  ¬ (a.blocked = true ∧ b.blocked = true ∧ c.blocked = true ∧ v.blocked = true) → w ≤ apart (a.freq + b.freq - c.freq) v.freq

theorem forall_threeSignal {w : Nat} {a b c v : Member} :
    (∀ y ∈ threeSignal w a b c v, y.required ≤ y.distance) ↔ ThreeMet w a b c v := by
  unfold threeSignal ThreeMet
  cases a.blocked <;> cases b.blocked <;> cases c.blocked <;> cases v.blocked <;> simp

/-- The two added signals of a product are alike. -/
theorem ThreeMet.swap {w : Nat} {a b c v : Member} (h : ThreeMet w a b c v) : ThreeMet w b a c v := by
  unfold ThreeMet at *
  rw [add_comm b.freq]
  exact fun hn => h fun ⟨ha, hb, hc⟩ => hn ⟨hb, ha, hc⟩

theorem forall_mem_flatMap' {α β : Type} {l : List α} {g : α → List β} {P : β → Prop} :
    (∀ y ∈ l.flatMap g, P y) ↔ ∀ a ∈ l, ∀ y ∈ g a, P y := by
  simp only [List.mem_flatMap, forall_exists_index, and_imp]
  exact ⟨fun h a ha y hy => h y a ha hy, fun h y a ha hy => h a ha y hy⟩

/-- Triples of different members that the candidate takes part in, by its place (R59). -/
theorem forall_triples {x : Member} {ms : List Member} (hx : x ∉ ms) {P : Member → Member → Member → Prop} :
    ((∀ c ∈ ms, ∀ v ∈ ms, v ≠ c → P x c v) ∧ (∀ a ∈ ms, ∀ v ∈ ms, v ≠ a → P a x v) ∧ ∀ a ∈ ms, ∀ c ∈ ms, c ≠ a → P a c x) ↔
      ∀ a ∈ x :: ms, ∀ c ∈ x :: ms, ∀ v ∈ x :: ms, a ≠ c → a ≠ v → c ≠ v → a = x ∨ c = x ∨ v = x → P a c v := by
  have hne {m : Member} (hm : m ∈ ms) : m ≠ x := fun h => hx (h ▸ hm)
  have hmem {m : Member} (hm : m ∈ x :: ms) (h : m ≠ x) : m ∈ ms := (List.mem_cons.mp hm).resolve_left h
  constructor
  · rintro ⟨hfirst, hsecond, hvictim⟩ a ha c hc v hv hac hav hcv (rfl | rfl | rfl)
    · exact hfirst c (hmem hc hac.symm) v (hmem hv hav.symm) hcv.symm
    · exact hsecond a (hmem ha hac) v (hmem hv hcv.symm) hav.symm
    · exact hvictim a (hmem ha hav) c (hmem hc hcv) hac.symm
  · intro h
    have hself : x ∈ x :: ms := List.mem_cons_self
    refine ⟨fun c hc v hv hvc => ?_, fun a ha v hv hva => ?_, fun a ha c hc hca => ?_⟩
    · exact h x hself c (.tail _ hc) v (.tail _ hv) (hne hc).symm (hne hv).symm hvc.symm (.inl rfl)
    · exact h a (.tail _ ha) x hself v (.tail _ hv) (hne ha) hva.symm (hne hv).symm (.inr (.inl rfl))
    · exact h a (.tail _ ha) c (.tail _ hc) x hself hca.symm (hne ha) (hne hc) (.inr (.inr rfl))

/-- Quadruples of different members that the candidate takes part in, where the two added signals are alike (R60). -/
theorem forall_quadruples {x : Member} {ms : List Member} (hx : x ∉ ms) {P : Member → Member → Member → Member → Prop}
    (hswap : ∀ a b c v, P a b c v → P b a c v) :
    ((∀ b ∈ ms, ∀ c ∈ ms, ∀ v ∈ ms, c ≠ b → v ≠ b → v ≠ c → P x b c v)
      ∧ (∀ a ∈ ms, ∀ b ∈ ms, a ≠ b → ∀ v ∈ ms, v ≠ a → v ≠ b → P a b x v)
      ∧ ∀ a ∈ ms, ∀ b ∈ ms, a ≠ b → ∀ c ∈ ms, c ≠ a → c ≠ b → P a b c x) ↔
      ∀ a ∈ x :: ms, ∀ b ∈ x :: ms, ∀ c ∈ x :: ms, ∀ v ∈ x :: ms, a ≠ b → a ≠ c → a ≠ v → b ≠ c → b ≠ v → c ≠ v →
        a = x ∨ b = x ∨ c = x ∨ v = x → P a b c v := by
  have hne {m : Member} (hm : m ∈ ms) : m ≠ x := fun h => hx (h ▸ hm)
  have hmem {m : Member} (hm : m ∈ x :: ms) (h : m ≠ x) : m ∈ ms := (List.mem_cons.mp hm).resolve_left h
  constructor
  · rintro ⟨hadded, hminus, hvictim⟩ a ha b hb c hc v hv hab hac hav hbc hbv hcv (rfl | rfl | rfl | rfl)
    · exact hadded b (hmem hb hab.symm) c (hmem hc hac.symm) v (hmem hv hav.symm) hbc.symm hbv.symm hcv.symm
    · exact hswap _ _ _ _ (hadded a (hmem ha hab) c (hmem hc hbc.symm) v (hmem hv hbv.symm) hac.symm hav.symm hcv.symm)
    · exact hminus a (hmem ha hac) b (hmem hb hbc) hab v (hmem hv hcv.symm) hav.symm hbv.symm
    · exact hvictim a (hmem ha hav) b (hmem hb hbv) hab c (hmem hc hcv) hac.symm hbc.symm
  · intro h
    have hself : x ∈ x :: ms := List.mem_cons_self
    refine ⟨fun b hb c hc v hv hcb hvb hvc => ?_, fun a ha b hb hab v hv hva hvb => ?_, fun a ha b hb hab c hc hca hcb => ?_⟩
    · exact h x hself b (.tail _ hb) c (.tail _ hc) v (.tail _ hv) (hne hb).symm (hne hc).symm (hne hv).symm hcb.symm hvb.symm hvc.symm
        (.inl rfl)
    · exact h a (.tail _ ha) b (.tail _ hb) x hself v (.tail _ hv) hab (hne ha) hva.symm (hne hb) hvb.symm (hne hv).symm
        (.inr (.inr (.inl rfl)))
    · exact h a (.tail _ ha) b (.tail _ hb) c (.tail _ hc) x hself hab hca.symm (hne ha) hcb.symm (hne hb) (hne hc)
        (.inr (.inr (.inr rfl)))

/-- The pairs of a list are those of its members in their order. -/
theorem forall_memberPairs {ms : List Member} {P : Member → Member → Prop} :
    (∀ p ∈ memberPairs ms, P p.1 p.2) ↔ ms.Pairwise P := by
  induction ms with
  | nil => simp [memberPairs]
  | cons a rest ih =>
    rw [memberPairs, List.pairwise_cons, List.forall_mem_append, ih]
    simp

theorem mem_of_memberPairs {ms : List Member} {p : Member × Member} (h : p ∈ memberPairs ms) : p.1 ∈ ms ∧ p.2 ∈ ms := by
  induction ms with
  | nil => simp [memberPairs] at h
  | cons a rest ih =>
    obtain h | h := List.mem_append.mp h
    · obtain ⟨b, hb, rfl⟩ := List.mem_map.mp h
      exact ⟨List.mem_cons_self, List.mem_cons_of_mem _ hb⟩
    · exact ⟨List.mem_cons_of_mem _ (ih h).1, List.mem_cons_of_mem _ (ih h).2⟩

/-- A property that is alike in both members holds of every pair exactly when it holds of any two different members. -/
theorem forall_pairs {ms : List Member} (h : ms.Nodup) {P : Member → Member → Prop} (hswap : ∀ a b, P a b → P b a) :
    (∀ p ∈ memberPairs ms, P p.1 p.2) ↔ ∀ a ∈ ms, ∀ b ∈ ms, a ≠ b → P a b := by
  have hsymm : Std.Symm P := ⟨hswap⟩
  rw [forall_memberPairs]
  exact ⟨fun hpairs a ha b hb hab => hpairs.forall ha hb hab, fun hall => List.Nodup.pairwise_of_forall_ne h hall⟩

section
variable {t : Attempt} {f : Nat}

theorem forall_imTwoStage (h : t.proper) : (∀ y ∈ imTwoStage t f, y.required ≤ y.distance) ↔
    ∀ a ∈ candidateMember t f :: members t, ∀ c ∈ candidateMember t f :: members t, ∀ v ∈ candidateMember t f :: members t,
      a ≠ c → a ≠ v → c ≠ v → a = candidateMember t f ∨ c = candidateMember t f ∨ v = candidateMember t f →
      TwoMet t.settings.w a c v := by
  have hcodes := members_codes_nodup h
  have hx : candidateMember t f ∉ members t := fun hmem => candidate_code hmem rfl
  rw [← forall_triples hx, imTwoStage, List.forall_mem_append, List.forall_mem_append, and_assoc]
  simp only [forall_mem_flatMap', forall_twoSignal]
  exact and_congr (forall₂_congr fun c hc => forall_others hcodes hc)
    (and_congr (forall₂_congr fun a ha => forall_others hcodes ha) (forall₂_congr fun a ha => forall_others hcodes ha))

theorem forall_imThreeStage (h : t.proper) : (∀ y ∈ imThreeStage t f, y.required ≤ y.distance) ↔
    ∀ a ∈ candidateMember t f :: members t, ∀ b ∈ candidateMember t f :: members t, ∀ c ∈ candidateMember t f :: members t,
      ∀ v ∈ candidateMember t f :: members t, a ≠ b → a ≠ c → a ≠ v → b ≠ c → b ≠ v → c ≠ v →
      a = candidateMember t f ∨ b = candidateMember t f ∨ c = candidateMember t f ∨ v = candidateMember t f →
      ThreeMet t.settings.w3 a b c v := by
  have hcodes := members_codes_nodup h
  have hx : candidateMember t f ∉ members t := fun hmem => candidate_code hmem rfl
  rw [← forall_quadruples hx (P := ThreeMet t.settings.w3) fun _ _ _ _ => ThreeMet.swap, imThreeStage, List.forall_mem_append, List.forall_mem_append, and_assoc]
  simp only [forall_mem_flatMap', forall_threeSignal]
  refine and_congr (forall₂_congr fun b hb => (forall_others hcodes hb).trans (forall₂_congr fun c hc => ?_)) (and_congr ?_ ?_)
  · rw [forall_others_others hcodes hb hc]
    exact ⟨fun h v hv hcb => h hcb v hv, fun h hcb v hv => h v hv hcb⟩
  · refine (forall₂_congr fun p hp => forall_others_others hcodes (mem_of_memberPairs hp).1 (mem_of_memberPairs hp).2).trans ?_
    exact forall_pairs (List.Nodup.of_map _ hcodes) (P := fun a b => ∀ v ∈ members t, v ≠ a → v ≠ b → ThreeMet t.settings.w3 a b _ v)
      fun a b hab v hv hvb hva => (hab v hv hva hvb).swap
  · refine (forall₂_congr fun p hp => forall_others_others hcodes (mem_of_memberPairs hp).1 (mem_of_memberPairs hp).2).trans ?_
    exact forall_pairs (List.Nodup.of_map _ hcodes) (P := fun a b => ∀ c ∈ members t, c ≠ a → c ≠ b → ThreeMet t.settings.w3 a b c _)
      fun a b hab v hv hvb hva => (hab v hv hva hvb).swap

end

/-- Settles O31. -/
theorem passMeansEveryComparisonHolds : Obligations.PassMeansEveryComparisonHolds := by
  intro t i hproper hband hclass f hlow hhigh x ms guard
  have hx : x = candidateMember t f := rfl
  have hms : ms = members t := rfl
  have hfits : t.bands[i].fits t.cls (snap t.bands[i] t.candidate) = true := (Band.fits_iff _ _ _).mpr ⟨hlow, hhigh⟩
  have hlater : ∀ y ∈ laterStages t f, y.1 ≠ 0 := fun y hy hzero => by
    have htwo := stage_of_laterStages (List.mem_map_of_mem (f := (·.1)) hy)
    omega
  rw [evaluate_of_allowed hband hclass, if_pos hfits, runStages_stage_eq_zero hlater rfl, forall_laterStages,
    forall_imTwoStage hproper, forall_imThreeStage hproper, ← hx, ← hms]
  refine and_congr ?_ (and_congr ?_ Iff.rfl)
  · simp only [spacingStage, List.forall_mem_map, List.mem_filter, and_imp]
    refine forall₂_congr fun j hj => imp_congr ?_ Iff.rfl
    cases j.blocked <;> cases t.blocked <;> simp
  · exact List.forall_mem_map

end Sys2Proof.Machine
end

section

/-! ### Links and candidates by request (05) -/

namespace Sys2Proof.Machine

theorem State.serving_eq_some_iff (s : State) (l : LinkId) (k : ContextId) : s.serving l = some k ↔
    (s.contexts[k].stage ≠ .free ∧ s.contexts[k].link = l) ∧ ∀ j : ContextId, j < k → ¬ (s.contexts[j].stage ≠ .free ∧ s.contexts[j].link = l) := by
  rw [State.serving, find_finRange_iff]
  simp

theorem State.serving_eq_none_iff (s : State) (l : LinkId) : s.serving l = none ↔
    ∀ k : ContextId, ¬ (s.contexts[k].stage ≠ .free ∧ s.contexts[k].link = l) := by
  simp [State.serving]

/-- The six flags of a link in one byte. -/
theorem LinkFlags.bytes_eq (f : LinkFlags) : f.bytes = u8 (f.autoSwitchover.toNat + 2 * f.autoBackup.toNat + 4 * f.autoAvoid.toNat
    + 8 * f.switchWhenLive.toNat + 16 * f.alwaysLive.toNat + 32 * f.telemetryRelay.toNat) := by
  have hsum (a b c d e g : Nat) : a + 2 * (b + 2 * (c + 2 * (d + 2 * (e + 2 * (g + 2 * 0))))) = a + 2 * b + 4 * c + 8 * d + 16 * e + 32 * g := by
    ring
  exact congrArg u8 (hsum _ _ _ _ _ _)

theorem candidatesOf_eq (args : List Byte) : candidatesOf args = (List.range (u8At args 1)).map fun i => u32At args (2 + 4 * i) := rfl

/-- A candidate list that is too long, or holds a frequency out of range, is refused (R76). -/
theorem badCandidates_iff (fs : List Nat) : (8 < fs.length ∨ (!fs.all freqOk) = true) ↔ 8 < fs.length ∨ ∃ f ∈ fs, f < 30000 ∨ 7125000 < f := by
  refine or_congr_right ?_
  simp only [Bool.not_eq_true', ← Bool.not_eq_true, List.all_eq_true, freqOk_iff, not_forall, exists_prop]
  exact exists_congr fun f => and_congr_right fun _ => by omega

/-- Settles O32. -/
theorem linkTableIsReadAndCandidatesWritten : Obligations.LinkTableIsReadAndCandidatesWritten := by
  refine ⟨fun s l => ⟨s.serving_eq_none_iff l, s.serving_eq_some_iff l⟩, fun s r h hlen => ?_, fun s r fs h hcode hlen hfs => ?_⟩
  · intro condition
    have hcondition : condition = conditionCode := funext fun c => by
      cases c with
      | none => rfl
      | some c => cases c <;> rfl
    clear_value condition
    subst hcondition
    have hread (hcode : r.code = 0x16) : hasCode 0x16 r = true := hasCode_of_args r 0x16 1 hcode (by decide) rfl hlen
    have hcand (hcode : r.code = 0x18) : hasCode 0x18 r = true := hasCode_of_args r 0x18 1 hcode (by decide) rfl hlen
    refine ⟨fun l hl => ⟨fun hcode => exec_answer h rfl (hread hcode) ?_ rfl, fun hcode => exec_answer h rfl (hcand hcode) ?_ rfl⟩,
      fun hl => ⟨fun hcode => exec_answer h rfl (hread hcode) ?_ rfl, fun hcode => exec_answer h rfl (hcand hcode) ?_ rfl⟩⟩
    · rw [State.linkRead, indexOf?_of_eq hl]
      simp only [Link.writtenBytes, LinkFlags.bytes_eq, RetuneResult.bytes, List.append_assoc]
      cases s.links[l].last.summary <;> rfl
    · rw [State.candidatesRead, indexOf?_of_eq hl]
      rfl
    · rw [State.linkRead, indexOf?_of_le hl]
    · rw [State.candidatesRead, indexOf?_of_le hl]
  · have hrow : hasCode 0x19 r = true := hasCode_of_args r 0x19 _ hcode (by decide) rfl hlen
    rw [← candidatesOf_eq] at hfs
    subst hfs
    refine ⟨fun hl => exec_answer h rfl hrow ?_ rfl, fun l hl => ⟨fun hcount hrange => exec_answer h rfl hrow ?_ rfl,
      fun hbad => exec_answer h rfl hrow ?_ rfl⟩⟩
    · rw [State.candidatesWrite, indexOf?_of_le hl]
    · rw [State.candidatesWrite, indexOf?_of_eq hl]
      refine if_neg (mt (badCandidates_iff _).mp ?_)
      rintro (hlong | ⟨f, hf, hout⟩)
      · omega
      · have := hrange f hf
        omega
    · rw [State.candidatesWrite, indexOf?_of_eq hl]
      exact if_pos ((badCandidates_iff _).mpr hbad)

/-! ### The retune queue by request (R80, R81, R86, R87) -/

/-- The target that ASSIGN and RETUNE carry, where its code is one and an EXPLICIT frequency in range. -/
theorem targetArg_of_good {args : List Byte} {t : Target} (h : u8At args 1 = 1 ∧ t = .nextCandidate ∨ u8At args 1 = 2 ∧ t = .backup ∨
    u8At args 1 = 0 ∧ t = .explicit (u32At args 2) ∧ 30000 ≤ u32At args 2 ∧ u32At args 2 ≤ 7125000) :
    targetArg args = some t ∧ (targetOk (some t) = true ↔ t ≠ .backup) := by
  obtain ⟨hcode, rfl⟩ | ⟨hcode, rfl⟩ | ⟨hcode, rfl, hlow, hhigh⟩ := h
  · exact ⟨by rw [targetArg, hcode]; rfl, by simp [targetOk]⟩
  · exact ⟨by rw [targetArg, hcode]; rfl, by simp [targetOk]⟩
  · exact ⟨by rw [targetArg, hcode]; rfl, by simp [targetOk, freqOk_of_range hlow hhigh]⟩

/-- A target code that is none, or EXPLICIT out of range, gives no target that either takes. -/
theorem targetArg_of_bad {args : List Byte} (h : 2 < u8At args 1 ∨ u8At args 1 = 0 ∧ (u32At args 2 < 30000 ∨ 7125000 < u32At args 2)) :
    targetArg args = none ∨ ∃ t, targetArg args = some t ∧ t ≠ .backup ∧ targetOk (some t) = false := by
  obtain h | ⟨hcode, hf⟩ := h
  · refine .inl ?_
    unfold targetArg Target.ofCode?
    split <;> first | rfl | omega
  · exact .inr ⟨.explicit (u32At args 2), by rw [targetArg, hcode]; rfl, nofun, freqOk_of_outside hf⟩

/-- The entry that a filing makes (R85, R87). -/
def State.retuneEntry (s : State) (l : LinkId) (t : Target) (reason : Reason) (force : Bool) : QueueEntry :=
  { link := l, target := t, reason, force, held := s.links[l].holds reason force }

section
variable {s : State} {r : Request} {l : LinkId} {t : Target} {reason : Reason} {force : Bool}

theorem State.fileFor_of_queued {p : Nat} (h : s.retuneQueue.findIdx? (·.link = l) = some p) :
    s.fileFor r l t reason force = State.answer { s with retuneQueue := s.retuneQueue.set p (s.retuneEntry l t reason force) } r .ok
      (u8 1 ++ u8 (s.retuneEntry l t reason force).held.toNat ++ u8 p) := by
  simp only [State.fileFor, State.fileRetune, h]
  rfl

theorem State.fileFor_of_room (h : s.retuneQueue.findIdx? (·.link = l) = none) (hroom : s.retuneQueue.length < 16) :
    s.fileFor r l t reason force = State.answer { s with retuneQueue := s.retuneQueue ++ [s.retuneEntry l t reason force] } r .ok
      (u8 0 ++ u8 (s.retuneEntry l t reason force).held.toNat ++ u8 s.retuneQueue.length) := by
  have hcap : s.retuneQueue.length < Config.retuneCap := hroom
  simp only [State.fileFor, State.fileRetune, h, if_pos hcap]
  rfl

theorem State.fileFor_of_full (h : s.retuneQueue.findIdx? (·.link = l) = none) (hfull : ¬ s.retuneQueue.length < 16) :
    s.fileFor r l t reason force = s.answer r .queueFull [] := by
  have hcap : ¬ s.retuneQueue.length < Config.retuneCap := hfull
  simp only [State.fileFor, State.fileRetune, h, if_neg hcap]
  rfl

/-- A row that files a retune for management. -/
theorem exec_fileFor {c : Instr} {row : Request → Bool} {f : State → Request → State} (h : s.Takes r)
    (hexec : exec c s = .next (s.finishFrame.take row f)) (hrow : row r = true) (hf : f s r = s.fileFor r l t reason force) :
    exec c s = .next (s.fileFor r l t reason force) := by
  cases hfind : s.retuneQueue.findIdx? (·.link = l) with
  | some p =>
    rw [State.fileFor_of_queued hfind] at hf ⊢
    exact exec_answer h hexec hrow hf rfl
  | none =>
    by_cases hroom : s.retuneQueue.length < 16
    · rw [State.fileFor_of_room hfind hroom] at hf ⊢
      exact exec_answer h hexec hrow hf rfl
    · rw [State.fileFor_of_full hfind hroom] at hf ⊢
      exact exec_answer h hexec hrow hf rfl

end

/-- Without FADE's own rule a request is held while its link is live, unless by FORCE (R87). -/
theorem Link.holds_of_request (x : Link) {reason : Reason} (h : reason ≠ .fade) (force : Bool) : x.holds reason force = (x.live && !force) := by
  simp [Link.holds, h]

/-- Settles O34. -/
theorem retunesAreFiled : Obligations.RetunesAreFiled := by
  refine ⟨fun s r h hlen => ?_, fun s r l t h hlen hl ht => ?_⟩
  · have hassign (hcode : r.code = 0x30) : hasCode 0x30 r = true := hasCode_of_args r 0x30 7 hcode (by decide) rfl hlen
    have hretune (hcode : r.code = 0x31) : hasCode 0x31 r = true := hasCode_of_args r 0x31 7 hcode (by decide) rfl hlen
    refine ⟨fun hl => ⟨fun hcode => exec_answer h rfl (hassign hcode) ?_ rfl, fun hcode => exec_answer h rfl (hretune hcode) ?_ rfl⟩,
      fun hl hbad => ⟨fun hcode => exec_answer h rfl (hassign hcode) ?_ rfl, fun hcode => exec_answer h rfl (hretune hcode) ?_ rfl⟩⟩
    · rw [State.assign, indexOf?_of_le hl]
    · rw [State.retune, indexOf?_of_le hl]
    · have hlink : indexOf? 80 (u8At r.args 0) = some ⟨u8At r.args 0, hl⟩ := indexOf?_of_eq rfl
      obtain hnone | ⟨t, ht, -, hno⟩ := targetArg_of_bad hbad
      · rw [State.assign, hlink, hnone]
      · rw [State.assign, hlink, ht]
        exact if_pos (by simp [hno])
    · have hlink : indexOf? 80 (u8At r.args 0) = some ⟨u8At r.args 0, hl⟩ := indexOf?_of_eq rfl
      obtain hnone | ⟨t, ht, hbackup, hno⟩ := targetArg_of_bad hbad
      · rw [State.retune, hlink, hnone]
      · rw [State.retune, hlink, ht]
        exact if_pos ⟨hbackup, by simp [hno]⟩
  · intro force filed entry onCarrier
    obtain ⟨harg, hok⟩ := targetArg_of_good ht
    have hassign (hcode : r.code = 0x30) : hasCode 0x30 r = true := hasCode_of_args r 0x30 7 hcode (by decide) rfl hlen
    have hretune (hcode : r.code = 0x31) : hasCode 0x31 r = true := hasCode_of_args r 0x31 7 hcode (by decide) rfl hlen
    have hentry (reason : Reason) (hreason : reason ≠ .fade) : s.retuneEntry l t reason force = entry reason := by
      simp only [entry, State.retuneEntry, Link.holds_of_request _ hreason]
    have hfiled (reason : Reason) (hreason : reason ≠ .fade) : s.fileFor r l t reason force = filed (entry reason) := by
      simp only [filed, ← hentry reason hreason]
      cases hfind : s.retuneQueue.findIdx? (·.link = l) with
      | some p => exact State.fileFor_of_queued hfind
      | none =>
        by_cases hroom : s.retuneQueue.length < 16
        · exact (State.fileFor_of_room hfind hroom).trans (if_pos hroom).symm
        · exact (State.fileFor_of_full hfind hroom).trans (if_neg hroom).symm
    have hcarrier : s.links[l].state.onCarrier = true ↔ onCarrier := by
      simp only [onCarrier]
      cases s.links[l].state <;> decide
    refine ⟨fun hcode hno hidle => ?_, fun hcode hno hidle => exec_answer h rfl (hassign hcode) ?_ rfl,
      fun hcode hbackup => exec_answer h rfl (hassign hcode) ?_ rfl, fun hcode hon hstandby => ?_,
      fun hcode hon => exec_answer h rfl (hretune hcode) ?_ rfl, fun hcode hon hbackup hnone => exec_answer h rfl (hretune hcode) ?_ rfl⟩
    · rw [← hfiled .assign nofun]
      refine exec_fileFor (f := State.assign) h rfl (hassign hcode) ?_
      rw [State.assign, indexOf?_of_eq hl, harg]
      exact (if_neg (by simp [hok.mpr hno])).trans (if_neg (not_not_intro hidle))
    · rw [State.assign, indexOf?_of_eq hl, harg]
      exact (if_neg (by simp [hok.mpr hno])).trans (if_pos hidle)
    · rw [State.assign, indexOf?_of_eq hl, harg]
      exact if_pos (by simpa using mt hok.mp (not_not_intro hbackup))
    · rw [← hfiled .operator nofun]
      refine exec_fileFor (f := State.retune) h rfl (hretune hcode) ?_
      rw [State.retune, indexOf?_of_eq hl, harg]
      exact (if_neg fun hbad => by simp [hok.mpr hbad.1] at hbad).trans ((if_neg (by simpa using hcarrier.mpr hon)).trans
        (if_neg fun hno => hstandby hno.1 hno.2))
    · rw [State.retune, indexOf?_of_eq hl, harg]
      exact (if_neg fun hbad => by simp [hok.mpr hbad.1] at hbad).trans (if_pos (by simpa using mt hcarrier.mp hon))
    · rw [State.retune, indexOf?_of_eq hl, harg]
      exact (if_neg fun hbad => hbad.1 hbackup).trans ((if_neg (by simpa using hcarrier.mpr hon)).trans (if_pos ⟨hbackup, hnone⟩))

end Sys2Proof.Machine
end

section

/-! ### LINK_WRITE (R73 to R75, R122, R160) -/

namespace Sys2Proof.Machine

/-- What another entry of a table holds after one was put. -/
theorem put_ne {α : Type} {n : Nat} (t : Vector α n) {i j : Fin n} (x : α) (h : j ≠ i) : (put t i x)[j] = t[j] :=
  put_other t i x j.val j.isLt fun hij => h (Fin.ext hij.symm)

theorem put_eq {α : Type} {n : Nat} (t : Vector α n) (i : Fin n) (x : α) : (put t i x)[i] = x := put_self t i x

/-- A release changes the plan, the link table and the retune queue alone. -/
theorem State.releaseEntry_parts (s : State) (e : EntryId) : s.releaseEntry e = { s with
    plan := (s.releaseEntry e).plan, links := (s.releaseEntry e).links, retuneQueue := (s.releaseEntry e).retuneQueue } := by
  unfold State.releaseEntry
  dsimp only
  repeat' split
  all_goals rfl

theorem State.releaseOpt_parts (s : State) (e : Option EntryId) : s.releaseOpt e = { s with
    plan := (s.releaseOpt e).plan, links := (s.releaseOpt e).links, retuneQueue := (s.releaseOpt e).retuneQueue } := by
  cases e with
  | none => rfl
  | some e => exact s.releaseEntry_parts e

/-- A release changes no more of a link than the entries it records. -/
theorem State.releaseEntry_link (s : State) (e : EntryId) (l : LinkId) :
    ∃ active standby, (s.releaseEntry e).links[l] = { s.links[l] with active, standby } := by
  have hforget (t : State) (m : LinkId) : ∃ active standby, (t.modLink m (·.forget e)).links[l] = { t.links[l] with active, standby } := by
    by_cases hm : l = m
    · subst hm
      rw [State.modLink_get]
      exact ⟨_, _, rfl⟩
    · refine ⟨t.links[l].active, t.links[l].standby, ?_⟩
      exact put_ne t.links _ hm
  unfold State.releaseEntry
  dsimp only
  split
  · exact ⟨_, _, rfl⟩
  · split
    · exact ⟨_, _, rfl⟩
    · split
      · exact hforget ((s.setCarrier e {}).bumpGen) _
      · exact hforget ((s.setCarrier e {}).bumpGen) _

theorem State.releaseOpt_link (s : State) (e : Option EntryId) (l : LinkId) :
    ∃ active standby, (s.releaseOpt e).links[l] = { s.links[l] with active, standby } := by
  cases e with
  | none => exact ⟨_, _, rfl⟩
  | some e => exact s.releaseEntry_link e l

/-- The bits of a flag byte's number are the flags in their order. -/
theorem testBit_flags (fs : List Bool) (i : Nat) : (fs.foldr (fun b n => Bool.toNat b + 2 * n) 0).testBit i = fs.getD i false := by
  induction fs generalizing i with
  | nil => simp
  | cons b fs ih =>
    cases i with
    | zero => cases b <;> simp [Nat.testBit_zero, Nat.add_mod]
    | succ i =>
      have hhalf : (b.toNat + 2 * fs.foldr (fun b n => Bool.toNat b + 2 * n) 0) / 2 = fs.foldr (fun b n => Bool.toNat b + 2 * n) 0 := by
        cases b <;> simp <;> omega
      rw [List.foldr_cons, Nat.testBit_succ, hhalf, ih]
      rfl

/-- A flag byte's bits are the flags in their order. -/
theorem getLsbD_flags (fs : List Bool) (i : Nat) (h : i < 8) :
    (BitVec.ofNat 8 (fs.foldr (fun b n => Bool.toNat b + 2 * n) 0)).getLsbD i = fs.getD i false := by
  rw [BitVec.getLsbD_ofNat, testBit_flags]
  simp [h]

theorem linkFlagsOf_bytes (args : List Byte) (i : Nat) : (linkFlagsOf args i).bytes = [byteAt args i &&& 0x3F] := by
  refine congrArg (fun b : Byte => [b]) (BitVec.eq_of_getLsbD_eq fun k hk => ?_)
  rw [getLsbD_flags _ _ hk, BitVec.getLsbD_and]
  simp only [linkFlagsOf, flagAt]
  generalize byteAt args i = b
  interval_cases k <;> simp <;> rfl

/-- The kind and the class that go together (R71). -/
theorem LinkKind.allows_iff (k : LinkKind) (c : CarrierClass) : k.allows c = true ↔ (k = .camera ↔ c ≠ .n) := by
  cases k <;> cases c <;> decide

theorem indexOf?_indexByte {n : Nat} (hn : n < 255) (p : Option (Fin n)) : indexOf? n (indexByte p).toNat = p := by
  cases p with
  | none => exact indexOf?_of_le (show n ≤ 255 by omega)
  | some i => exact indexOf?_of_eq (by simp [indexByte]; omega)

theorem Link.writable_iff (w : Link) : w.writable = true ↔
    (w.kind = .camera ↔ w.cls ≠ .n) ∧ w.chan ≤ 3 ∧ isUnit w.rack = true ∧ isUnit w.portable = true ∧ w.rack ≠ w.portable := by
  simp only [Link.writable, Bool.and_eq_true, LinkKind.allows_iff, decide_eq_true_eq, bne_iff_ne, and_assoc]

theorem Link.differs_iff (r w : Link) : r.differs w = true ↔
    w.kind ≠ r.kind ∨ w.cls ≠ r.cls ∨ w.rack ≠ r.rack ∨ w.chan ≠ r.chan ∨ w.portable ≠ r.portable := by
  simp only [Link.differs, Bool.or_eq_true, bne_iff_ne, or_assoc]
  exact or_congr ne_comm (or_congr ne_comm (or_congr ne_comm (or_congr ne_comm ne_comm)))

theorem State.linkConflict_iff (s : State) (l : LinkId) (w : Link) : s.linkConflict l w = true ↔
    ∃ m : LinkId, m ≠ l ∧ s.links[m].state ≠ .unused ∧ (w.rack = s.links[m].rack ∧ w.chan = s.links[m].chan
      ∨ w.portable = s.links[m].portable ∨ w.portable = s.links[m].rack ∨ w.rack = s.links[m].portable) := by
  simp [State.linkConflict, Link.conflicts, and_assoc, or_assoc]

/-- The fields that a LINK write of listed codes carries. -/
def writtenLink (args : List Byte) (kind : LinkKind) (cls : CarrierClass) (profile : Option (Fin 8)) : Link :=
  { kind, cls, rack := byteAt args 3, chan := u8At args 4, portable := byteAt args 5, profile, flags := linkFlagsOf args 7
    offset := clampInt (-20) 20 (s8At args 8) }

theorem linkOf?_of_codes {args : List Byte} {kind : LinkKind} {cls : CarrierClass} {profile : Option (Fin 8)}
    (hkind : u8At args 1 = kind.code) (hcls : u8At args 2 = cls.code) (hprofile : byteAt args 6 = indexByte profile) :
    linkOf? args = some (writtenLink args kind cls profile) := by
  have hindex : indexOf? 8 (u8At args 6) = profile := by
    rw [u8At, hprofile, indexOf?_indexByte (by decide)]
  have hcode : u8At args 6 = 255 ∨ u8At args 6 < 8 := by
    rw [u8At, hprofile]
    cases profile with
    | none => exact .inl rfl
    | some i => exact .inr (by simp [indexByte]; omega)
  simp only [linkOf?, hkind, hcls, LinkKind.ofCode?_code, CarrierClass.ofCode?_code, if_pos hcode, hindex]
  rfl

theorem linkOf?_of_bad {args : List Byte} (h : 2 < u8At args 1 ∨ 2 < u8At args 2 ∨ 8 ≤ u8At args 6 ∧ u8At args 6 ≠ 255) :
    linkOf? args = none := by
  rw [linkOf?]
  cases hkind : LinkKind.ofCode? (u8At args 1) with
  | none => rfl
  | some kind =>
    cases hcls : CarrierClass.ofCode? (u8At args 2) with
    | none => rfl
    | some cls =>
      have hk : ¬ 2 < u8At args 1 := fun hlt => by
        unfold LinkKind.ofCode? at hkind
        split at hkind <;> first | omega | cases hkind
      have hc : ¬ 2 < u8At args 2 := fun hlt => by simp [CarrierClass.ofCode?_of_lt hlt] at hcls
      exact if_neg (by omega)

/-- The record that a LINK write stores (R73). -/
def Link.rewritten (old w : Link) : Link :=
  { old with kind := w.kind, cls := w.cls, rack := w.rack, chan := w.chan, portable := w.portable, profile := w.profile
             flags := w.flags, offset := w.offset, state := if old.state = .unused then .idle else old.state }

/-- The link table after a LINK write, and the release of a STANDBY that the link it defines still recorded (R77). -/
def State.linkStored (s : State) (l : LinkId) (w : Link) : State :=
  let stored := s.setLink l (s.links[l].rewritten w)
  if s.links[l].state = .unused then stored.releaseOpt s.links[l].standby else stored

theorem State.linkStored_eq (s : State) (l : LinkId) (w : Link) :
    (let old := s.links[l]
     let t := s.setLink l { old with kind := w.kind, cls := w.cls, rack := w.rack, chan := w.chan, portable := w.portable
                                     profile := w.profile, flags := w.flags, offset := w.offset }
     if old.state = .unused then t.setLinkState l .idle else t) = s.linkStored l w := by
  simp only [State.linkStored, Link.rewritten]
  by_cases hunused : s.links[l].state = .unused
  · simp only [hunused, if_true, State.setLinkState, State.modLink, State.setLink, put_put, put_eq]
  · simp only [hunused, if_false]

/-- What a LINK write leaves of the blocks around the table before their part of it. -/
theorem State.linkStored_parts (s : State) (l : LinkId) (w : Link) : (s.linkStored l w).monitors = s.monitors
    ∧ (s.linkStored l w).tally = s.tally ∧ (s.linkStored l w).agent = s.agent
    ∧ ∃ active standby, (s.linkStored l w).links[l] = { s.links[l].rewritten w with active, standby } := by
  unfold State.linkStored
  dsimp only
  split
  · rw [State.releaseOpt_parts]
    refine ⟨rfl, rfl, rfl, ?_⟩
    obtain ⟨active, standby, hlink⟩ := State.releaseOpt_link (s.setLink l (s.links[l].rewritten w)) s.links[l].standby l
    refine ⟨active, standby, hlink.trans ?_⟩
    simp only [State.setLink, put_eq]
  · exact ⟨rfl, rfl, rfl, _, _, put_eq _ _ _⟩

theorem State.linkWritten_eq (t : State) (l : LinkId) (old : Link) : t.linkWritten l old = { t with
    monitors := if old.state = .unused ∨ (old.profile.isSome = true ∧ t.links[l].profile = none) then put t.monitors l t.monitors[l].restart
      else t.monitors
    tally := if t.links[l].kind = .camera ∧ (old.state = .unused ∨ old.kind ≠ .camera ∨ old.portable ≠ t.links[l].portable) then
        { t.tally with cameras := put t.tally.cameras l t.tally.cameras[l].forget }
      else t.tally } := by
  unfold State.linkWritten
  dsimp only
  split <;> split <;> rfl

/-- What an accepted LINK write stores (R73 to R75, R122, R160). -/
theorem State.storeLink_eq (s : State) (l : LinkId) (w : Link) : s.storeLink l w = { s.linkStored l w with
    monitors := if s.links[l].state = .unused ∨ s.links[l].profile ≠ none ∧ w.profile = none then put s.monitors l s.monitors[l].restart
      else s.monitors
    tally := if w.kind = .camera ∧ (s.links[l].state = .unused ∨ s.links[l].kind ≠ .camera ∨ s.links[l].portable ≠ w.portable) then
        { s.tally with cameras := put s.tally.cameras l s.tally.cameras[l].forget }
      else s.tally
    retuneQueue := (s.linkStored l w).retuneQueue.map fun e => if e.link = l then
      { e with held := s.links[l].live && !e.force && !(e.reason == .fade && w.flags.switchWhenLive) } else e } := by
  obtain ⟨hmonitors, htally, -, active, standby, hlink⟩ := s.linkStored_parts l w
  rw [State.storeLink]
  dsimp only
  rw [s.linkStored_eq l w, State.linkWritten_eq]
  generalize s.linkStored l w = t at *
  simp only [State.reevaluate, hmonitors, htally, hlink, Link.rewritten, Link.holds, Option.isSome_iff_ne_none]

/-- Settles O33. -/
theorem linkIsWritten : Obligations.LinkIsWritten := by
  intro s r h hcode hlen
  have hrow : hasCode 0x17 r = true := hasCode_of_args r 0x17 9 hcode (by decide) rfl hlen
  refine ⟨fun hl => exec_answer h rfl hrow ?_ rfl, fun hl hbad => exec_answer h rfl hrow ?_ rfl,
    fun l kind cls profile hl hkind hcls hprofile => ?_⟩
  · rw [State.linkWrite, indexOf?_of_le hl]
  · have hlink : indexOf? 80 (u8At r.args 0) = some ⟨u8At r.args 0, hl⟩ := indexOf?_of_eq rfl
    rw [State.linkWrite, hlink, linkOf?_of_bad hbad]
  · intro old rack chan portable flags offset reply fits moves fixed clash record stored settled unknown restarted
    have hof := linkOf?_of_codes hkind hcls hprofile
    let w := writtenLink r.args kind cls profile
    have hfits : w.writable = true ↔ fits := w.writable_iff
    have hmoves : old.differs w = true ↔ moves := old.differs_iff w
    have hclash : s.linkConflict l w = true ↔ clash := s.linkConflict_iff l w
    refine ⟨fun hno => exec_answer h rfl hrow ?_ rfl, fun hok hfixed hmove => exec_answer h rfl hrow ?_ rfl,
      fun hok hfree hsame => exec_answer h rfl hrow ?_ rfl, fun hok hfree hsame => exec_answer h rfl hrow ?_ ?_⟩
    · rw [State.linkWrite, indexOf?_of_eq hl, hof]
      exact if_pos (by simpa using mt hfits.mp hno)
    · rw [State.linkWrite, indexOf?_of_eq hl, hof]
      exact (if_neg (by simpa using hfits.mpr hok)).trans (if_pos ⟨hfixed.1, hfixed.2, hmoves.mpr hmove⟩)
    · rw [State.linkWrite, indexOf?_of_eq hl, hof]
      exact (if_neg (by simpa using hfits.mpr hok)).trans ((if_neg fun hbad => hfree ⟨⟨hbad.1, hbad.2.1⟩, hmoves.mp hbad.2.2⟩).trans
        (if_pos (hclash.mpr hsame)))
    · rw [State.linkWrite, indexOf?_of_eq hl, hof]
      refine (if_neg (by simpa using hfits.mpr hok)).trans ((if_neg fun hbad => hfree ⟨⟨hbad.1, hbad.2.1⟩, hmoves.mp hbad.2.2⟩).trans
        ((if_neg (mt hclash.mp hsame)).trans ?_))
      have hsettled : s.linkStored l w = settled := rfl
      have hreply : w.writtenBytes = reply := by
        simp only [Link.writtenBytes, w, writtenLink, linkFlagsOf_bytes]
        rfl
      rw [State.storeLink_eq, hsettled, hreply]
      rfl
    · obtain ⟨-, -, hagent, -⟩ := s.linkStored_parts l w
      exact congrArg Agent.requests hagent

end Sys2Proof.Machine
end

section

/-! ### PROFILE_WRITE (R121) -/

namespace Sys2Proof.Machine

/-- A direction code that names none is read as the direction NONE: inside `Direction`, the `none` of the reader's last row is
the direction, and not the absent value. -/
theorem Direction.ofCode?_of_lt {n : Nat} (h : 3 < n) : Direction.ofCode? n = some Direction.none := by
  unfold Direction.ofCode?
  split <;> first | omega | rfl

/-- A PROFILE write of profile 0 with the levels -90 and -20 whose low direction has code 4, which names no direction. -/
def directionWrite : Request :=
  { id := 0, tag := 0, src := 0, code := 0x1B, args := [0, 0xA6, 0xEC, 3, 40, 4, 4, 1, 25, 20], phase := .arrived }

/-- A part just reset that has the write to take. -/
def directionState : State := { State.reset with agent := { State.reset.agent with requests := [directionWrite] } }

/-- The profile that the part makes of the write. -/
def directionProfile : Profile :=
  { low := -90, high := -20, levelCount := 3, qualityLimit := 40, qualityCount := 4, lowDir := .none, highDir := .rise, timeout := 25
    battery := 20 }

theorem profileOf?_directionWrite : profileOf? directionWrite.args = some directionProfile := by decide

/-- Refutes O47: the reader of a direction code takes every code above 3 as NONE, so a PROFILE write with such a code is stored
and answered OK, where R121 has BAD_VALUE. -/
theorem not_profilesAndMonitorByRequest : ¬ Obligations.ProfilesAndMonitorByRequest := by
  intro h
  have htakes : directionState.Takes directionWrite := ⟨rfl, rfl, rfl⟩
  obtain ⟨-, -, -, -, hwrite, -⟩ := h directionState directionWrite htakes
  have hrefused := (hwrite 0 rfl (by decide) rfl).1 (by decide)
  have hstored : exec .profileWrite directionState = .next
      ({ directionState with profiles := put directionState.profiles 0 directionProfile }.answer directionWrite .ok
        directionProfile.bytes) := by
    refine exec_answer (f := State.profileWrite) htakes rfl (hasCode_of_args directionWrite 0x1B 10 rfl (by decide) rfl (by decide)) ?_ rfl
    have hindex : indexOf? 8 (u8At directionWrite.args 0) = some 0 := by decide
    rw [State.profileWrite, hindex, profileOf?_directionWrite]
  injection hstored.symm.trans hrefused with hsame
  have hprofile : (put directionState.profiles 0 directionProfile)[(0 : Fin 8)] = directionState.profiles[(0 : Fin 8)] :=
    congrArg (fun t : State => t.profiles[(0 : Fin 8)]) hsame
  rw [put_eq] at hprofile
  exact absurd (congrArg Profile.lowDir hprofile) (by decide)

end Sys2Proof.Machine
end
section

/-! ### The tally map and the lamp lines by request (R154, R155) -/

namespace Sys2Proof.Machine

theorem sourceOf?_of_outside {n : Nat} (h : n = 0 ∨ 64 < n) : sourceOf? n = none := by
  unfold sourceOf?
  split
  · exact indexOf?_of_le (by omega)
  · rfl

theorem sourceOf?_of_eq {n : Nat} {i : Fin 64} (h : n = i.val + 1) : sourceOf? n = some i :=
  (if_pos (by omega)).trans (indexOf?_of_eq (by omega))

theorem LampMode.ofCode?_of_le {n : Nat} (h : 3 ≤ n) : LampMode.ofCode? n = none := by
  unfold LampMode.ofCode?
  split <;> first | omega | rfl

theorem indexOf?_eq_some_iff {n v : Nat} {i : Fin n} : indexOf? n v = some i ↔ v = i.val := by
  refine ⟨fun h => ?_, indexOf?_of_eq⟩
  unfold indexOf? at h
  split at h
  · exact congrArg Fin.val (Option.some.inj h)
  · cases h

/-- A list of numbers is a list of indices where it is the indices' values. -/
theorem mapM_indexOf?_eq_some_iff {n : Nat} {vs : List Nat} {is : List (Fin n)} :
    vs.mapM (indexOf? n) = some is ↔ is.map (·.val) = vs := by
  induction vs generalizing is with
  | nil =>
    simp only [List.mapM_nil, Option.pure_def, Option.some.injEq, List.map_eq_nil_iff]
    exact eq_comm
  | cons v vs ih =>
    rw [List.mapM_cons]
    simp only [Option.bind_eq_bind, Option.bind_eq_some_iff, Option.pure_def, Option.some.injEq, indexOf?_eq_some_iff, ih]
    constructor
    · rintro ⟨i, hi, js, hjs, rfl⟩
      rw [List.map_cons, hjs, hi]
    · intro his
      cases is with
      | nil => cases his
      | cons i js =>
        obtain ⟨hi, hjs⟩ := List.cons.inj his
        exact ⟨i, hi.symm, js, hjs, rfl⟩

/-- The numbers that a TALLY MAP write gives as links. -/
def mapNumbers (args : List Byte) : List Nat := (List.range (u8At args 1)).map fun i => u8At args (2 + i)

theorem nodup_of_values {n : Nat} {is : List (Fin n)} {m : Nat} {f : Nat → Nat} (h : is.map (·.val) = (List.range m).map f) :
    is.Nodup ↔ ¬ ∃ j k : Nat, j < k ∧ k < m ∧ f j = f k := by
  rw [← List.nodup_map_iff Fin.val_injective, h, List.Nodup, List.pairwise_iff_getElem]
  simp only [List.length_map, List.length_range, List.getElem_map, List.getElem_range]
  constructor
  · rintro hne ⟨j, k, hjk, hk, heq⟩
    exact hne j k (by omega) hk hjk heq
  · intro hno j k _ hk hjk heq
    exact hno ⟨j, k, hjk, hk, heq⟩

/-- What a TALLY MAP write may not be (R154). -/
def MapBad (args : List Byte) : Prop :=
  let n := u8At args 1
  let mix := u8At args (4 + n)
  4 < n ∨ (∃ j : Nat, j < n ∧ 80 ≤ u8At args (2 + j))
    ∨ (∃ j k : Nat, j < k ∧ k < n ∧ u8At args (2 + j) = u8At args (2 + k)) ∨ (32 ≤ mix ∧ mix ≠ 255)

theorem mapEntryOf?_of_bad {args : List Byte} (h : MapBad args) : mapEntryOf? args = none := by
  rw [mapEntryOf?]
  cases hlinks : mapLinks? args with
  | none => rfl
  | some links =>
    have hvalues : links.map (·.val) = mapNumbers args := mapM_indexOf?_eq_some_iff.mp hlinks
    refine if_pos ?_
    rcases h with hlen | ⟨j, hj, hge⟩ | htwice | hmix
    · exact .inl hlen
    · have hmem : u8At args (2 + j) ∈ links.map (·.val) :=
        hvalues ▸ List.mem_map_of_mem (List.mem_range.mpr hj)
      obtain ⟨l, -, hl⟩ := List.mem_map.mp hmem
      exact absurd l.isLt (by omega)
    · exact .inr (.inl fun hnodup => (nodup_of_values hvalues).mp hnodup htwice)
    · exact .inr (.inr hmix)

theorem mapEntryOf?_of_good {args : List Byte} {ls : List LinkId} {o : Option (Fin 32)} (h : ¬ MapBad args)
    (hlinks : ls.map (·.val) = mapNumbers args) (hmix : byteAt args (4 + u8At args 1) = indexByte o) :
    mapEntryOf? args = some { links := ls, lamps := BitVec.ofNat 16 (u16At args (2 + u8At args 1)), mix := o } := by
  have hof : mapLinks? args = some ls := mapM_indexOf?_eq_some_iff.mpr hlinks
  have hindex : indexOf? 32 (u8At args (4 + u8At args 1)) = o := by
    rw [u8At, hmix, indexOf?_indexByte (by decide)]
  simp only [MapBad, not_or] at h
  obtain ⟨hlen, -, htwice, hno⟩ := h
  simp only [mapEntryOf?, hof, hindex]
  refine if_neg ?_
  rintro (hbad | hbad | hbad)
  · exact hlen hbad
  · exact hbad ((nodup_of_values hlinks).mpr htwice)
  · exact hno hbad

/-- Settles O50. -/
theorem tallyMapAndLampsByRequest : Obligations.TallyMapAndLampsByRequest := by
  intro s r h
  have hmapRead (hcode : r.code = 0x1E) (hlen : 1 ≤ r.args.length) := hasCode_of_args r 0x1E 1 hcode (by decide) rfl hlen
  have hlampRead (hcode : r.code = 0x20) (hlen : 1 ≤ r.args.length) := hasCode_of_args r 0x20 1 hcode (by decide) rfl hlen
  have hlampWrite (hcode : r.code = 0x21) (hlen : 2 ≤ r.args.length) := hasCode_of_args r 0x21 2 hcode (by decide) rfl hlen
  have hmapWrite (hcode : r.code = 0x1F) (hlen : 5 + u8At r.args 1 ≤ r.args.length) :=
    hasCode_of_args r 0x1F (5 + u8At r.args 1) hcode (by decide) rfl hlen
  refine ⟨fun hcode hlen hi => exec_answer (f := State.tallyMapRead) h rfl (hmapRead hcode hlen) ?_ rfl,
    fun hcode hlen hi => exec_answer (f := State.tallyMapWrite) h rfl (hmapWrite hcode hlen) ?_ rfl,
    fun hcode hlen hi => exec_answer (f := State.lampLineRead) h rfl (hlampRead hcode hlen) ?_ rfl,
    fun hcode hlen hi => exec_answer (f := State.lampLineWrite) h rfl (hlampWrite hcode hlen) ?_ rfl,
    fun i hi => ⟨fun hcode hlen => exec_answer (f := State.tallyMapRead) h rfl (hmapRead hcode hlen) ?_ rfl,
      fun hcode hlen hbad => exec_answer (f := State.tallyMapWrite) h rfl (hmapWrite hcode hlen) ?_ rfl,
      fun ls o hcode hlen hgood hlinks hmix => exec_answer (f := State.tallyMapWrite) h rfl (hmapWrite hcode hlen) ?_ rfl⟩,
    fun n hn => ⟨fun hcode hlen => exec_answer (f := State.lampLineRead) h rfl (hlampRead hcode hlen) ?_ rfl,
      fun hcode hlen hbad => exec_answer (f := State.lampLineWrite) h rfl (hlampWrite hcode hlen) ?_ rfl,
      fun m hcode hlen hm => exec_answer (f := State.lampLineWrite) h rfl (hlampWrite hcode hlen) ?_ rfl⟩⟩
  · rw [State.tallyMapRead, sourceOf?_of_outside hi]
  · rw [State.tallyMapWrite, sourceOf?_of_outside hi]
  · rw [State.lampLineRead, indexOf?_of_le hi]
  · rw [State.lampLineWrite, indexOf?_of_le hi]
  · rw [State.tallyMapRead, sourceOf?_of_eq hi]
    refine congrArg (fun b => s.answer r .ok (s.tally.written[i].bytes ++ b)) ?_
    by_cases heq : s.tally.written[i] = s.tally.inEffect[i]
    · simp only [heq, bit, ne_eq, not_true, decide_false, if_true, Bool.toNat_false]
    · simp only [heq, bit, ne_eq, not_false_eq_true, decide_true, if_false, Bool.toNat_true]
  · rw [State.tallyMapWrite, sourceOf?_of_eq hi, mapEntryOf?_of_bad hbad]
  · rw [State.tallyMapWrite, sourceOf?_of_eq hi, mapEntryOf?_of_good hgood hlinks hmix]
  · rw [State.lampLineRead, indexOf?_of_eq hn]
    rfl
  · rw [State.lampLineWrite, indexOf?_of_eq hn, LampMode.ofCode?_of_le hbad]
  · rw [State.lampLineWrite, indexOf?_of_eq hn, hm, LampMode.ofCode?_code]

end Sys2Proof.Machine
end

section

/-! ### INPUT_READ and INPUT_WRITE (R170, R171) -/

namespace Sys2Proof.Machine

theorem flagByte_one (a : Bool) : flagByte [a] = u8 a.toNat := rfl

theorem flagByte_three (a b c : Bool) : flagByte [a, b, c] = u8 (a.toNat + 2 * b.toNat + 4 * c.toNat) := by
  cases a <;> cases b <;> cases c <;> rfl

theorem portOf?_code (p : Port) : portOf? (portCode p) = some p := by cases p <;> rfl

theorem portOf?_of_lt {n : Nat} (h : 1 < n) : portOf? n = none := by
  unfold portOf?
  split <;> first | omega | rfl

theorem eq_zero_of_u8At {args : List Byte} {i : Nat} : u8At args i = 0 ↔ byteAt args i = 0 := by
  rw [u8At]
  bv_omega

theorem inputOf?_of_bad {args : List Byte}
    (h : 1 < u8At args 2 ∨ 3 < u8At args 4 ∨ (u8At args 2 = 0 ∧ u8At args 3 ≠ 0) ∨ (u8At args 2 = 1 ∧ isUnit (byteAt args 3) = false)
      ∨ (80 ≤ u8At args 6 ∧ u8At args 6 ≠ 255)) : inputOf? args = none := by
  by_cases hport : 1 < u8At args 2
  · rw [inputOf?, portOf?_of_lt hport]
  have hcode : u8At args 2 = portCode .u ∨ u8At args 2 = portCode .d := by simp only [portCode]; omega
  rcases hcode with hu | hd
  · rw [inputOf?, hu, portOf?_code]
    refine if_pos ?_
    rcases h with hlt | hchan | ⟨-, haddr⟩ | ⟨hone, -⟩ | hlink
    · exact absurd hlt hport
    · exact .inl hchan
    · exact .inr (.inl ⟨rfl, mt eq_zero_of_u8At.mpr haddr⟩)
    · exact absurd (hu.symm.trans hone) (by decide)
    · exact .inr (.inr (.inr hlink))
  · rw [inputOf?, hd, portOf?_code]
    refine if_pos ?_
    rcases h with hlt | hchan | ⟨hzero, -⟩ | ⟨-, haddr⟩ | hlink
    · exact absurd hlt hport
    · exact .inl hchan
    · exact absurd (hd.symm.trans hzero) (by decide)
    · exact .inr (.inr (.inl ⟨rfl, by rw [haddr]; rfl⟩))
    · exact .inr (.inr (.inr hlink))

/-- The fields that an INPUT write of a named port and link carries. -/
def writtenInput (args : List Byte) (port : Port) (link : Option LinkId) : Input :=
  { enabled := flagAt args 1 0, port, addr := byteAt args 3, chan := u8At args 4, area := clamp 2 32 (u8At args 5), link }

theorem inputOf?_of_good {args : List Byte} {port : Port} {link : Option LinkId} (hport : u8At args 2 = portCode port)
    (hchan : u8At args 4 ≤ 3) (hu : port = .u → u8At args 3 = 0) (hd : port = .d → isUnit (byteAt args 3) = true)
    (hlink : byteAt args 6 = indexByte link) : inputOf? args = some (writtenInput args port link) := by
  have hindex : indexOf? 80 (u8At args 6) = link := by rw [u8At, hlink, indexOf?_indexByte (by decide)]
  have hcode : u8At args 6 = 255 ∨ u8At args 6 < 80 := by
    rw [u8At, hlink]
    cases link with
    | none => exact .inl rfl
    | some i => exact .inr (by simp [indexByte]; omega)
  rw [inputOf?, hport, portOf?_code]
  refine (if_neg ?_).trans (by rw [hindex]; rfl)
  rintro (hbad | ⟨hp, haddr⟩ | ⟨hp, haddr⟩ | hbad)
  · omega
  · exact haddr (eq_zero_of_u8At.mp (hu hp))
  · simp [hd hp] at haddr
  · omega

theorem Input.moves_iff (x w : Input) : x.moves w = true ↔ x.port ≠ w.port ∨ x.addr ≠ w.addr ∨ x.chan ≠ w.chan ∨ x.area ≠ w.area := by
  simp only [Input.moves, Bool.or_eq_true, bne_iff_ne, or_assoc]

theorem State.inputConflict_iff (s : State) (i : Fin 32) (w : Input) : s.inputConflict i w = true ↔
    ∃ j : Fin 32, j ≠ i ∧ s.mixer.inputs[j].enabled = true ∧ s.mixer.inputs[j].port = w.port ∧ s.mixer.inputs[j].addr = w.addr
      ∧ s.mixer.inputs[j].chan = w.chan := by
  simp [State.inputConflict, and_assoc]

theorem Input.write_disabled {x w : Input} (hx : x.enabled = false) (hw : w.enabled = false) :
    x.write w = { x with port := w.port, addr := w.addr, chan := w.chan, area := w.area, link := w.link } := by
  simp only [Input.write, hx, hw]

theorem Input.write_enabling {x w : Input} (hx : x.enabled = false) (hw : w.enabled = true) : x.write w = w.enable := by
  simp only [Input.write, hx, hw]

theorem Input.write_enabled {x w : Input} (hx : x.enabled = true) (hw : w.enabled = true) : x.write w = { x with link := w.link } := by
  simp only [Input.write, hx, hw]

theorem Input.write_disabling {x w : Input} (hx : x.enabled = true) (hw : w.enabled = false) :
    x.write w = { x with enabled := false, port := w.port, addr := w.addr, chan := w.chan, area := w.area, link := w.link
                         state := .disabled, buffer := [], lastPlayed := {}, lastSeq := none } := by
  simp only [Input.write, hx, hw]

/-- An accepted INPUT write (R170). -/
theorem State.inputWrite_of_accepted {s : State} {r : Request} {i : Fin 32} {w : Input} (hi : u8At r.args 0 = i.val)
    (hw : inputOf? r.args = some w) (hbusy : ¬ (s.mixer.inputs[i].enabled = true ∧ s.mixer.inputs[i].moves w = true))
    (hfree : ¬ (w.enabled = true ∧ s.inputConflict i w = true))
    (hspace : ¬ (s.mixer.inputs[i].enabled = false ∧ w.enabled = true ∧ Config.poolBlocks < s.mixer.owned + w.area)) :
    s.inputWrite r = (s.setInput i (s.mixer.inputs[i].write w)).answer r .ok (s.mixer.inputs[i].write w).writtenBytes := by
  rw [State.inputWrite, indexOf?_of_eq hi, hw]
  refine (if_neg hbusy).trans ((if_neg hfree).trans (if_neg ?_))
  simpa using hspace

/-- Settles O54. -/
theorem inputsByRequest : Obligations.InputsByRequest := by
  intro s r h written
  have hread (hcode : r.code = 0x22) (hlen : 2 ≤ r.args.length) := hasCode_of_args r 0x22 2 hcode (by decide) rfl hlen
  have hwrite (hcode : r.code = 0x23) (hlen : 7 ≤ r.args.length) := hasCode_of_args r 0x23 7 hcode (by decide) rfl hlen
  refine ⟨fun hcode hlen hi => exec_answer (f := State.inputRead) h rfl (hread hcode hlen) ?_ rfl,
    fun hcode hlen hi => exec_answer (f := State.inputWrite) h rfl (hwrite hcode hlen) ?_ rfl, fun i hi => ?_⟩
  · rw [State.inputRead, indexOf?_of_le hi]
  · rw [State.inputWrite, indexOf?_of_le hi]
  intro x stored
  refine ⟨fun hcode hlen => ⟨x.lastSeq.getD (Config.lastSeqUnknown r.id), fun n hn => ?_,
      exec_answer (f := State.inputRead) h rfl (hread hcode hlen) ?_ rfl⟩,
    fun hcode hlen hbad => exec_answer (f := State.inputWrite) h rfl (hwrite hcode hlen) ?_ rfl,
    fun port link hcode hlen hport hchan hu hd hlink => ?_⟩
  · rw [hn, Option.getD_some]
  · rw [State.inputRead, indexOf?_of_eq hi]
    simp only [Input.readBytes, flagByte_three]
    rfl
  · rw [State.inputWrite, indexOf?_of_eq hi, inputOf?_of_bad hbad]
  intro on area moves clash fresh
  let w := writtenInput r.args port link
  have hof : inputOf? r.args = some w := inputOf?_of_good hport hchan hu hd hlink
  have hmoves : x.moves w = true ↔ moves := x.moves_iff w
  have hclash : s.inputConflict i w = true ↔ clash := s.inputConflict_iff i w
  have hrow := hwrite hcode hlen
  have hoff {b : Bool} (hfalse : b = false) : ¬ b = true := by simp [hfalse]
  refine ⟨fun hx hm => exec_answer (f := State.inputWrite) h rfl hrow ?_ rfl,
    fun hfixed hon hc => exec_answer (f := State.inputWrite) h rfl hrow ?_ rfl,
    fun hx hon hc hlt => exec_answer (f := State.inputWrite) h rfl hrow ?_ rfl,
    fun hx hon hc hle => exec_answer (f := State.inputWrite) h rfl hrow ?_ rfl,
    fun hx hoff' => exec_answer (f := State.inputWrite) h rfl hrow ?_ rfl,
    fun hx hm hon hc => exec_answer (f := State.inputWrite) h rfl hrow ?_ rfl,
    fun hx hm hoff' => exec_answer (f := State.inputWrite) h rfl hrow ?_ rfl⟩
  · rw [State.inputWrite, indexOf?_of_eq hi, hof]
    exact if_pos ⟨hx, hmoves.mpr hm⟩
  · rw [State.inputWrite, indexOf?_of_eq hi, hof]
    exact (if_neg fun hb => hfixed ⟨hb.1, hmoves.mp hb.2⟩).trans (if_pos ⟨hon, hclash.mpr hc⟩)
  · rw [State.inputWrite, indexOf?_of_eq hi, hof]
    exact (if_neg fun hb => hoff hx hb.1).trans ((if_neg fun hb => hc (hclash.mp hb.2)).trans (if_pos ⟨by simpa [x] using hx, hon, hlt⟩))
  · rw [State.inputWrite_of_accepted hi hof (fun hb => hoff hx hb.1) (fun hb => hc (hclash.mp hb.2)) (fun hb => absurd hb.2.2 (Nat.not_lt.mpr hle)),
      Input.write_enabling hx hon]
    have hfresh : w.enable = fresh := congrArg (fun st : InputState => ({ w with state := st } : Input)) (if_pos hon).symm
    rw [hfresh]
    rfl
  · rw [State.inputWrite_of_accepted hi hof (fun hb => hoff hx hb.1) (fun hb => hoff hoff' hb.1) (fun hb => hoff hoff' hb.2.1),
      Input.write_disabled hx hoff']
    rfl
  · rw [State.inputWrite_of_accepted hi hof (fun hb => hm (hmoves.mp hb.2)) (fun hb => hc (hclash.mp hb.2)) (fun hb => hoff hb.1 hx),
      Input.write_enabled hx hon]
    rfl
  · rw [State.inputWrite_of_accepted hi hof (fun hb => hm (hmoves.mp hb.2)) (fun hb => hoff hoff' hb.1) (fun hb => hoff hb.1 hx),
      Input.write_disabling hx hoff']
    have hfresh : fresh.state = .disabled := if_neg (hoff hoff')
    simp only [hfresh, fresh, on, hoff']
    rfl

end Sys2Proof.Machine
end

section

/-! ### OUTPUT_READ, OUTPUT_WRITE, CROSSPOINT_READ and CROSSPOINT_WRITE (R177, R178) -/

namespace Sys2Proof.Machine

theorem clamp_zero (hi n : Nat) : clamp 0 hi n = min hi n := Nat.zero_max _

theorem outputOf?_of_bad {args : List Byte} (h : 1 < u8At args 2 ∨ u8At args 3 = 0 ∨ u8At args 3 = 255 ∨ 3 < u8At args 4) :
    outputOf? args = none := by
  rw [outputOf?]
  cases hport : portOf? (u8At args 2) with
  | none => rfl
  | some port =>
    have hcode : ¬ 1 < u8At args 2 := fun hlt => by simp [portOf?_of_lt hlt] at hport
    refine if_pos ?_
    rcases h with hlt | hzero | hall | hchan
    · exact absurd hlt hcode
    · exact .inl (eq_zero_of_u8At.mp hzero)
    · exact .inr (.inl (BitVec.eq_of_toNat_eq hall))
    · exact .inr (.inr hchan)

/-- The fields that an OUTPUT write of a named port carries. -/
def writtenOutput (args : List Byte) (port : Port) : Output :=
  { enabled := flagAt args 1 0, port, addr := byteAt args 3, chan := u8At args 4, dim := clamp 0 60 (u8At args 5) }

theorem outputOf?_of_good {args : List Byte} {port : Port} (hport : u8At args 2 = portCode port) (hzero : u8At args 3 ≠ 0)
    (hall : u8At args 3 ≠ 255) (hchan : u8At args 4 ≤ 3) : outputOf? args = some (writtenOutput args port) := by
  rw [outputOf?, hport, portOf?_code]
  refine if_neg ?_
  rintro (hbad | hbad | hbad)
  · exact hzero (eq_zero_of_u8At.mpr hbad)
  · exact hall (congrArg BitVec.toNat hbad)
  · omega

theorem Output.write_eq (x w : Output) (hseq : w.seq = 0) (hclip : w.clip = false) : x.write w =
    { w with seq := if x.enabled = false ∧ w.enabled = true then 0 else x.seq
             clip := if x.enabled = false ∧ w.enabled = true then false else x.clip } := by
  by_cases h : x.enabled = false ∧ w.enabled = true
  · rw [Output.write, if_pos (by simpa using h), if_pos h, if_pos h, ← hseq, ← hclip]
  · rw [Output.write, if_neg (by simpa using h), if_neg h, if_neg h]

theorem crosspointPair_of_outside {args : List Byte} (h : 32 ≤ u8At args 0 ∨ 32 ≤ u8At args 1) : crosspointPair args = none := by
  rw [crosspointPair]
  rcases h with hi | ho
  · rw [indexOf?_of_le hi]
  · rw [indexOf?_of_le ho]
    cases indexOf? 32 (u8At args 0) <;> rfl

theorem crosspointPair_of_eq {args : List Byte} {i o : Fin 32} (hi : u8At args 0 = i.val) (ho : u8At args 1 = o.val) :
    crosspointPair args = some (i, o) := by
  rw [crosspointPair, indexOf?_of_eq hi, indexOf?_of_eq ho]

theorem crosspointOf?_of_lt {args : List Byte} (h : 1 < u8At args 2) : crosspointOf? args = none := by
  unfold crosspointOf?
  split <;> first | omega | rfl

theorem crosspointOf?_of_le {args : List Byte} (h : u8At args 2 ≤ 1) : crosspointOf? args =
    some { on := u8At args 2 == 0, gain := clamp 0 127 (u8At args 3), dimWhenLive := flagAt args 4 0 } := by
  have hcode : u8At args 2 = 0 ∨ u8At args 2 = 1 := by omega
  rcases hcode with hzero | hone
  · rw [crosspointOf?, hzero]
    rfl
  · rw [crosspointOf?, hone]
    rfl

/-- Settles O55. -/
theorem outputsAndCrosspointsByRequest : Obligations.OutputsAndCrosspointsByRequest := by
  intro s r h written entry
  have houtRead (hcode : r.code = 0x24) (hlen : 2 ≤ r.args.length) := hasCode_of_args r 0x24 2 hcode (by decide) rfl hlen
  have houtWrite (hcode : r.code = 0x25) (hlen : 6 ≤ r.args.length) := hasCode_of_args r 0x25 6 hcode (by decide) rfl hlen
  have hcrossRead (hcode : r.code = 0x26) (hlen : 2 ≤ r.args.length) := hasCode_of_args r 0x26 2 hcode (by decide) rfl hlen
  have hcrossWrite (hcode : r.code = 0x27) (hlen : 5 ≤ r.args.length) := hasCode_of_args r 0x27 5 hcode (by decide) rfl hlen
  refine ⟨fun hcode hlen ho => exec_answer (f := State.outputRead) h rfl (houtRead hcode hlen) ?_ rfl,
    fun hcode hlen ho => exec_answer (f := State.outputWrite) h rfl (houtWrite hcode hlen) ?_ rfl,
    fun hcode hlen hp => exec_answer (f := State.crosspointRead) h rfl (hcrossRead hcode hlen) ?_ rfl,
    fun hcode hlen hp => exec_answer (f := State.crosspointWrite) h rfl (hcrossWrite hcode hlen) ?_ rfl,
    fun o ho => ⟨fun hcode hlen => exec_answer (f := State.outputRead) h rfl (houtRead hcode hlen) ?_ rfl,
      fun hcode hlen hbad => exec_answer (f := State.outputWrite) h rfl (houtWrite hcode hlen) ?_ rfl,
      fun port hcode hlen hport hzero hall hchan => exec_answer (f := State.outputWrite) h rfl (houtWrite hcode hlen) ?_ rfl⟩,
    fun i o hi ho => ⟨fun hcode hlen => exec_answer (f := State.crosspointRead) h rfl (hcrossRead hcode hlen) ?_ rfl,
      fun hcode hlen hbad => exec_answer (f := State.crosspointWrite) h rfl (hcrossWrite hcode hlen) ?_ rfl,
      fun hcode hlen hle => exec_answer (f := State.crosspointWrite) h rfl (hcrossWrite hcode hlen) ?_ rfl⟩⟩
  · rw [State.outputRead, indexOf?_of_le ho]
  · rw [State.outputWrite, indexOf?_of_le ho]
  · rw [State.crosspointRead, crosspointPair_of_outside hp]
  · rw [State.crosspointWrite, crosspointPair_of_outside hp]
  · rw [State.outputRead, indexOf?_of_eq ho]
    rfl
  · rw [State.outputWrite, indexOf?_of_eq ho, outputOf?_of_bad hbad]
  · rw [State.outputWrite, indexOf?_of_eq ho, outputOf?_of_good hport hzero hall hchan]
    dsimp only
    rw [Output.write_eq _ _ rfl rfl, writtenOutput, clamp_zero]
    rfl
  · rw [State.crosspointRead, crosspointPair_of_eq hi ho]
    rfl
  · rw [State.crosspointWrite, crosspointPair_of_eq hi ho, crosspointOf?_of_lt hbad]
  · rw [State.crosspointWrite, crosspointPair_of_eq hi ho, crosspointOf?_of_le hle, clamp_zero]
    rfl

end Sys2Proof.Machine
end

section

/-! ### The items of a CONFIG write (R189) -/

namespace Sys2Proof.Machine

/-- The value bytes of an item, by its identifier (R189). -/
def itemSize (id : Nat) : Nat := if id ∈ [4, 5, 6, 7, 8, 9, 19] then 4 else if id = 15 then 2 else 1

theorem settingSize_eq_some {id : Nat} (hlow : 1 ≤ id) (hhigh : id ≤ 22) : settingSize id = some (itemSize id) := by
  interval_cases id <;> rfl

/-- The bytes of a list of items. -/
def itemsWritten (items : List ConfigItem) : List Byte := items.flatMap fun x => u8 x.id ++ x.value

/-- An item as the table lists it. -/
def ConfigItem.Listed (x : ConfigItem) : Prop := 1 ≤ x.id ∧ x.id ≤ 22 ∧ x.value.length = itemSize x.id

theorem toNat_ofNat_of_le {n : Nat} (h : n ≤ 255) : (BitVec.ofNat 8 n).toNat = n := by
  rw [BitVec.toNat_ofNat]
  omega

/-- The listed items in front of a list are read as they are. -/
theorem readItems_written {items : List ConfigItem} (h : ∀ x ∈ items, x.Listed) (k : Nat) (rest : List Byte) :
    readItems (items.length + k) (itemsWritten items ++ rest) = (readItems k rest).map (items ++ ·) := by
  induction items with
  | nil => simp [itemsWritten]
  | cons x items ih =>
    obtain ⟨⟨hlow, hhigh, hlen⟩, hrest⟩ := List.forall_mem_cons.mp h
    have hid : (BitVec.ofNat 8 x.id).toNat = x.id := toNat_ofNat_of_le (by omega)
    have hbytes : itemsWritten (x :: items) ++ rest = BitVec.ofNat 8 x.id :: (x.value ++ (itemsWritten items ++ rest)) := by
      simp [itemsWritten, u8, List.append_assoc]
    rw [hbytes, List.length_cons, Nat.add_right_comm, readItems, hid, settingSize_eq_some hlow hhigh]
    dsimp only
    rw [if_neg (by simp [hlen]), ← hlen, List.drop_left, List.take_left, ih hrest, Option.map_map]
    rfl

theorem configItems_written {items : List ConfigItem} (h : ∀ x ∈ items, x.Listed) {k : Nat} (hk : items.length + k ≤ 255)
    (rest : List Byte) :
    configItems (u8 (items.length + k) ++ itemsWritten items ++ rest) = (readItems k rest).map (items ++ ·) := by
  have hargs : u8 (items.length + k) ++ itemsWritten items ++ rest = BitVec.ofNat 8 (items.length + k) :: (itemsWritten items ++ rest) := rfl
  rw [hargs, configItems, toNat_ofNat_of_le hk, readItems_written h]

/-- An identifier that is none ends the list (log 44). -/
theorem readItems_of_unlisted {b : Byte} (h : b.toNat = 0 ∨ 22 < b.toNat) (more : Nat) (rest : List Byte) :
    readItems (more + 1) (b :: rest) = if rest.length < more then none else some [{ id := b.toNat, value := [] }] := by
  rw [readItems, (settingSize_eq_none_iff _).mpr h]

theorem readItems_of_short {b : Byte} (hlow : 1 ≤ b.toNat) (hhigh : b.toNat ≤ 22) (more : Nat) {rest : List Byte}
    (h : rest.length < itemSize b.toNat) : readItems (more + 1) (b :: rest) = none := by
  rw [readItems, settingSize_eq_some hlow hhigh]
  exact if_pos h

/-- A CONFIG write whose first identifier is none has that item alone. -/
theorem tail_of_unlisted {args : List Byte} {x : ConfigItem} {rest : List ConfigItem} (h : configItems args = some (x :: rest))
    (hx : settingSize x.id = none) : rest = [] := by
  cases args with
  | nil => cases h
  | cons n bs =>
    rw [configItems] at h
    cases hn : n.toNat with
    | zero => rw [hn] at h; cases h
    | succ m =>
      rw [hn] at h
      cases bs with
      | nil => cases h
      | cons b bs =>
        rw [readItems] at h
        split at h
        · split at h
          · cases h
          · exact ((List.cons.inj (Option.some.inj h)).2).symm
        next k hk =>
          split at h
          · cases h
          · obtain ⟨tail, -, heq⟩ := Option.map_eq_some_iff.mp h
            rw [← (List.cons.inj heq).1] at hx
            rw [hk] at hx
            cases hx

end Sys2Proof.Machine
end
section

/-! ### The judgement of CONFIG items (R141, R189) -/

namespace Sys2Proof.Machine

/-- Was the identifier of the item at a position named before it? -/
def namedBefore (items : List ConfigItem) (p id : Nat) : Prop := ∃ (q : Nat) (y : ConfigItem), q < p ∧ items[q]? = some y ∧ y.id = id

theorem any_take_iff (items : List ConfigItem) (p id : Nat) :
    (items.take p).any (·.id = id) = true ↔ namedBefore items p id := by
  simp only [List.any_eq_true, List.mem_take_iff_getElem, decide_eq_true_eq, namedBefore]
  constructor
  · rintro ⟨y, ⟨q, hq, rfl⟩, hid⟩
    exact ⟨q, _, by omega, List.getElem?_eq_getElem (by omega), hid⟩
  · rintro ⟨q, y, hq, hy, hid⟩
    obtain ⟨hlt, rfl⟩ := List.getElem?_eq_some_iff.mp hy
    exact ⟨_, ⟨q, by omega, rfl⟩, hid⟩

theorem State.judgeItem_of_unlisted {s : State} {items : List ConfigItem} {p : Nat} {x : ConfigItem} (h : x.id = 0 ∨ 22 < x.id) :
    s.judgeItem items p x = some .badIndex := if_pos ((settingSize_eq_none_iff _).mpr h)

theorem State.judgeItem_of_before {s : State} {items : List ConfigItem} {p : Nat} {x : ConfigItem} (hlow : 1 ≤ x.id) (hhigh : x.id ≤ 22)
    (h : namedBefore items p x.id) : s.judgeItem items p x = some .badValue :=
  (if_neg (by rw [settingSize_eq_none_iff]; omega)).trans (if_pos ((any_take_iff items p x.id).mpr h))

theorem State.judgeItem_of_first {s : State} {items : List ConfigItem} {p : Nat} {x : ConfigItem} (hlow : 1 ≤ x.id) (hhigh : x.id ≤ 22)
    (h : ¬ namedBefore items p x.id) : s.judgeItem items p x = s.judgeOwner items p x :=
  (if_neg (by rw [settingSize_eq_none_iff]; omega)).trans (if_neg (mt (any_take_iff items p x.id).mp h))

theorem State.judgeItem_alone {s : State} {x : ConfigItem} (hlow : 1 ≤ x.id) (hhigh : x.id ≤ 22) :
    s.judgeItem [x] 0 x = s.judgeOwner [x] 0 x :=
  State.judgeItem_of_first hlow hhigh fun ⟨_, _, hq, _⟩ => absurd hq (Nat.not_lt_zero _)

/-- The first item of an identifier is the one that a search for it finds. -/
theorem find_of_first {items : List ConfigItem} {p : Nat} {x : ConfigItem} (h : items[p]? = some x) (hfirst : ¬ namedBefore items p x.id) :
    items.find? (·.id = x.id) = some x := by
  obtain ⟨hp, rfl⟩ := List.getElem?_eq_some_iff.mp h
  refine List.find?_eq_some_iff_getElem.mpr ⟨by simp, p, hp, rfl, fun q hq => ?_⟩
  simp only [Bool.not_eq_true', decide_eq_false_iff_not]
  exact fun hid => hfirst ⟨q, _, hq, List.getElem?_eq_getElem (by omega), hid⟩

theorem findIdx_of_first {items : List ConfigItem} {p : Nat} {x : ConfigItem} (h : items[p]? = some x)
    (hfirst : ¬ namedBefore items p x.id) : items.findIdx? (·.id = x.id) = some p := by
  obtain ⟨hp, rfl⟩ := List.getElem?_eq_some_iff.mp h
  refine List.findIdx?_eq_some_iff_getElem.mpr ⟨hp, by simp, fun q hq => ?_⟩
  simp only [decide_eq_true_eq]
  exact fun hid => hfirst ⟨q, _, hq, List.getElem?_eq_getElem (by omega), hid⟩

theorem writtenByte_of_first {items : List ConfigItem} {p : Nat} {x : ConfigItem} (h : items[p]? = some x)
    (hfirst : ¬ namedBefore items p x.id) : writtenByte items x.id = some (u8At x.value 0) := by
  rw [writtenByte, find_of_first h hfirst]
  rfl

theorem writtenByte_of_none {items : List ConfigItem} {id : Nat} (h : ∀ y ∈ items, y.id ≠ id) : writtenByte items id = none := by
  rw [writtenByte, List.find?_eq_none.mpr fun y hy => by simpa using h y hy]
  rfl

theorem clashHere_of_none {items : List ConfigItem} {id : Nat} (p : Nat) (h : ∀ y ∈ items, y.id ≠ id) : clashHere items p id = true := by
  rw [clashHere, List.findIdx?_eq_none_iff.mpr fun y hy => by simpa using h y hy]

/-- A sweep receiver named without the other is judged as in a write of its own. -/
theorem State.judgeReceiver_alone {s : State} {items : List ConfigItem} {p other : Nat} {x : ConfigItem} (h : items[p]? = some x)
    (hfirst : ¬ namedBefore items p x.id) (hpair : x.id = 12 ∧ other = 13 ∨ x.id = 13 ∧ other = 12) (hno : ∀ y ∈ items, y.id ≠ other) :
    s.judgeReceiver items p other x.value = s.judgeReceiver [x] 0 other x.value := by
  have hown : writtenByte items x.id = some (u8At x.value 0) := writtenByte_of_first h hfirst
  have halone : writtenByte [x] x.id = some (u8At x.value 0) :=
    writtenByte_of_first (p := 0) rfl fun ⟨_, _, hq, _⟩ => absurd hq (Nat.not_lt_zero _)
  have hne : ∀ y ∈ [x], y.id ≠ other := by
    rintro y hy
    obtain rfl := List.mem_singleton.mp hy
    omega
  have hclash : s.receiversClash items = s.receiversClash [x] := by
    rcases hpair with ⟨hid, rfl⟩ | ⟨hid, rfl⟩
    · rw [hid] at hown halone
      simp only [State.receiversClash, State.receiverAfter, hown, halone, writtenByte_of_none hno, writtenByte_of_none hne]
    · rw [hid] at hown halone
      simp only [State.receiversClash, State.receiverAfter, hown, halone, writtenByte_of_none hno, writtenByte_of_none hne]
  rw [State.judgeReceiver, State.judgeReceiver, hclash, clashHere_of_none p hno, clashHere_of_none 0 hne]

theorem State.judgeOwner_alone {s : State} {items : List ConfigItem} {p : Nat} {x : ConfigItem} (h : items[p]? = some x)
    (hfirst : ¬ namedBefore items p x.id) (ha : x.id = 12 → ∀ y ∈ items, y.id ≠ 13) (hb : x.id = 13 → ∀ y ∈ items, y.id ≠ 12) :
    s.judgeOwner items p x = s.judgeOwner [x] 0 x := by
  by_cases h12 : x.id = 12
  · simp only [State.judgeOwner, h12]
    exact State.judgeReceiver_alone h hfirst (.inl ⟨h12, rfl⟩) (ha h12)
  by_cases h13 : x.id = 13
  · simp only [State.judgeOwner, h13]
    exact State.judgeReceiver_alone h hfirst (.inr ⟨h13, rfl⟩) (hb h13)
  unfold State.judgeOwner
  split <;> first | rfl | contradiction

/-- A sweep receiver's judgement but for the clash (R141). -/
def State.judgeAddress (s : State) (n : Nat) : Option Result :=
  if 239 < n then some .badValue else if s.scan.state = .scanning then some .busy else none

theorem State.judgeReceiver_of_noClash {s : State} {items : List ConfigItem} {p other : Nat} {v : List Byte}
    (h : s.receiversClash items = false) : s.judgeReceiver items p other v = s.judgeAddress (u8At v 0) := by
  rw [State.judgeReceiver, h]
  rfl

theorem State.judgeReceiver_of_clash {s : State} {items : List ConfigItem} {p other : Nat} {v : List Byte}
    (h : s.receiversClash items = true) (hhere : clashHere items p other = true) : s.judgeReceiver items p other v = some .badValue := by
  rw [State.judgeReceiver, h, hhere]
  exact ite_self _

theorem State.judgeReceiver_cases (s : State) (items : List ConfigItem) (p other : Nat) (v : List Byte) :
    s.judgeReceiver items p other v = some .badValue ∨ s.judgeReceiver items p other v = s.judgeAddress (u8At v 0) := by
  by_cases hclash : s.receiversClash items && clashHere items p other
  · left
    rw [State.judgeReceiver, hclash]
    exact ite_self _
  · right
    rw [State.judgeReceiver, if_neg hclash]
    rfl

end Sys2Proof.Machine
end

section

/-! ### The storing, the read and the rows of CONFIG (R189) -/

namespace Sys2Proof.Machine

theorem State.storeItem_markStale (s : State) (x : ConfigItem) : s.markStale.storeItem x = (s.storeItem x).markStale := by
  unfold State.storeItem
  split <;> first
    | rfl
    | (unfold State.storeFrameRate; split <;> rfl)
    | (unfold State.storeScanMode; split <;> rfl)
    | (unfold State.storeStaleAction; split <;> rfl)

theorem State.foldl_storeItem_markStale (s : State) (items : List ConfigItem) :
    items.foldl State.storeItem s.markStale = (items.foldl State.storeItem s).markStale := by
  induction items generalizing s with
  | nil => rfl
  | cons x items ih => rw [List.foldl_cons, List.foldl_cons, State.storeItem_markStale, ih]

theorem State.markStale_markStale (s : State) : s.markStale.markStale = s.markStale := by
  simp only [State.markStale, Option.map_map, Function.comp_def]

theorem State.storeItems_cons (s : State) (x : ConfigItem) (items : List ConfigItem) :
    s.storeItems (x :: items) = (s.storeItems [x]).storeItems items := by
  simp only [State.storeItems, List.foldl_cons, List.foldl_nil, List.any_cons, List.any_nil, Bool.or_false]
  by_cases hx : isCoordSetting x.id = true
  · simp only [hx, Bool.true_or, if_true, State.foldl_storeItem_markStale, State.markStale_markStale, ite_self]
  · simp only [hx, Bool.false_or, if_false, Bool.false_eq_true]

theorem State.storeItem_agent (s : State) (x : ConfigItem) : (s.storeItem x).agent = s.agent := by
  unfold State.storeItem
  split <;> first
    | rfl
    | (unfold State.storeFrameRate; split <;> rfl)
    | (unfold State.storeScanMode; split <;> rfl)
    | (unfold State.storeStaleAction; split <;> rfl)

/-- The storing of settings leaves the agent alone. -/
theorem State.storeItems_agent (s : State) (items : List ConfigItem) : (s.storeItems items).agent = s.agent := by
  have hfold : (items.foldl State.storeItem s).agent = s.agent := by
    induction items generalizing s with
    | nil => rfl
    | cons x items ih => rw [List.foldl_cons, ih, State.storeItem_agent]
  rw [State.storeItems]
  split <;> exact hfold

/-- A CONFIG read returns the items asked for, from the first on, as many whole ones as fit. -/
theorem State.fitItems_eq (s : State) (room : Nat) (ids : List Nat) : ∃ k : Nat, k ≤ ids.length
    ∧ s.fitItems room ids = (ids.take k).flatMap s.itemBytes ∧ ((ids.take k).flatMap s.itemBytes).length ≤ room
    ∧ (k < ids.length → room < ((ids.take (k + 1)).flatMap s.itemBytes).length) := by
  induction ids generalizing room with
  | nil => exact ⟨0, Nat.le_refl _, rfl, Nat.zero_le _, fun h => absurd h (Nat.not_lt_zero _)⟩
  | cons id ids ih =>
    by_cases hfit : (s.itemBytes id).length ≤ room
    · obtain ⟨k, hk, heq, hlen, hnext⟩ := ih (room - (s.itemBytes id).length)
      refine ⟨k + 1, Nat.succ_le_succ hk, ?_, ?_, fun hlt => ?_⟩
      · rw [State.fitItems, if_pos hfit, heq]
        rfl
      · rw [List.take_succ_cons, List.flatMap_cons, List.length_append]
        omega
      · have hroom := hnext (Nat.lt_of_succ_lt_succ hlt)
        rw [List.take_succ_cons, List.flatMap_cons, List.length_append]
        omega
    · refine ⟨0, Nat.zero_le _, ?_, Nat.zero_le _, fun _ => ?_⟩
      · rw [State.fitItems, if_neg hfit]
        rfl
      · rw [List.take_succ_cons, List.flatMap_cons, List.length_append]
        omega

/-- What a search finds at the first place where its function answers. -/
theorem findSome?_of_first {α β : Type} {l : List α} {f : α → Option β} {p : Nat} {a : α} {b : β} (ha : l[p]? = some a)
    (hf : f a = some b) (hfirst : ∀ (q : Nat) (y : α), q < p → l[q]? = some y → f y = none) : l.findSome? f = some b := by
  induction l generalizing p with
  | nil => simp at ha
  | cons x l ih =>
    cases p with
    | zero =>
      obtain rfl : x = a := by simpa using ha
      rw [List.findSome?_cons, hf]
    | succ p =>
      rw [List.findSome?_cons, hfirst 0 x (Nat.succ_pos p) rfl]
      exact ih (by simpa using ha) fun q y hq hy => hfirst (q + 1) y (by omega) (by simpa using hy)

theorem State.firstRefusal_of_first {s : State} {items : List ConfigItem} {p : Nat} {x : ConfigItem} {res : Result}
    (hx : items[p]? = some x) (hres : s.judgeItem items p x = some res)
    (hfirst : ∀ (q : Nat) (y : ConfigItem), q < p → items[q]? = some y → s.judgeItem items q y = none) :
    s.firstRefusal items = some (res, x.id) := by
  refine findSome?_of_first (p := p) (a := (x, p)) (by simp [List.getElem?_zipIdx, hx]) (by rw [hres]; rfl) fun q y hq hy => ?_
  obtain ⟨z, hz, rfl⟩ : ∃ z, items[q]? = some z ∧ (z, q) = y := by simpa [List.getElem?_zipIdx] using hy
  rw [hfirst q z hq hz]
  rfl

theorem State.firstRefusal_eq_none_iff (s : State) (items : List ConfigItem) : s.firstRefusal items = none ↔
    ∀ (p : Nat) (x : ConfigItem), items[p]? = some x → s.judgeItem items p x = none := by
  simp only [State.firstRefusal, List.findSome?_eq_none_iff, Option.map_eq_none_iff, Prod.forall, List.mem_zipIdx_iff_getElem?]
  exact forall_comm

theorem exec_configRow {row : Instr} {id : Nat} (h : (row, id) ∈ configRows) (s : State) :
    exec row s = s.settled fun t => t.take (writesSetting id) State.configWrite := by
  simp only [configRows, List.mem_cons, List.not_mem_nil, or_false, Prod.mk.injEq] at h
  rcases h with ⟨rfl, rfl⟩ | ⟨rfl, rfl⟩ | ⟨rfl, rfl⟩ | ⟨rfl, rfl⟩ | ⟨rfl, rfl⟩ | ⟨rfl, rfl⟩ | ⟨rfl, rfl⟩ | ⟨rfl, rfl⟩ | ⟨rfl, rfl⟩
    | ⟨rfl, rfl⟩ | ⟨rfl, rfl⟩ | ⟨rfl, rfl⟩ | ⟨rfl, rfl⟩ | ⟨rfl, rfl⟩ | ⟨rfl, rfl⟩ | ⟨rfl, rfl⟩ | ⟨rfl, rfl⟩ | ⟨rfl, rfl⟩ | ⟨rfl, rfl⟩
    | ⟨rfl, rfl⟩ | ⟨rfl, rfl⟩ | ⟨rfl, rfl⟩ <;> rfl

/-- A CONFIG write that names a listed setting is judged by the owners, and not by the common judgement. -/
theorem writesSetting_of_items {r : Request} {items : List ConfigItem} {row : Instr} {id : Nat} (hcode : r.code = 0x29)
    (hitems : configItems r.args = some items) (hrow : (row, id) ∈ configRows) (hnames : ∃ x ∈ items, x.id = id) :
    writesSetting id r = true := by
  obtain ⟨x, hx, hid⟩ := hnames
  have hlisted : settingSize id ≠ none := by
    simp only [configRows, List.mem_cons, List.not_mem_nil, or_false, Prod.mk.injEq] at hrow
    rw [Ne, settingSize_eq_none_iff]
    omega
  have hnone : commonJudgement r = none := by
    rw [commonJudgement_of_config hcode hitems]
    cases items with
    | nil => cases hx
    | cons y rest =>
      refine if_neg fun hy => ?_
      have hrest := tail_of_unlisted hitems hy
      subst hrest
      obtain rfl := List.mem_singleton.mp hx
      exact hlisted (hid ▸ hy)
  have hany : items.any (·.id = id) = true := List.any_eq_true.mpr ⟨x, hx, by simpa using hid⟩
  simp only [writesSetting, hasCode, namesSetting, hcode, hnone, hitems, hany, Option.isNone_none, beq_self_eq_true, Bool.and_self]

/-- Settles O56. -/
theorem configIsReadAndWritten : Obligations.ConfigIsReadAndWritten := by
  refine ⟨?_, ?_, ?_, ?_, ?_, ?_, ?_, ?_⟩
  · intro size written items h
    have hlisted : ∀ x ∈ items, x.Listed := h
    refine ⟨fun extra hlen => ?_, fun more b rest hlen hb => ?_, fun more b rest hlen hlow hhigh hshort => ?_, fun more hlen => ?_⟩
    · refine (configItems_written hlisted (k := 0) hlen extra).trans ?_
      simp only [readItems, Option.map_some, List.append_nil]
    · rw [Nat.add_assoc, Nat.add_comm 1 more] at hlen ⊢
      refine (configItems_written hlisted hlen (b :: rest)).trans ?_
      rw [readItems_of_unlisted (hb.imp_left fun hzero => by rw [hzero]; rfl)]
      split <;> rfl
    · rw [Nat.add_assoc, Nat.add_comm 1 more] at hlen ⊢
      refine (configItems_written hlisted hlen (b :: rest)).trans ?_
      rw [readItems_of_short hlow hhigh more hshort]
      rfl
    · rw [Nat.add_assoc, Nat.add_comm 1 more] at hlen ⊢
      refine (congrArg configItems (List.append_nil _).symm).trans ((configItems_written hlisted hlen []).trans ?_)
      rfl
  · intro s
    refine ⟨rfl, rfl, rfl, rfl, rfl, rfl, rfl, rfl, rfl, rfl, rfl, rfl, rfl, rfl, rfl, rfl, rfl, rfl, rfl, rfl, rfl, rfl⟩
  · intro s items p x hx before
    refine ⟨fun hid => State.judgeItem_of_unlisted hid, fun hlow hhigh hb => State.judgeItem_of_before hlow hhigh hb,
      fun hfirst ha hb => ?_⟩
    by_cases hid : x.id = 0 ∨ 22 < x.id
    · rw [State.judgeItem_of_unlisted hid, State.judgeItem_of_unlisted hid]
    · rw [State.judgeItem_of_first (by omega) (by omega) hfirst, State.judgeItem_alone (by omega) (by omega),
        State.judgeOwner_alone hx hfirst ha hb]
  · intro s items p q x y hx hy hxid hyid hunique a b alone
    have hxfirst : ¬ namedBefore items p x.id := fun ⟨m, z, hm, hz, hid⟩ =>
      absurd ((hunique m z hz).1 (hid.trans hxid)) (by omega)
    have hyfirst : ¬ namedBefore items q y.id := fun ⟨m, z, hm, hz, hid⟩ =>
      absurd ((hunique m z hz).2 (hid.trans hyid)) (by omega)
    have hjx : s.judgeItem items p x = s.judgeReceiver items p 13 x.value := by
      rw [State.judgeItem_of_first (by omega) (by omega) hxfirst]
      simp only [State.judgeOwner, hxid]
    have hjy : s.judgeItem items q y = s.judgeReceiver items q 12 y.value := by
      rw [State.judgeItem_of_first (by omega) (by omega) hyfirst]
      simp only [State.judgeOwner, hyid]
    have ha : writtenByte items 12 = some a := hxid ▸ writtenByte_of_first hx hxfirst
    have hb : writtenByte items 13 = some b := hyid ▸ writtenByte_of_first hy hyfirst
    have hclash : s.receiversClash items = (a == b && a != 0) := by
      simp only [State.receiversClash, State.receiverAfter, ha, hb, Option.getD_some]
    have hxhere (hlt : q < p) : clashHere items p 13 = true := by
      have hidx : items.findIdx? (·.id = 13) = some q := hyid ▸ findIdx_of_first hy hyfirst
      simp only [clashHere, hidx, if_neg (Nat.lt_asymm hlt)]
    have hyhere (hlt : p < q) : clashHere items q 12 = true := by
      have hidx : items.findIdx? (·.id = 12) = some p := hxid ▸ findIdx_of_first hx hxfirst
      simp only [clashHere, hidx, if_neg (Nat.lt_asymm hlt)]
    rw [hjx, hjy]
    refine ⟨fun hne => ⟨State.judgeReceiver_of_noClash ?_, State.judgeReceiver_of_noClash ?_⟩,
      fun heq hzero hlt => ⟨State.judgeReceiver_of_clash ?_ (hyhere hlt), s.judgeReceiver_cases items p 13 x.value⟩,
      fun heq hzero hlt => ⟨State.judgeReceiver_of_clash ?_ (hxhere hlt), s.judgeReceiver_cases items q 12 y.value⟩⟩
    · rw [hclash]; simpa using or_iff_not_imp_left.mp hne
    · rw [hclash]; simpa using or_iff_not_imp_left.mp hne
    · rw [hclash]; simpa [hzero] using heq
    · rw [hclash]; simpa [hzero] using heq
  · exact fun s x items => ⟨rfl, s.storeItems_cons x items⟩
  · intro s r ids h hcode hlen hids
    have hrow := hasCode_of_args r 0x28 (1 + u8At r.args 0) hcode (by decide) rfl hlen
    have hread : readIds r.args = ids := hids.symm
    refine ⟨fun ⟨id, hid, hbad⟩ => exec_answer (f := State.configRead) h rfl hrow ?_ rfl, fun hall => ?_⟩
    · rw [State.configRead, hread]
      refine if_neg fun hsome => ?_
      have := List.all_eq_true.mp hsome id hid
      simp [(settingSize_eq_none_iff id).mpr hbad] at this
    · obtain ⟨k, hk, heq, hfit, hnext⟩ := s.fitItems_eq 45 ids
      refine ⟨k, hk, exec_answer (f := State.configRead) h rfl hrow ?_ rfl, hfit, hnext⟩
      rw [State.configRead, hread, ← heq]
      refine if_pos (List.all_eq_true.mpr fun id hid => ?_)
      rw [settingSize_eq_some (hall id hid).1 (hall id hid).2]
      rfl
  · intro s r items row id h hcode hitems hrow hnames
    have hwrites := writesSetting_of_items hcode hitems hrow hnames
    have hexec : exec row s = .next (s.finishFrame.take (writesSetting id) State.configWrite) := exec_configRow hrow s
    refine ⟨fun hnone => exec_answer h hexec hwrites ?_ ?_, fun res n hsome => exec_answer h hexec hwrites ?_ rfl⟩
    · simp only [State.configWrite, hitems, hnone]
    · rw [State.storeItems_agent]
    · simp only [State.configWrite, hitems, hsome]
  · exact fun s items => ⟨s.firstRefusal_eq_none_iff items, fun p x res hx hres hfirst => State.firstRefusal_of_first hx hres hfirst⟩

end Sys2Proof.Machine
end

section

/-! ### Each setting's judgement and storing (R18, R20, R42, R43, R97, R106, R141, R164) -/

namespace Sys2Proof.Machine

theorem FrameRate.ofCode?_of_lt {n : Nat} (h : 5 < n) : FrameRate.ofCode? n = none := by
  unfold FrameRate.ofCode?
  split <;> first | omega | rfl

theorem ScanMode.ofCode?_of_lt {n : Nat} (h : 2 < n) : ScanMode.ofCode? n = none := by
  unfold ScanMode.ofCode?
  split <;> first | omega | rfl

theorem StaleAction.ofCode?_of_lt {n : Nat} (h : 1 < n) : StaleAction.ofCode? n = none := by
  unfold StaleAction.ofCode?
  split <;> first | omega | rfl

/-- A write of one setting is judged by its owner. -/
theorem State.judge_single (s : State) (v : List Byte) {id : Nat} (hlow : 1 ≤ id) (hhigh : id ≤ 22) :
    s.judgeItem [{ id, value := v }] 0 { id, value := v } = s.judgeOwner [{ id, value := v }] 0 { id, value := v } :=
  State.judgeItem_alone (x := { id, value := v }) hlow hhigh

theorem State.planInUse_iff (s : State) : s.planInUse = true ↔
    ∃ e : EntryId, s.plan.carriers[e].state ≠ .free ∧ s.plan.carriers[e].state ≠ .blocked := by
  simp only [State.planInUse, List.any_eq_true, Vector.mem_toList_iff, Carrier.counted, Bool.and_eq_true, bne_iff_ne]
  constructor
  · rintro ⟨c, hc, hstate⟩
    obtain ⟨i, hi, rfl⟩ := Vector.mem_iff_getElem.mp hc
    exact ⟨⟨i, hi⟩, hstate⟩
  · rintro ⟨e, hstate⟩
    exact ⟨_, Vector.getElem_mem e.isLt, hstate⟩

theorem adjacentWithin_iff (width : Nat) (xs : List Foreign) : adjacentWithin width (xs.map (·.freq)) = true ↔
    ∃ (below above : List Foreign) (x y : Foreign), xs = below ++ x :: y :: above ∧ apart x.freq y.freq ≤ width := by
  induction xs with
  | nil => simp [adjacentWithin]
  | cons f xs ih =>
    cases xs with
    | nil =>
      simp only [List.map_cons, List.map_nil, adjacentWithin, Bool.false_eq_true, false_iff]
      rintro ⟨below, above, x, y, heq, -⟩
      have hlen := congrArg List.length heq
      simp at hlen
      omega
    | cons g rest =>
      rw [List.map_cons, List.map_cons, adjacentWithin, ← List.map_cons, Bool.or_eq_true, decide_eq_true_eq, ih]
      constructor
      · rintro (hnear | ⟨below, above, x, y, heq, hnear⟩)
        · exact ⟨[], rest, f, g, rfl, hnear⟩
        · exact ⟨f :: below, above, x, y, by rw [heq]; rfl, hnear⟩
      · rintro ⟨below, above, x, y, heq, hnear⟩
        cases below with
        | nil =>
          obtain ⟨rfl, hrest⟩ := List.cons.inj heq
          obtain ⟨rfl, -⟩ := List.cons.inj hrest
          exact .inl hnear
        | cons z below => exact .inr ⟨below, above, x, y, (List.cons.inj heq).2, hnear⟩

theorem State.receiversClash_a (s : State) (v : List Byte) : s.receiversClash [{ id := 12, value := v }] = true ↔
    u8At v 0 = s.scan.settings.recvB.toNat ∧ u8At v 0 ≠ 0 := by
  simp [State.receiversClash, State.receiverAfter, writtenByte]

theorem State.receiversClash_b (s : State) (v : List Byte) : s.receiversClash [{ id := 13, value := v }] = true ↔
    u8At v 0 = s.scan.settings.recvA.toNat ∧ u8At v 0 ≠ 0 := by
  have ha : s.receiverAfter [{ id := 13, value := v }] .a = s.scan.settings.recvA.toNat := rfl
  have hb : s.receiverAfter [{ id := 13, value := v }] .b = u8At v 0 := rfl
  rw [State.receiversClash, ha, hb, Bool.and_eq_true, beq_iff_eq, bne_iff_ne]
  constructor
  · rintro ⟨heq, hne⟩
    exact ⟨heq.symm, heq ▸ hne⟩
  · rintro ⟨heq, hne⟩
    exact ⟨heq.symm, heq ▸ hne⟩

theorem State.judgeReceiver_single_bad {s : State} {x : ConfigItem} {other : Nat} (hne : x.id ≠ other)
    (h : 239 < u8At x.value 0 ∨ s.receiversClash [x] = true) : s.judgeReceiver [x] 0 other x.value = some .badValue := by
  rcases h with hlt | hclash
  · exact if_pos hlt
  · exact State.judgeReceiver_of_clash hclash (clashHere_of_none 0 fun y hy => List.mem_singleton.mp hy ▸ hne)

theorem State.judgeReceiver_single_good {s : State} {x : ConfigItem} {other : Nat} (hle : u8At x.value 0 ≤ 239)
    (h : s.receiversClash [x] ≠ true) :
    s.judgeReceiver [x] 0 other x.value = if s.scan.state = .scanning then some .busy else none :=
  (State.judgeReceiver_of_noClash (Bool.eq_false_iff.mpr h)).trans (if_neg (Nat.not_lt.mpr hle))

/-- Settles O57. -/
theorem settingsAreJudgedAndStored : Obligations.SettingsAreJudgedAndStored := by
  intro s v b judged stored rounded coord scan inUse
  have hjudged {id : Nat} (hlow : 1 ≤ id) (hhigh : id ≤ 22) :
      judged id = s.judgeOwner [{ id, value := v }] 0 { id, value := v } := s.judge_single v hlow hhigh
  have hcoord {id : Nat} (hlow : 4 ≤ id) (hhigh : id ≤ 9) : judged id = s.judgeCoordSetting := by
    rw [hjudged (by omega) (by omega)]
    interval_cases id <;> rfl
  have hinUse : s.planInUse = true ↔ inUse := s.planInUse_iff
  have hbadA (h : 239 < b ∨ (b = s.scan.settings.recvB.toNat ∧ b ≠ 0)) : judged 12 = some .badValue :=
    (hjudged (by decide) (by decide)).trans
      (State.judgeReceiver_single_bad (x := { id := 12, value := v }) (other := 13) (show 12 ≠ 13 by decide) (h.imp_right (s.receiversClash_a v).mpr))
  have hbadB (h : 239 < b ∨ (b = s.scan.settings.recvA.toNat ∧ b ≠ 0)) : judged 13 = some .badValue :=
    (hjudged (by decide) (by decide)).trans
      (State.judgeReceiver_single_bad (x := { id := 13, value := v }) (other := 12) (show 13 ≠ 12 by decide) (h.imp_right (s.receiversClash_b v).mpr))
  have hgoodA (hle : b ≤ 239) (h : b ≠ s.scan.settings.recvB.toNat ∨ b = 0) :
      judged 12 = if s.scan.state = .scanning then some .busy else none :=
    (hjudged (by decide) (by decide)).trans (State.judgeReceiver_single_good (x := { id := 12, value := v }) (other := 13) hle
      fun hclash => h.elim (· ((s.receiversClash_a v).mp hclash).1) ((s.receiversClash_a v).mp hclash).2)
  have hgoodB (hle : b ≤ 239) (h : b ≠ s.scan.settings.recvA.toNat ∨ b = 0) :
      judged 13 = if s.scan.state = .scanning then some .busy else none :=
    (hjudged (by decide) (by decide)).trans (State.judgeReceiver_single_good (x := { id := 13, value := v }) (other := 12) hle
      fun hclash => h.elim (· ((s.receiversClash_b v).mp hclash).1) ((s.receiversClash_b v).mp hclash).2)
  have hlayout : judged 16 = s.judgeLayout v := hjudged (by decide) (by decide)
  refine ⟨fun hlt => ?_, fun rate hb => ⟨?_, ?_⟩, fun hlt => ?_, fun hle => ⟨?_, rfl⟩, ⟨rfl, rfl⟩,
    fun id hlow hhigh => ⟨fun huse => ?_, fun hfree => ?_⟩, ?_, ?_, ?_, ?_, ?_, ?_, ⟨rfl, rfl⟩, ⟨rfl, rfl⟩, hbadA, hbadB,
    fun hle hb hscan => (hgoodA hle hb).trans (if_pos hscan), fun hle hb hscan => (hgoodB hle hb).trans (if_pos hscan),
    fun hle hb hscan => ⟨(hgoodA hle hb).trans (if_neg hscan), rfl⟩, fun hle hb hscan => ⟨(hgoodB hle hb).trans (if_neg hscan), rfl⟩,
    fun hlt => ?_, fun mode hb => ⟨?_, ?_⟩, ⟨rfl, rfl⟩, fun hlt => ?_, fun hle hscan => ?_, fun hle hscan => ⟨?_, rfl⟩, ⟨rfl, rfl⟩,
    ⟨rfl, rfl⟩, ?_, ⟨rfl, rfl⟩, ⟨rfl, rfl⟩, fun hlt => ?_, fun action hb => ⟨?_, ?_⟩⟩
  · refine (hjudged (by decide) (by decide)).trans ?_
    have hcode : FrameRate.ofCode? (u8At v 0) = none := FrameRate.ofCode?_of_lt hlt
    simp only [State.judgeOwner, judgeFrameRate, hcode]
    rfl
  · refine (hjudged (by decide) (by decide)).trans ?_
    have hcode : FrameRate.ofCode? (u8At v 0) = some rate := (congrArg _ hb).trans rate.ofCode?_code
    simp only [State.judgeOwner, judgeFrameRate, hcode]
    rfl
  · have hcode : FrameRate.ofCode? (u8At v 0) = some rate := (congrArg _ hb).trans rate.ofCode?_code
    show s.storeFrameRate v = _
    rw [State.storeFrameRate, hcode]
    rfl
  · exact (hjudged (by decide) (by decide)).trans (if_pos hlt)
  · exact (hjudged (by decide) (by decide)).trans (if_neg (Nat.not_lt.mpr hle))
  · exact (hcoord hlow hhigh).trans (if_pos (hinUse.mpr huse))
  · exact (hcoord hlow hhigh).trans (if_neg (mt hinUse.mp hfree))
  · rfl
  · rfl
  · rfl
  · rfl
  · rfl
  · rfl
  · refine (hjudged (by decide) (by decide)).trans ?_
    have hcode : ScanMode.ofCode? (u8At v 0) = none := ScanMode.ofCode?_of_lt hlt
    simp only [State.judgeOwner, judgeScanMode, hcode]
    rfl
  · refine (hjudged (by decide) (by decide)).trans ?_
    have hcode : ScanMode.ofCode? (u8At v 0) = some mode := (congrArg _ hb).trans mode.ofCode?_code
    simp only [State.judgeOwner, judgeScanMode, hcode]
    rfl
  · have hcode : ScanMode.ofCode? (u8At v 0) = some mode := (congrArg _ hb).trans mode.ofCode?_code
    show s.storeScanMode v = _
    rw [State.storeScanMode, hcode]
    rfl
  · exact hlayout.trans (if_pos hlt)
  · exact hlayout.trans ((if_neg (Nat.not_lt.mpr hle)).trans (if_pos hscan))
  · exact hlayout.trans ((if_neg (Nat.not_lt.mpr hle)).trans (if_neg hscan))
  · intro width joins
    have hjoins : adjacentWithin (mergeWidthOf v) (s.scan.foreign.map (·.freq)) = true ↔ joins := adjacentWithin_iff width s.scan.foreign
    exact ⟨fun h => (hjudged (by decide) (by decide)).trans (if_pos (hjoins.mpr h)),
      fun h => (hjudged (by decide) (by decide)).trans (if_neg (mt hjoins.mp h)), rfl⟩
  · refine (hjudged (by decide) (by decide)).trans ?_
    have hcode : StaleAction.ofCode? (u8At v 0) = none := StaleAction.ofCode?_of_lt hlt
    simp only [State.judgeOwner, judgeStaleAction, hcode]
    rfl
  · refine (hjudged (by decide) (by decide)).trans ?_
    have hcode : StaleAction.ofCode? (u8At v 0) = some action := (congrArg _ hb).trans action.ofCode?_code
    simp only [State.judgeOwner, judgeStaleAction, hcode]
    rfl
  · have hcode : StaleAction.ofCode? (u8At v 0) = some action := (congrArg _ hb).trans action.ofCode?_code
    show s.storeStaleAction v = _
    rw [State.storeStaleAction, hcode]

end Sys2Proof.Machine
end

section

/-! ### The status flags and the report enables (R190 to R192) -/

namespace Sys2Proof.Machine

theorem Group.ofCode?_code (g : Group) : Group.ofCode? g.code = some g := by cases g <;> rfl

theorem Group.ofCode?_of_le {n : Nat} (h : 8 ≤ n) : Group.ofCode? n = none := by
  unfold Group.ofCode?
  split <;> first | omega | rfl

theorem setWidth_ne_zero_iff {w : Nat} (hw : w ≤ 8) (x : BitVec w) : x.setWidth 8 ≠ 0 ↔ x ≠ 0 := by
  refine not_congr ⟨fun h => BitVec.eq_of_getLsbD_eq fun i hi => ?_, fun h => by rw [h]; exact BitVec.setWidth_zero _ _⟩
  have hbit := congrArg (BitVec.getLsbD · i) h
  simpa [BitVec.getLsbD_setWidth, show i < 8 by omega] using hbit

theorem StatusFlags.bytes_link_bit (f : StatusFlags) {j : Nat} (hj : j < 24) :
    (byteAt (f.bytes .link) (j / 8)).getLsbD (j % 8) = f.link.getLsbD j := by
  have hmod : j % 8 < 8 := Nat.mod_lt _ (by decide)
  obtain h | h | h : j / 8 = 0 ∨ j / 8 = 1 ∨ j / 8 = 2 := by omega
  · have hb : byteAt (f.bytes .link) (j / 8) = f.link.setWidth 8 := by rw [h]; rfl
    simp only [hb, BitVec.getLsbD_setWidth, hmod, decide_true, Bool.true_and]
    congr 1; omega
  · have hb : byteAt (f.bytes .link) (j / 8) = (f.link >>> 8).setWidth 8 := by rw [h]; rfl
    simp only [hb, BitVec.getLsbD_setWidth, BitVec.getLsbD_ushiftRight, hmod, decide_true, Bool.true_and]
    congr 1; omega
  · have hb : byteAt (f.bytes .link) (j / 8) = (f.link >>> 16).setWidth 8 := by rw [h]; rfl
    simp only [hb, BitVec.getLsbD_setWidth, BitVec.getLsbD_ushiftRight, hmod, decide_true, Bool.true_and]
    congr 1; omega

theorem StatusFlags.link_ne_zero_iff (f : StatusFlags) : f.link ≠ 0 ↔ ∃ b ∈ f.bytes .link, b ≠ 0 := by
  constructor
  · intro h
    by_contra hall
    push Not at hall
    refine h (BitVec.eq_of_getLsbD_eq fun j hj => ?_)
    rw [← f.bytes_link_bit (show j < 24 by omega)]
    have hmem : byteAt (f.bytes .link) (j / 8) ∈ f.bytes .link := by
      obtain hq | hq | hq : j / 8 = 0 ∨ j / 8 = 1 ∨ j / 8 = 2 := by omega
      all_goals rw [hq]; simp [byteAt, StatusFlags.bytes]
    rw [hall _ hmem]
    simp
  · rintro ⟨b, hb, hne⟩ hzero
    refine hne ?_
    simp only [StatusFlags.bytes, hzero, List.mem_cons, List.not_mem_nil, or_false] at hb
    rcases hb with rfl | rfl | rfl <;> rfl

theorem StatusFlags.summary_bit (f : StatusFlags) (g : Group) : f.summary.getLsbD g.code = true ↔ ∃ b ∈ f.bytes g, b ≠ 0 := by
  have hbit (fs : List Bool) (i : Nat) (hi : i < 8) : (byteAt (flagByte fs) 0).getLsbD i = fs.getD i false := getLsbD_flags fs i hi
  have hone {w : Nat} (hw : w ≤ 8) (x : BitVec w) : (x ≠ 0) ↔ ∃ b ∈ [x.setWidth 8], b ≠ 0 :=
    ⟨fun h => ⟨_, List.mem_singleton_self _, (setWidth_ne_zero_iff hw x).mpr h⟩,
      fun ⟨_, hb, hne⟩ => (setWidth_ne_zero_iff hw x).mp (List.mem_singleton.mp hb ▸ hne)⟩
  rw [StatusFlags.summary, hbit _ _ (by cases g <;> decide)]
  cases g with
  | port =>
    refine decide_eq_true_iff.trans ?_
    rw [← setWidth_ne_zero_iff (w := 7) (by decide), ← setWidth_ne_zero_iff (w := 7) (by decide)]
    simp [StatusFlags.bytes]
  | link => exact decide_eq_true_iff.trans f.link_ne_zero_iff
  | timing => exact decide_eq_true_iff.trans (hone (by decide) _)
  | plan => exact decide_eq_true_iff.trans (hone (by decide) _)
  | scan => exact decide_eq_true_iff.trans (hone (by decide) _)
  | tally => exact decide_eq_true_iff.trans (hone (by decide) _)
  | mix => exact decide_eq_true_iff.trans (hone (by decide) _)
  | mgmt => exact decide_eq_true_iff.trans (hone (by decide) _)

/-- A mask byte clears the flags of a byte whose bits it has. -/
theorem setWidth_and_not {w : Nat} (x : BitVec w) (m : Byte) (hw : w ≤ 8) :
    (x &&& ~~~(m.setWidth w)).setWidth 8 = x.setWidth 8 &&& ~~~m := by
  refine BitVec.eq_of_getLsbD_eq fun i hi => ?_
  simp only [BitVec.getLsbD_setWidth, BitVec.getLsbD_and, BitVec.getLsbD_not, hi, decide_true, Bool.true_and]
  by_cases hiw : i < w
  · simp [hiw]
  · simp [BitVec.getLsbD_of_ge x i (by omega)]

theorem StatusFlags.clear_link_bit (f : StatusFlags) (mask : List Byte) {j : Nat} (hj : j < 24) :
    (f.clear .link mask).link.getLsbD j = (f.link.getLsbD j && !(byteAt mask (j / 8)).getLsbD (j % 8)) := by
  by_cases hw : j < 17
  · simp only [StatusFlags.clear, BitVec.getLsbD_and, BitVec.getLsbD_not, BitVec.getLsbD_or, BitVec.getLsbD_shiftLeft,
      BitVec.getLsbD_setWidth, hw, decide_true, Bool.true_and]
    refine congrArg (fun b => f.link.getLsbD j && !b) ?_
    obtain hlt | hlt | hlt : j < 8 ∨ (8 ≤ j ∧ j < 16) ∨ j = 16 := by omega
    · have hq : j / 8 = 0 := by omega
      have hr : j % 8 = j := by omega
      simp [hq, hr, hlt, show j < 16 by omega]
    · have hq : j / 8 = 1 := by omega
      have hr : j % 8 = j - 8 := by omega
      simp [hq, hr, hlt.2, show ¬ j < 8 by omega, show j - 8 < 17 by omega, BitVec.getLsbD_of_ge (byteAt mask 0) j hlt.1]
    · subst hlt
      simp [BitVec.getLsbD_of_ge (byteAt mask 0) 16 (by decide), BitVec.getLsbD_of_ge (byteAt mask 1) 8 (by decide)]
  · rw [BitVec.getLsbD_of_ge _ _ (by omega), BitVec.getLsbD_of_ge f.link _ (by omega)]
    rfl

theorem StatusFlags.bytes_length (f : StatusFlags) (g : Group) : (f.bytes g).length = g.maskBytes := by cases g <;> rfl

theorem StatusFlags.clear_bytes (f : StatusFlags) (g : Group) (mask : List Byte) {j : Nat} (hj : j < g.maskBytes) :
    byteAt ((f.clear g mask).bytes g) j = byteAt (f.bytes g) j &&& ~~~(byteAt mask j) := by
  cases g with
  | port =>
    obtain rfl | rfl : j = 0 ∨ j = 1 := by simp only [Group.maskBytes] at hj; omega
    · exact setWidth_and_not f.portU _ (by decide)
    · exact setWidth_and_not f.portD _ (by decide)
  | link =>
    have hlt : j < 3 := hj
    refine BitVec.eq_of_getLsbD_eq fun i hi => ?_
    have hq : (8 * j + i) / 8 = j := by omega
    have hr : (8 * j + i) % 8 = i := by omega
    have hafter := (f.clear .link mask).bytes_link_bit (j := 8 * j + i) (by omega)
    have hbefore := f.bytes_link_bit (j := 8 * j + i) (by omega)
    have hclear := f.clear_link_bit mask (j := 8 * j + i) (by omega)
    rw [hq, hr] at hafter hbefore hclear
    rw [hafter, hclear, BitVec.getLsbD_and, BitVec.getLsbD_not, hbefore]
    simp [hi]
  | timing =>
    obtain rfl : j = 0 := Nat.lt_one_iff.mp hj
    exact setWidth_and_not f.timing _ (by decide)
  | plan =>
    obtain rfl : j = 0 := Nat.lt_one_iff.mp hj
    exact setWidth_and_not f.plan _ (by decide)
  | scan =>
    obtain rfl : j = 0 := Nat.lt_one_iff.mp hj
    exact setWidth_and_not f.scan _ (by decide)
  | tally =>
    obtain rfl : j = 0 := Nat.lt_one_iff.mp hj
    exact setWidth_and_not f.tally _ (by decide)
  | mix =>
    obtain rfl : j = 0 := Nat.lt_one_iff.mp hj
    exact setWidth_and_not f.mix _ (by decide)
  | mgmt =>
    obtain rfl : j = 0 := Nat.lt_one_iff.mp hj
    exact setWidth_and_not f.mgmt _ (by decide)

/-- A clear leaves the flags of the other groups. -/
theorem StatusFlags.clear_other (f : StatusFlags) {g g' : Group} (mask : List Byte) (h : g' ≠ g) :
    (f.clear g mask).bytes g' = f.bytes g' := by
  cases g <;> cases g' <;> first | rfl | exact absurd rfl h

/-- The number that bytes carry, the last one least, has the bits of the bytes. -/
theorem testBit_natOf_reverse (bs : List Byte) (k : Nat) : (natOf bs.reverse).testBit k = (bs.getD (k / 8) 0).getLsbD (k % 8) := by
  induction bs generalizing k with
  | nil => simp [natOf]
  | cons b bs ih =>
    have hnat : natOf (b :: bs).reverse = 2 ^ 8 * natOf bs.reverse + b.toNat := by
      simp only [natOf, List.reverse_cons, List.foldl_append, List.foldl_cons, List.foldl_nil]
      omega
    rw [hnat, Nat.testBit_two_pow_mul_add _ b.isLt]
    by_cases hk : k < 8
    · rw [if_pos hk, Nat.div_eq_of_lt hk, Nat.mod_eq_of_lt hk]
      rfl
    · obtain ⟨m, rfl⟩ : ∃ m, k = m + 8 := ⟨k - 8, by omega⟩
      rw [if_neg hk, Nat.add_sub_cancel, ih, Nat.add_div_right _ (by decide), Nat.add_mod_right]
      rfl

theorem enablesOf_bit (args : List Byte) {k : Nat} (hk : k < 48) :
    (enablesOf args).getLsbD k = true ↔ 1 ≤ k ∧ k ≤ 0x2E ∧ (byteAt args (k / 8)).getLsbD (k % 8) = true := by
  have hmask : ∀ k : Fin 48, (0x7FFFFFFFFFFE : BitVec 48).getLsbD k.val = decide (1 ≤ k.val ∧ k.val ≤ 0x2E) := by decide
  have hbyte : ([byteAt args 0, byteAt args 1, byteAt args 2, byteAt args 3, byteAt args 4, byteAt args 5].getD (k / 8) 0)
      = byteAt args (k / 8) := by
    have hq : k / 8 < 6 := by omega
    generalize k / 8 = q at hq ⊢
    interval_cases q <;> rfl
  have hbits := testBit_natOf_reverse [byteAt args 0, byteAt args 1, byteAt args 2, byteAt args 3, byteAt args 4, byteAt args 5] k
  rw [hbyte] at hbits
  rw [enablesOf, BitVec.getLsbD_and, hmask ⟨k, hk⟩, BitVec.getLsbD_ofNat, decide_eq_true hk, Bool.true_and]
  simp only [List.reverse_cons, List.reverse_nil, List.nil_append, List.cons_append] at hbits
  rw [hbits, Bool.and_eq_true, decide_eq_true_eq]
  tauto

theorem enableBytes_eq (e : BitVec 48) : enableBytes e = (List.range 6).map fun i => BitVec.ofNat 8 (e.toNat / 256 ^ i) := by
  refine List.map_congr_left fun i _ => BitVec.eq_of_toNat_eq ?_
  rw [BitVec.toNat_setWidth, BitVec.toNat_ushiftRight, BitVec.toNat_ofNat, Nat.shiftRight_eq_div_pow, Nat.pow_mul]

end Sys2Proof.Machine
end
section

/-! ### The fields that READ STATUS returns (R29, R49, R91, R151, R166, R183, R190) -/

namespace Sys2Proof.Machine

theorem countTable_eq {α : Type} {n : Nat} (t : Vector α n) (p : α → Bool) :
    countTable t p = ((List.finRange n).filter fun i => p t[i]).length := by
  have hlist : t.toList = (List.finRange n).map fun i => t[i] := by
    refine List.ext_getElem (by simp) fun i h h' => by simp
  rw [countTable, hlist, List.filter_map, List.length_map]
  rfl

theorem count_eq {α : Type} {n : Nat} (t : Vector α n) (p : α → Bool) :
    count t p = u8 ((List.finRange n).filter fun i => p t[i]).length := congrArg u8 (countTable_eq t p)

theorem Mixer.owned_eq_filter (m : Mixer) :
    m.owned = (((List.finRange 32).filter fun i => m.inputs[i].enabled).map fun i => m.inputs[i].area).sum := by
  have hlist : m.inputs.toList = (List.finRange 32).map fun i => m.inputs[i] := by
    refine List.ext_getElem (by simp) fun i h h' => by simp
  rw [Mixer.owned, hlist, List.filter_map, List.map_map]
  rfl

theorem Tally.lampBits_bit (t : Tally) (n : Fin 16) : t.lampBits.getLsbD n.val = t.lamps[n].on := by
  have hfold : t.lamps.toList.foldr (fun x n => x.on.toNat + 2 * n) 0
      = (t.lamps.toList.map (·.on)).foldr (fun b n => Bool.toNat b + 2 * n) 0 := by rw [List.foldr_map]
  rw [Tally.lampBits, hfold, BitVec.getLsbD_ofNat, testBit_flags]
  simp [n.isLt]

theorem TallyState.code_lt (a : TallyState) : a.code < 4 := by cases a <;> decide

/-- Four source states to a byte, the first in bits 7-6. -/
theorem packStates_spec (k : Nat) (l : List TallyState) (h : l.length = 4 * k) : (packStates l).length = k
    ∧ ∀ (i : Nat) (hi : i < l.length), u8At (packStates l) (i / 4) / 4 ^ (3 - i % 4) % 4 = l[i].code := by
  induction k generalizing l with
  | zero =>
    obtain rfl : l = [] := List.length_eq_zero_iff.mp h
    exact ⟨rfl, fun i hi => absurd hi (Nat.not_lt_zero _)⟩
  | succ k ih =>
    match l, h with
    | a :: b :: c :: d :: rest, h =>
      obtain ⟨hlen, hstates⟩ := ih rest (by simp at h; omega)
      refine ⟨by simp [packStates, u8, hlen], fun i hi => ?_⟩
      have ha := a.code_lt
      have hb := b.code_lt
      have hc := c.code_lt
      have hd := d.code_lt
      by_cases hlt : i < 4
      · have hbyte : u8At (packStates (a :: b :: c :: d :: rest)) (i / 4) = a.code * 64 + b.code * 16 + c.code * 4 + d.code := by
          rw [Nat.div_eq_of_lt hlt]
          exact toNat_ofNat_of_le (by omega)
        rw [hbyte]
        interval_cases i <;> simp <;> omega
      · obtain ⟨m, rfl⟩ : ∃ m, i = m + 4 := ⟨i - 4, by omega⟩
        have hbyte : u8At (packStates (a :: b :: c :: d :: rest)) ((m + 4) / 4) = u8At (packStates rest) (m / 4) := by
          rw [Nat.add_div_right _ (by decide)]
          rfl
        rw [hbyte, Nat.add_mod_right]
        exact hstates m (by simp at hi; omega)

/-- The bytes of the PLAN group's fields (R49). -/
theorem State.planFields_eq (s : State) : s.planFields = half s.plan.gen
    ++ (count s.plan.carriers (·.state == .free) ++ count s.plan.carriers (·.state == .reserved) ++ count s.plan.carriers (·.state == .active)
      ++ count s.plan.carriers (·.state == .standby) ++ count s.plan.carriers (·.state == .retiring)
      ++ count s.plan.carriers (·.state == .blocked)) ++ count s.plan.carriers (·.suspect)
    ++ u8 (if s.engine.queue = [] then 0 else 1) ++ u8 s.engine.queue.length
    ++ u8 (s.engine.queue.filter fun q => match q.filer with
        | .context _ => false
        | _ => true).length
    ++ [match s.engine.queue with
        | q :: _ => BitVec.ofNat 8 q.kind.code
        | [] => 255] := by
  have hothers : (s.engine.queue.filter fun q => match q.filer with
      | .context _ => false
      | .management _ | .auto => true) = s.engine.queue.filter fun q => match q.filer with
      | .context _ => false
      | _ => true := List.filter_congr fun q _ => by cases q.filer <;> rfl
  have hempty : bit (!s.engine.queue.isEmpty) = u8 (if s.engine.queue = [] then 0 else 1) := by cases s.engine.queue <;> rfl
  have hhead : (match s.engine.queue with
      | q :: _ => u8 q.kind.code
      | [] => [255]) = [match s.engine.queue with
      | q :: _ => BitVec.ofNat 8 q.kind.code
      | [] => 255] := by cases s.engine.queue <;> rfl
  rw [State.planFields, hempty]
  exact congrArg₂ (fun (others : List CoordRequest) tail => half s.plan.gen
    ++ ([.free, .reserved, .active, .standby, .retiring, .blocked] : List CarrierState).flatMap
        (fun st => count s.plan.carriers fun c => c.state == st) ++ count s.plan.carriers (·.suspect)
    ++ u8 (if s.engine.queue = [] then 0 else 1) ++ u8 s.engine.queue.length ++ u8 others.length ++ tail) hothers hhead

/-- Settles O58. -/
theorem statusIsReadAndCleared : Obligations.StatusIsReadAndCleared := by
  refine ⟨fun f => ⟨rfl, rfl, rfl, rfl, rfl, rfl, rfl, fun j hj => f.bytes_link_bit hj⟩, StatusFlags.summary_bit, fun s r h => ?_⟩
  have hread (hcode : r.code = 0x49) (hlen : 1 ≤ r.args.length) := hasCode_of_args r 0x49 1 hcode (by decide) rfl hlen
  have hclear (hcode : r.code = 0x4A) (hlen : 1 ≤ r.args.length) := hasCode_of_args r 0x4A 1 hcode (by decide) rfl hlen
  refine ⟨fun hcode hlen hg => exec_answer (f := State.readStatus) h rfl (hread hcode hlen) ?_ rfl,
    fun hcode hlen hg => exec_answer (f := State.clearStatus) h rfl (hclear hcode hlen) ?_ rfl, fun g hg => ?_,
    fun p => ⟨rfl, ?_, rfl, ?_, ?_, ?_, ?_, ?_⟩, fun hcode hlen => ?_⟩
  · rw [State.readStatus, Group.ofCode?_of_le hg]
  · rw [State.clearStatus, Group.ofCode?_of_le hg]
  · intro size
    have hsize : size = g.maskBytes := by cases g <;> rfl
    clear_value size
    subst hsize
    refine ⟨s.agent.flags.bytes_length g, fun hcode hlen => exec_answer (f := State.readStatus) h rfl (hread hcode hlen) ?_ rfl,
      fun hcode hlen hshort => exec_answer (f := State.clearStatus) h rfl (hclear hcode hlen) ?_ rfl,
      fun hcode hlen => ⟨s.agent.flags.clear g (r.args.drop 1),
        exec_answer (f := State.clearStatus) h rfl (hclear hcode (by omega)) ?_ rfl, fun j hj => ?_,
        fun g' hg' => s.agent.flags.clear_other _ hg'⟩⟩
    · rw [State.readStatus, hg, Group.ofCode?_code]
    · rw [State.clearStatus, hg, Group.ofCode?_code]
      exact if_pos (by rw [List.length_drop]; omega)
    · rw [State.clearStatus, hg, Group.ofCode?_code]
      exact if_neg (by rw [List.length_drop]; omega)
    · rw [s.agent.flags.clear_bytes g _ hj]
      refine congrArg (fun b : Byte => byteAt (s.agent.flags.bytes g) j &&& ~~~b) ?_
      rw [byteAt, byteAt, List.getD_eq_getElem?_getD, List.getD_eq_getElem?_getD, List.getElem?_drop]
  · exact rfl
  · intro carriers
    refine s.planFields_eq.trans ?_
    simp only [count_eq, List.append_assoc]
    rfl
  · intro links
    refine (show s.groupFields .link p = s.linkFields from rfl).trans ?_
    simp only [State.linkFields, List.flatMap_cons, List.flatMap_nil, count_eq, List.append_assoc, List.append_nil]
    rfl
  · rfl
  · intro cameras
    obtain ⟨hlen, hstates⟩ := packStates_spec 16 s.tally.applied.toList (by simp)
    refine ⟨s.tally.lampBits, packStates s.tally.applied.toList, ?_, s.tally.lampBits_bit, hlen, fun i => ?_⟩
    · refine (show s.groupFields .tally p = s.tallyFields from rfl).trans ?_
      simp only [State.tallyFields, count_eq]
      rfl
    · have hi := hstates i.val (by simp)
      rw [hi]
      simp
  · intro inputs outputs
    refine (show s.groupFields .mix p = s.mixFields from rfl).trans ?_
    simp only [State.mixFields, Mixer.owned_eq_filter, List.flatMap_cons, List.flatMap_nil, count_eq, List.append_assoc, List.append_nil]
    rfl
  · refine ⟨enablesOf r.args, ?_, fun k hk => enablesOf_bit r.args hk⟩
    rw [← enableBytes_eq]
    exact exec_answer (f := State.reportEnable) h rfl (hasCode_of_args r 0x4B 6 hcode (by decide) rfl hlen) rfl rfl

end Sys2Proof.Machine
end

section

/-! ### The allocation of slots (R94) -/

namespace Sys2Proof.Machine

/-- May a request of an owner be given a slot (R94)? -/
def State.mayUse (s : State) (o : Owner) (j : SlotId) : Prop :=
  s.unit.slots[j].state = .free ∧ (j.val < 12 ∨ ∃ l, o = .tally l)

/-- The FREE slot that an owner is given (R94). -/
def State.firstFree (s : State) (o : Owner) (i : SlotId) : Prop :=
  s.unit.slots[i].state = .free ∧
    (((¬ ∃ l, o = .tally l) ∧ i.val < 12 ∧ ∀ j : SlotId, j < i → s.unit.slots[j].state ≠ .free)
      ∨ ((∃ l, o = .tally l) ∧ 12 ≤ i.val ∧ ∀ j : SlotId, 12 ≤ j.val → j < i → s.unit.slots[j].state ≠ .free)
      ∨ ((∃ l, o = .tally l) ∧ i.val < 12 ∧ ∀ j : SlotId, (12 ≤ j.val ∨ j < i) → s.unit.slots[j].state ≠ .free))

/-- The lowest-numbered slot of a kind that is FREE. -/
theorem find_filter_iff {s : State} {p : SlotId → Bool} {i : SlotId} :
    ((List.finRange 16).filter p).find? (fun i => s.unit.slots[i].state == .free) = some i ↔
      p i = true ∧ s.unit.slots[i].state = .free ∧ ∀ j : SlotId, j < i → p j = true → s.unit.slots[j].state ≠ .free := by
  rw [List.find?_filter, find_finRange_iff]
  simp only [decide_eq_true_eq, Bool.and_eq_true, beq_iff_eq, decide_eq_false_iff_not, and_assoc, not_and, ne_eq]

theorem find_filter_eq_none_iff {s : State} {p : SlotId → Bool} :
    ((List.finRange 16).filter p).find? (fun i => s.unit.slots[i].state == .free) = none ↔
      ∀ j : SlotId, p j = true → s.unit.slots[j].state ≠ .free := by
  simp [List.find?_eq_none]

theorem State.slotFor_tally (s : State) (l : LinkId) : s.slotFor (.tally l) =
    (((List.finRange 16).filter fun i => decide (12 ≤ i.val)).find? fun i => s.unit.slots[i].state == .free).or
      (((List.finRange 16).filter fun i => decide (i.val < 12)).find? fun i => s.unit.slots[i].state == .free) :=
  List.find?_append

theorem State.slotFor_other (s : State) {o : Owner} (h : ¬ ∃ l, o = .tally l) : s.slotFor o =
    ((List.finRange 16).filter fun i => decide (i.val < 12)).find? fun i => s.unit.slots[i].state == .free := by
  cases o with
  | tally l => exact absurd ⟨l, rfl⟩ h
  | context k side => rfl
  | scan r => rfl
  | relay id => rfl

theorem State.slotFor_eq_none_iff (s : State) (o : Owner) : s.slotFor o = none ↔ ∀ j : SlotId, ¬ s.mayUse o j := by
  by_cases ho : ∃ l, o = .tally l
  · obtain ⟨l, rfl⟩ := ho
    rw [State.slotFor_tally, Option.or_eq_none_iff, find_filter_eq_none_iff, find_filter_eq_none_iff]
    simp only [decide_eq_true_eq, State.mayUse]
    constructor
    · rintro ⟨hkept, hgeneral⟩ j ⟨hfree, -⟩
      by_cases hj : j.val < 12
      · exact hgeneral j hj hfree
      · exact hkept j (by omega) hfree
    · exact fun h => ⟨fun j _ hfree => h j ⟨hfree, .inr ⟨l, rfl⟩⟩, fun j _ hfree => h j ⟨hfree, .inr ⟨l, rfl⟩⟩⟩
  · rw [State.slotFor_other s ho, find_filter_eq_none_iff]
    simp only [decide_eq_true_eq, State.mayUse, ho, or_false, not_and]
    exact forall_congr' fun j => ⟨fun h hfree hj => h hj hfree, fun h hj hfree => h hfree hj⟩

theorem State.slotFor_eq_some_iff (s : State) (o : Owner) (i : SlotId) : s.slotFor o = some i ↔ s.firstFree o i := by
  by_cases ho : ∃ l, o = .tally l
  · obtain ⟨l, rfl⟩ := ho
    rw [State.slotFor_tally, Option.or_eq_some_iff, find_filter_iff, find_filter_iff, find_filter_eq_none_iff]
    simp only [decide_eq_true_eq, State.firstFree]
    constructor
    · rintro (⟨hi, hfree, hfirst⟩ | ⟨hkept, hi, hfree, hfirst⟩)
      · exact ⟨hfree, .inr (.inl ⟨⟨l, rfl⟩, hi, fun j hj hlt => hfirst j hlt hj⟩)⟩
      · refine ⟨hfree, .inr (.inr ⟨⟨l, rfl⟩, hi, fun j hj => ?_⟩)⟩
        by_cases hk : 12 ≤ j.val
        · exact hkept j hk
        · exact hfirst j (hj.resolve_left hk) (by omega)
    · rintro ⟨hfree, ⟨hno, -⟩ | ⟨-, hi, hfirst⟩ | ⟨-, hi, hfirst⟩⟩
      · exact absurd ⟨l, rfl⟩ hno
      · exact .inl ⟨hi, hfree, fun j hlt hj => hfirst j hj hlt⟩
      · exact .inr ⟨fun j hj => hfirst j (.inl hj), hi, hfree, fun j hlt _ => hfirst j (.inr hlt)⟩
  · rw [State.slotFor_other s ho, find_filter_iff]
    simp only [decide_eq_true_eq, State.firstFree, ho, not_false_eq_true, true_and, false_and, or_false]
    constructor
    · rintro ⟨hi, hfree, hfirst⟩
      exact ⟨hfree, hi, fun j hlt => hfirst j hlt (Nat.lt_trans hlt hi)⟩
    · rintro ⟨hfree, hi, hfirst⟩
      exact ⟨hi, hfree, fun j hlt _ => hfirst j hlt⟩

/-- Is a slot the other one of a locked pair (R110)? -/
def State.isMate (s : State) (i : SlotId) (o : Owner) (j : SlotId) : Prop :=
  j ≠ i ∧ s.unit.slots[j].pair = true ∧ s.unit.slots[j].state ≠ .free
    ∧ ∃ (k : ContextId) (a b : Side), o = .context k a ∧ s.unit.slots[j].owner = some (.context k b)

theorem Owner.sameContext_iff (o p : Owner) : o.sameContext p = true ↔ ∃ (k : ContextId) (a b : Side), o = .context k a ∧ p = .context k b := by
  cases o <;> cases p <;> simp [Owner.sameContext, eq_comm]

/-- The test by which the other slot of a locked pair is looked for. -/
theorem State.mateOf_test (s : State) (i : SlotId) (o : Owner) (j : SlotId) :
    (decide (j ≠ i) && s.unit.slots[j].pair && s.unit.slots[j].state != .free && match s.unit.slots[j].owner with
      | some p => o.sameContext p
      | none => false) = true ↔ s.isMate i o j := by
  rw [Bool.and_eq_true, Bool.and_eq_true, Bool.and_eq_true, decide_eq_true_eq, bne_iff_ne, and_assoc, and_assoc, State.isMate]
  refine and_congr_right fun _ => and_congr_right fun _ => and_congr_right fun _ => ?_
  cases s.unit.slots[j].owner with
  | none => simp
  | some p => simpa using o.sameContext_iff p

theorem State.mateOf_eq_some_iff (s : State) (i : SlotId) (o : Owner) (j : SlotId) :
    s.mateOf i o = some j ↔ s.isMate i o j ∧ ∀ n : SlotId, n < j → ¬ s.isMate i o n := by
  rw [State.mateOf, find_finRange_iff]
  simp only [← Bool.not_eq_true]
  exact and_congr (s.mateOf_test i o j) (forall₂_congr fun n _ => not_congr (s.mateOf_test i o n))

theorem State.mateOf_eq_none_iff (s : State) (i : SlotId) (o : Owner) : s.mateOf i o = none ↔ ∀ j : SlotId, ¬ s.isMate i o j := by
  rw [State.mateOf, List.find?_eq_none]
  exact ⟨fun h j => mt (s.mateOf_test i o j).mpr (h j (List.mem_finRange j)), fun h j _ => mt (s.mateOf_test i o j).mp (h j)⟩

/-- The slots once a request is given slot `i`, whose other one of a pair is `mate`. -/
def State.slotsGranted (s : State) (i : SlotId) (q : SlotRequest) (mate : Option SlotId) : Vector Slot 16 :=
  let slots := put s.unit.slots i { state := .waiting, owner := some q.owner, unit := q.unit, command := q.command, single := q.single
                                    pair := q.pair, mate, serial := s.unit.serial }
  match mate with
  | none => slots
  | some j => put slots j { s.unit.slots[j] with mate := some i }

/-- The other slot of the pair that a request given slot `i` completes, if any. -/
def State.mateFor (s : State) (i : SlotId) (q : SlotRequest) : Option SlotId := if q.pair then s.mateOf i q.owner else none

theorem State.mateFor_isMate {s : State} {i j : SlotId} {q : SlotRequest} (h : s.mateFor i q = some j) : s.isMate i q.owner j := by
  unfold State.mateFor at h
  split at h
  · exact ((s.mateOf_eq_some_iff i q.owner j).mp h).1
  · cases h

/-- What an allocation changes: the slots and the serial number (R94). -/
theorem State.allocate_eq (s : State) (i : SlotId) (q : SlotRequest) : s.allocate i q = { s with unit := { s.unit with
    slots := s.slotsGranted i q (s.mateFor i q), serial := s.unit.serial + 1 } } := by
  cases hmate : s.mateFor i q with
  | none =>
    unfold State.mateFor at hmate
    simp only [State.allocate, hmate]
    rfl
  | some j =>
    obtain ⟨hne, -⟩ := State.mateFor_isMate hmate
    unfold State.mateFor at hmate
    simp only [State.allocate, hmate, State.slotsGranted, State.setSlot, put_ne _ _ hne]

/-- Once a slot is given, no slot is FREE that was not. -/
theorem State.slotsGranted_free {s : State} {i : SlotId} {q : SlotRequest} {mate : Option SlotId} {j : SlotId}
    (h : (s.slotsGranted i q mate)[j].state = .free) : s.unit.slots[j].state = .free := by
  have hfirst (h : (put s.unit.slots i { state := .waiting, owner := some q.owner, unit := q.unit, command := q.command
                                         single := q.single, pair := q.pair, mate, serial := s.unit.serial })[j].state = .free) :
      s.unit.slots[j].state = .free := by
    by_cases hj : j = i
    · subst hj
      rw [put_eq] at h
      cases h
    · rwa [put_ne _ _ hj] at h
  cases mate with
  | none => exact hfirst h
  | some m =>
    simp only [State.slotsGranted] at h
    by_cases hj : j = m
    · subst hj
      rwa [put_eq] at h
    · rw [put_ne _ _ hj] at h
      exact hfirst h

theorem State.grantable_eq_none_iff (s : State) (qs : List SlotRequest) :
    s.grantable qs = none ↔ ∀ p ∈ qs, ∀ j : SlotId, ¬ s.mayUse p.owner j := by
  induction qs with
  | nil => simp [State.grantable]
  | cons q qs ih =>
    rw [State.grantable, List.forall_mem_cons, ← State.slotFor_eq_none_iff, ← ih]
    cases s.slotFor q.owner <;> simp

/-- The requests before the first that may use a FREE slot are passed over (R94; log 19). -/
theorem State.grantable_append {s : State} {older : List SlotRequest} (h : ∀ p ∈ older, ∀ j : SlotId, ¬ s.mayUse p.owner j)
    (younger : List SlotRequest) : s.grantable (older ++ younger) = s.grantable younger := by
  induction older with
  | nil => rfl
  | cons q older ih =>
    obtain ⟨hq, hrest⟩ := List.forall_mem_cons.mp h
    rw [List.cons_append, State.grantable, (s.slotFor_eq_none_iff q.owner).mpr hq]
    exact ih hrest

theorem State.grantable_cons {s : State} {q : SlotRequest} {i : SlotId} (h : s.firstFree q.owner i) (younger : List SlotRequest) :
    s.grantable (q :: younger) = some (q, i) := by
  rw [State.grantable, (s.slotFor_eq_some_iff q.owner i).mpr h]

/-- A request found behind others is found without them, and one found stays found with more behind. -/
theorem State.grantable_append_of_some {s : State} {qs : List SlotRequest} {p : SlotRequest} {i : SlotId}
    (h : s.grantable qs = some (p, i)) (younger : List SlotRequest) : p ∈ qs ∧ s.grantable (qs ++ younger) = some (p, i) := by
  induction qs with
  | nil => cases h
  | cons q qs ih =>
    rw [State.grantable] at h
    rw [List.cons_append, State.grantable]
    cases hslot : s.slotFor q.owner with
    | none =>
      rw [hslot] at h
      exact ⟨List.mem_cons_of_mem q (ih h).1, (ih h).2⟩
    | some j =>
      rw [hslot] at h
      cases h
      exact ⟨List.mem_cons_self, rfl⟩

/-- The allocation reads the slots alone. -/
theorem State.grantable_congr {s t : State} (h : t.unit.slots = s.unit.slots) (qs : List SlotRequest) :
    t.grantable qs = s.grantable qs := by
  have hslot (o : Owner) : t.slotFor o = s.slotFor o := by simp only [State.slotFor, h]
  induction qs with
  | nil => rfl
  | cons q qs ih => simp only [State.grantable, hslot, ih]

/-- The state once the request at slot `i` is granted, with the requests that are left. -/
def State.granted (s : State) (i : SlotId) (q : SlotRequest) (left : List SlotRequest) : State :=
  { s with unit := { s.unit with waiting := left, slots := s.slotsGranted i q (s.mateFor i q), serial := s.unit.serial + 1 } }

theorem State.grantOne_of_some {s : State} {q : SlotRequest} {i : SlotId} (h : s.grantable s.unit.waiting = some (q, i)) :
    s.grantOne = s.granted i q (s.unit.waiting.erase q) := by
  rw [State.grantOne, h]
  dsimp only
  rw [State.allocate_eq]
  rfl

theorem State.grantOne_of_none {s : State} (h : s.grantable s.unit.waiting = none) : s.grantOne = s := by
  rw [State.grantOne, h]

theorem State.grantAll_of_none {s : State} (h : s.grantable s.unit.waiting = none) (n : Nat) : State.grantAll n s = s := by
  induction n with
  | zero => rfl
  | succ n ih => rw [State.grantAll, State.grantOne_of_none h, ih]

/-- The state with a request at the tail of the allocation queue. -/
def State.withWaiting (s : State) (q : SlotRequest) : State := { s with unit := { s.unit with waiting := s.unit.waiting ++ [q] } }

theorem State.askSlot_eq (s : State) (q : SlotRequest) : s.askSlot q = State.grantAll (s.unit.waiting.length + 1) (s.withWaiting q) := by
  have hlen : (s.withWaiting q).unit.waiting.length = s.unit.waiting.length + 1 := by simp [State.withWaiting]
  rw [← hlen]
  rfl

theorem State.askSlot_of_waits {s : State} {q : SlotRequest} (h : ∀ p ∈ s.unit.waiting, ∀ j : SlotId, ¬ s.mayUse p.owner j)
    (hq : ∀ j : SlotId, ¬ s.mayUse q.owner j) : s.askSlot q = s.withWaiting q := by
  rw [State.askSlot_eq]
  refine State.grantAll_of_none ((State.grantable_eq_none_iff _ _).mpr fun p hp => ?_) _
  rcases List.mem_append.mp hp with hp | hp
  · exact h p hp
  · exact List.mem_singleton.mp hp ▸ hq

theorem State.not_mayUse_granted {s : State} {i : SlotId} {q : SlotRequest} {left : List SlotRequest} {o : Owner}
    (h : ∀ j : SlotId, ¬ s.mayUse o j) (j : SlotId) : ¬ (s.granted i q left).mayUse o j :=
  fun ⟨hfree, ho⟩ => h j ⟨State.slotsGranted_free hfree, ho⟩

theorem State.askSlot_of_granted {s : State} {q : SlotRequest} {i : SlotId}
    (h : ∀ p ∈ s.unit.waiting, ∀ j : SlotId, ¬ s.mayUse p.owner j) (hi : s.firstFree q.owner i) (hq : q ∉ s.unit.waiting) :
    s.askSlot q = s.granted i q s.unit.waiting := by
  have hfind : (s.withWaiting q).grantable (s.withWaiting q).unit.waiting = some (q, i) := by
    rw [State.grantable_congr (s := s) (t := s.withWaiting q) rfl]
    exact (State.grantable_append h [q]).trans (State.grantable_cons hi [])
  have herase : (s.withWaiting q).unit.waiting.erase q = s.unit.waiting := by
    refine (List.erase_append_right _ hq).trans ?_
    rw [List.erase_cons_head, List.append_nil]
  rw [State.askSlot_eq, State.grantAll, State.grantOne_of_some hfind, herase]
  exact State.grantAll_of_none ((State.grantable_eq_none_iff _ _).mpr fun p hp => State.not_mayUse_granted (h p hp)) _

/-- A request that waits behind one that may use a FREE slot is asked for after that one is granted. -/
theorem State.askSlot_of_behind {s : State} {p : SlotRequest} {i : SlotId} (h : s.grantable s.unit.waiting = some (p, i))
    (q : SlotRequest) : s.askSlot q = s.grantOne.askSlot q := by
  obtain ⟨hp, hmore⟩ := State.grantable_append_of_some h [q]
  have hfind : (s.withWaiting q).grantable (s.withWaiting q).unit.waiting = some (p, i) :=
    (State.grantable_congr (s := s) (t := s.withWaiting q) rfl _).trans hmore
  have hlen : s.grantOne.unit.waiting.length + 1 = s.unit.waiting.length := by
    rw [State.grantOne_of_some h]
    have hpos := List.length_pos_of_mem hp
    simp only [State.granted, List.length_erase_of_mem hp]
    omega
  rw [State.askSlot_eq, State.askSlot_eq, hlen, State.grantAll, State.grantOne_of_some hfind, State.grantOne_of_some h]
  refine congrArg _ ?_
  simp only [State.granted, State.withWaiting, List.erase_append_left _ hp]
  rfl

theorem not_mem_of_first {s : State} {qs : List SlotRequest} {q : SlotRequest} {i : SlotId}
    (h : ∀ p ∈ qs, ∀ j : SlotId, ¬ s.mayUse p.owner j) (hi : s.firstFree q.owner i) : q ∉ qs := by
  intro hmem
  obtain ⟨hfree, ⟨-, hlt, -⟩ | ⟨htally, -⟩ | ⟨htally, -⟩⟩ := hi
  · exact h q hmem i ⟨hfree, .inl hlt⟩
  · exact h q hmem i ⟨hfree, .inr htally⟩
  · exact h q hmem i ⟨hfree, .inr htally⟩

/-- Settles O36. -/
theorem slotIsGranted : Obligations.SlotIsGranted := by
  intro s q tally may first partner pairs granted
  have hmay (p : SlotRequest) (j : SlotId) : may p j ↔ s.mayUse p.owner j := Iff.rfl
  have hfirst (i : SlotId) : first i ↔ s.firstFree q.owner i := Iff.rfl
  have hmate {i : SlotId} {mate : Option SlotId} (h : pairs i mate) : s.mateFor i q = mate := by
    cases mate with
    | none =>
      obtain hno | hno : q.pair = false ∨ ∀ j : SlotId, ¬ s.isMate i q.owner j := h
      · rw [State.mateFor, hno]; rfl
      · rw [State.mateFor, (s.mateOf_eq_none_iff i q.owner).mpr hno, ite_self]
    | some j =>
      obtain ⟨hpair, hj, hlow⟩ : q.pair = true ∧ s.isMate i q.owner j ∧ ∀ n : SlotId, n < j → ¬ s.isMate i q.owner n := h
      rw [State.mateFor, if_pos hpair, (s.mateOf_eq_some_iff i q.owner j).mpr ⟨hj, hlow⟩]
  have hgranted {i : SlotId} {mate : Option SlotId} (h : pairs i mate) (left : List SlotRequest) :
      s.granted i q left = granted i mate left := by
    rw [State.granted, hmate h]
    cases mate <;> rfl
  refine ⟨fun older younger i mate hdue hwaiting holder hi hpairs => ?_, fun hdue => State.settled_of_idle hdue State.grantOne,
    fun hnone => ⟨State.grantOne_of_none ((s.grantable_eq_none_iff _).mpr hnone), fun hq => State.askSlot_of_waits hnone hq,
      fun i mate hi hpairs => ?_⟩, fun ⟨p, hp, j, hj⟩ => ?_⟩
  · have hfind : s.grantable s.unit.waiting = some (q, i) := by
      rw [hwaiting, State.grantable_append holder, State.grantable_cons hi]
    have herase : s.unit.waiting.erase q = older ++ younger := by
      rw [hwaiting, List.erase_append_right _ (not_mem_of_first holder hi), List.erase_cons_head]
    refine (State.settled_of_idle hdue State.grantOne).trans (congrArg _ ?_)
    rw [State.grantOne_of_some hfind, herase, hgranted hpairs]
  · rw [State.askSlot_of_granted hnone hi (not_mem_of_first hnone hi), hgranted hpairs]
  · cases hfind : s.grantable s.unit.waiting with
    | none => exact absurd hj ((s.grantable_eq_none_iff _).mp hfind p hp j)
    | some found => exact State.askSlot_of_behind hfind q

end Sys2Proof.Machine
end

section

/-! ### SLOT_OFFER and PAIR_SUBMIT (R14, R16, R95, R96, R110) -/

namespace Sys2Proof.Machine

/-- Is a slot ready to offer its cell (R95)? -/
def State.slotReady (s : State) (j : SlotId) : Prop := s.unit.slots[j].state = .waiting ∧ s.unit.slots[j].pair = false
  ∧ (s.unit.slots[j].turn = true ∨ (∀ i : SlotId, s.unit.slots[i].turn = false ∨ s.unit.slots[i].unit ≠ s.unit.slots[j].unit)
    ∧ ¬ ∃ m : SlotId, s.unit.slots[m].state = .waiting ∧ s.unit.slots[m].unit = s.unit.slots[j].unit
      ∧ s.unit.slots[m].serial < s.unit.slots[j].serial)

theorem State.slotReady_iff (s : State) (j : SlotId) : s.readyToOffer j = true ↔ s.slotReady j := by
  rw [State.readyToOffer_iff, State.turnFree_iff, ← Bool.not_eq_true (s.waitsBehind j), State.waitsBehind_iff]
  exact Iff.rfl

/-- The slot of a side of a context's locked pair (R110). -/
def State.isPairSlot (s : State) (k : ContextId) (d : Side) (a : SlotId) : Prop :=
  s.unit.slots[a].pair = true ∧ s.unit.slots[a].owner = some (.context k d)
    ∧ ∀ m : SlotId, m < a → ¬ (s.unit.slots[m].pair = true ∧ s.unit.slots[m].owner = some (.context k d))

theorem State.pairSlots_iff_isPairSlot (s : State) (k : ContextId) (a b : SlotId) :
    s.pairSlots k = some (a, b) ↔ s.isPairSlot k .rack a ∧ s.isPairSlot k .portable b := by
  simp only [State.pairSlots_iff, State.isPairSlot, and_assoc]

/-- Are the two slots of a context's locked pair ready to be submitted (R110)? -/
def State.pairReadyAt (s : State) (k : ContextId) (a b : SlotId) : Prop :=
  let slot (j : SlotId) := s.unit.slots[j]
  let free (u : Byte) := ∀ j : SlotId, (slot j).turn = false ∨ (slot j).unit ≠ u
  let behind (j : SlotId) := ∃ m : SlotId, (slot m).state = .waiting ∧ (slot m).unit = (slot j).unit ∧ (slot m).serial < (slot j).serial
  s.isPairSlot k .rack a ∧ s.isPairSlot k .portable b ∧ (slot a).state = .waiting ∧ (slot b).state = .waiting
    ∧ free (slot a).unit ∧ free (slot b).unit ∧ ¬ behind a ∧ ¬ behind b

theorem State.pairReady_of_slots {s : State} {k : ContextId} {a b : SlotId} (h : s.pairSlots k = some (a, b)) :
    s.pairReady k = true ↔ s.pairReadyAt k a b := by
  obtain ⟨ha, hb⟩ := (s.pairSlots_iff_isPairSlot k a b).mp h
  simp only [State.pairReady, h, Bool.and_eq_true, beq_iff_eq, Bool.not_eq_true', ← Bool.not_eq_true (s.waitsBehind _),
    State.turnFree_iff, State.waitsBehind_iff, State.pairReadyAt, ha, hb, true_and, and_assoc]

theorem State.pairReady_iff (s : State) (k : ContextId) : s.pairReady k = true ↔ ∃ a b : SlotId, s.pairReadyAt k a b := by
  constructor
  · intro h
    cases hslots : s.pairSlots k with
    | none => simp [State.pairReady, hslots] at h
    | some ab => exact ⟨ab.1, ab.2, (State.pairReady_of_slots hslots).mp h⟩
  · rintro ⟨a, b, hready⟩
    exact (State.pairReady_of_slots ((s.pairSlots_iff_isPairSlot k a b).mpr ⟨hready.1, hready.2.1⟩)).mpr hready

theorem State.pairSerial_of_slots {s : State} {k : ContextId} {a b : SlotId} (h : s.pairSlots k = some (a, b)) :
    s.pairSerial k = max s.unit.slots[a].serial s.unit.slots[b].serial := by rw [State.pairSerial, h]

/-- Does an urgent offer pass a slot or a pair that is ready and was allocated before (R95)? -/
def State.urgentPassed (s : State) (n : Nat) : Prop :=
  (∃ j : SlotId, s.slotReady j ∧ (∃ l : LinkId, s.unit.slots[j].owner = some (.tally l)) ∧ s.unit.slots[j].serial < n)
    ∨ ∃ (m : ContextId) (a b : SlotId), s.pairReadyAt m a b ∧ max s.unit.slots[a].serial s.unit.slots[b].serial < n

theorem State.urgentPassed_iff (s : State) (n : Nat) : s.passesUrgent n = true ↔ s.urgentPassed n := by
  simp only [State.passesUrgent_iff, State.slotReady_iff, Slot.urgent_iff, State.urgentPassed]
  refine or_congr Iff.rfl (exists_congr fun m => ?_)
  constructor
  · rintro ⟨hready, hserial⟩
    obtain ⟨a, b, hab⟩ := (s.pairReady_iff m).mp hready
    rw [State.pairSerial_of_slots ((s.pairSlots_iff_isPairSlot m a b).mpr ⟨hab.1, hab.2.1⟩)] at hserial
    exact ⟨a, b, hab, hserial⟩
  · rintro ⟨a, b, hab, hserial⟩
    refine ⟨(s.pairReady_iff m).mpr ⟨a, b, hab⟩, ?_⟩
    rwa [State.pairSerial_of_slots ((s.pairSlots_iff_isPairSlot m a b).mpr ⟨hab.1, hab.2.1⟩)]

theorem State.offered_urgent (s : State) (i : SlotId) : (s.offered i).urgent = s.unit.slots[i].urgent := rfl

theorem State.offerSlot_of_unready {s : State} {i : SlotId} (h : s.readyToOffer i = false) : s.offerSlot i = s :=
  if_neg (by simp [h])

theorem State.offerSlot_of_urgent {s : State} {i : SlotId} (h : s.readyToOffer i = true) (hurgent : s.unit.slots[i].urgent = true) :
    s.offerSlot i = if s.dport.urgent.length < 8 ∧ !s.passesUrgent s.unit.slots[i].serial then
      { s.setSlot i (s.offered i) with dport := { s.dport with urgent := s.dport.urgent ++ [(s.offered i).queueCell i none] } }
    else s := by
  rw [State.offerSlot, if_pos h]
  exact if_pos ((s.offered_urgent i).trans hurgent)

theorem State.offerSlot_of_command {s : State} {i : SlotId} (h : s.readyToOffer i = true) (hurgent : s.unit.slots[i].urgent = false) :
    s.offerSlot i = if s.dport.command.length < 16 ∧ !s.passesCommand s.unit.slots[i].serial then
      { s.setSlot i (s.offered i) with dport := { s.dport with command := s.dport.command ++ [(s.offered i).queueCell i none] } }
    else s := by
  rw [State.offerSlot, if_pos h]
  exact if_neg (by rw [State.offered_urgent, hurgent]; decide)

/-- Settles O37. -/
theorem slotOffersItsCell : Obligations.SlotOffersItsCell := by
  intro s i hdue slot free behind ready tally pairSlot pairReady passed passedCommand x toggle offered entry unit
  have hready (j : SlotId) : s.readyToOffer j = true ↔ ready j := s.slotReady_iff j
  have htally (j : SlotId) : s.unit.slots[j].urgent = true ↔ tally j := Slot.urgent_iff _
  have hpassed (n : Nat) : s.passesUrgent n = true ↔ passed n := s.urgentPassed_iff n
  have hcommand (n : Nat) : s.passesCommand n = true ↔ passedCommand n := by
    rw [State.passesCommand_iff]
    exact exists_congr fun j => and_congr (hready j) (and_congr (by rw [← Bool.not_eq_true, htally]) Iff.rfl)
  have hexec : exec (.slotOffer i) s = .next (s.offerSlot i) := State.settled_of_idle hdue fun t => t.offerSlot i
  have hfalse {b : Bool} {p : Prop} (hb : b = true ↔ p) (hp : ¬ p) : b = false := Bool.eq_false_iff.mpr (mt hb.mp hp)
  rw [hexec]
  refine ⟨fun hr ht hp hroom => congrArg _ ?_, fun ht hno => congrArg _ ?_, fun hr ht hp hroom => congrArg _ ?_,
    fun ht hno => congrArg _ ?_, fun hr => congrArg _ (State.offerSlot_of_unready (hfalse (hready i) hr))⟩
  · rw [State.offerSlot_of_urgent ((hready i).mpr hr) ((htally i).mpr ht), if_pos ⟨hroom, by rw [hfalse (hpassed _) hp]; rfl⟩]
    rfl
  · by_cases hr : ready i
    · rw [State.offerSlot_of_urgent ((hready i).mpr hr) ((htally i).mpr ht)]
      refine if_neg fun ⟨hroom, hfree⟩ => ?_
      rcases hno with hno | hno
      · rw [(hpassed _).mpr hno] at hfree
        cases hfree
      · exact absurd hroom (Nat.not_lt.mpr hno)
    · exact State.offerSlot_of_unready (hfalse (hready i) hr)
  · rw [State.offerSlot_of_command ((hready i).mpr hr) (hfalse (htally i) ht), if_pos ⟨hroom, by rw [hfalse (hcommand _) hp]; rfl⟩]
    rfl
  · by_cases hr : ready i
    · rw [State.offerSlot_of_command ((hready i).mpr hr) (hfalse (htally i) ht)]
      refine if_neg fun ⟨hroom, hfree⟩ => ?_
      rcases hno with hno | hno
      · rw [(hcommand _).mpr hno] at hfree
        cases hfree
      · exact absurd hroom (Nat.not_lt.mpr hno)
    · exact State.offerSlot_of_unready (hfalse (hready i) hr)

theorem State.submitPair_of_slots {s : State} {k : ContextId} {i j : SlotId} (h : s.pairSlots k = some (i, j)) :
    s.submitPair k = if s.pairReady k ∧ s.dport.urgent.length + 2 ≤ 8 ∧ !s.passesUrgent (s.pairSerial k) then
      { (s.setSlot i (s.offered i)).setSlot j (s.offered j) with dport := { s.dport with urgent := s.dport.urgent ++
        [(s.offered i).queueCell i (some k), (s.offered j).queueCell j (some k)] } }
    else s := by
  rw [State.submitPair, h]
  rfl

/-- Settles O38. -/
theorem pairIsSubmitted : Obligations.PairIsSubmitted := by
  intro s k hdue slot free behind ready tally pairSlot pairReady passed
  have hexec : exec (.pairSubmit k) s = .next (s.submitPair k) := State.settled_of_idle hdue fun t => t.submitPair k
  rw [hexec]
  refine ⟨fun i j hi hj => ?_, fun hno => congrArg _ ?_⟩
  · intro offered a b serial
    have hslots : s.pairSlots k = some (i, j) := (s.pairSlots_iff_isPairSlot k i j).mpr ⟨hi, hj⟩
    have hready : s.pairReady k = true ↔ pairReady k i j := State.pairReady_of_slots hslots
    have hpassed : s.passesUrgent serial = true ↔ passed serial := s.urgentPassed_iff serial
    have hserial : s.pairSerial k = serial := State.pairSerial_of_slots hslots
    rw [State.submitPair_of_slots hslots, hserial]
    refine ⟨fun hr hp hroom => ?_, fun hno => congrArg _ (if_neg ?_)⟩
    · refine congrArg _ ((if_pos ⟨hready.mpr hr, hroom, ?_⟩).trans rfl)
      rw [Bool.eq_false_iff.mpr (mt hpassed.mp hp)]
      rfl
    · rintro ⟨hr, hroom, hp⟩
      rcases hno with hno | hno | hno
      · exact hno (hready.mp hr)
      · rw [hpassed.mpr hno] at hp
        cases hp
      · omega
  · cases hslots : s.pairSlots k with
    | none => rw [State.submitPair, hslots]
    | some ab => exact absurd ((s.pairSlots_iff_isPairSlot k ab.1 ab.2).mp hslots) (hno ab.1 ab.2)

end Sys2Proof.Machine
end

section

/-! ### UNIT_COMMAND (R104) -/

namespace Sys2Proof.Machine

theorem State.unitManaged_iff (s : State) (u : Byte) : s.unitManaged u = true ↔
    ∃ l : LinkId, s.links[l].state ≠ .unused ∧ (s.links[l].portable = u ∨ s.links[l].rack = u) := by
  simp [State.unitManaged]

theorem not_relay_tally (id : Nat) : ¬ ∃ l, Owner.relay id = .tally l := nofun

theorem isFrequencyCommand_iff (b : Byte) : isFrequencyCommand b = true ↔ b = 0x01 ∨ b = 0x02 ∨ b = 0x04 ∨ b = 0x40 := by
  simp [isFrequencyCommand, or_assoc, cmdPreload, cmdSwitch, cmdRevert, cmdDirectTune]

/-- UNIT COMMAND while nobody waits for a slot (R104). -/
theorem State.unitCommand_eq {s : State} (hwaiting : s.unit.waiting = []) (r : Request) : s.unitCommand r =
    if !isUnit (byteAt r.args 0) then s.answer r .badValue []
    else if s.agent.quiesce ≠ .running then s.answer r .noSlot []
    else if isFrequencyCommand (byteAt r.args 1) ∧ s.unitManaged (byteAt r.args 0) then s.answer r .guarded []
    else match s.slotFor (.relay r.id) with
      | none => s.answer r .noSlot []
      | some i => (s.allocate i { owner := .relay r.id, unit := byteAt r.args 0, command := (r.args.drop 1).take 45
                                  single := byteAt r.args 1 == cmdSwitch || byteAt r.args 1 == cmdRevert }).defer r := by
  have hgrant : State.grantAll s.unit.waiting.length s = s := by rw [hwaiting]; rfl
  rw [State.unitCommand, hgrant] <;> rfl

/-- Settles O42. -/
theorem unitCommandIsRelayed : Obligations.UnitCommandIsRelayed := by
  intro s r h hcode hlen hwaiting u code guarded
  have hrow : hasCode 0x50 r = true := hasCode_of_args r 0x50 2 hcode (by decide) rfl hlen
  have hguarded : isFrequencyCommand code = true ∧ s.unitManaged u = true ↔ guarded :=
    and_congr (isFrequencyCommand_iff code) (s.unitManaged_iff u)
  have hunit (hu : isUnit u = true) : ¬ (!isUnit u) = true := by simp [hu]
  refine ⟨fun hu => exec_answer h rfl hrow ?_ rfl, fun hu hq => exec_answer h rfl hrow ?_ rfl,
    fun hu hq hg => exec_answer h rfl hrow ?_ rfl, fun hu hq hg hno => exec_answer h rfl hrow ?_ rfl,
    fun i hu hq hg hi hfree hfirst => exec_defer h rfl hrow ?_ ?_⟩
  · rw [State.unitCommand_eq hwaiting]
    exact if_pos (by rw [show isUnit (byteAt r.args 0) = false from hu]; rfl)
  · rw [State.unitCommand_eq hwaiting]
    exact (if_neg (hunit hu)).trans (if_pos hq)
  · rw [State.unitCommand_eq hwaiting]
    exact (if_neg (hunit hu)).trans ((if_neg (not_not.mpr hq)).trans (if_pos (hguarded.mpr hg)))
  · have hslot : s.slotFor (.relay r.id) = none := (s.slotFor_eq_none_iff _).mpr fun j ⟨hfree, hj⟩ =>
      hno j (hj.resolve_right (not_relay_tally r.id)) hfree
    rw [State.unitCommand_eq hwaiting, hslot]
    exact (if_neg (hunit hu)).trans ((if_neg (not_not.mpr hq)).trans (if_neg (mt hguarded.mp hg)))
  · have hslot : s.slotFor (.relay r.id) = some i :=
      (s.slotFor_eq_some_iff _ i).mpr ⟨hfree, .inl ⟨not_relay_tally r.id, hi, hfirst⟩⟩
    rw [State.unitCommand_eq hwaiting, hslot]
    refine (if_neg (hunit hu)).trans ((if_neg (not_not.mpr hq)).trans ((if_neg (mt hguarded.mp hg)).trans ?_))
    dsimp only
    rw [State.allocate_eq]
    rfl
  · rfl

end Sys2Proof.Machine
end

section

/-! ### The end of a slot, the drain condition and retryable errors (R99, R100, R103, R104, R193) -/

namespace Sys2Proof.Machine

/-- The state once a slot is FREE. -/
def State.freed (s : State) (i : SlotId) : State := { s with unit := { s.unit with slots := put s.unit.slots i {} } }

/-- The slot as it is handed to its owner at its end (R103). -/
def Slot.ended (x : Slot) (cond : Condition) : Slot := { x with state := .ended, condition := some cond, turn := false }

theorem State.endSlot_eq (s : State) (i : SlotId) (cond : Condition) (data : List Byte) :
    s.endSlot i cond data = (s.freed i).handOver (s.unit.slots[i].ended cond) cond data := by
  have hfree : (s.setSlot i (s.unit.slots[i].ended cond)).setSlot i {} = s.freed i := by
    simp only [State.setSlot, State.freed, put_put]
  rw [← hfree]
  rfl

theorem State.handOver_relay (s : State) {x : Slot} {id : Nat} (h : x.owner = some (.relay id)) (cond : Condition) (data : List Byte) :
    s.handOver x cond data = (s.answerId id .ok (u8 cond.code ++ if cond = .done ∨ cond = .refused then data else [])).testDrain := by
  rw [State.handOver, h]

theorem State.handOver_discarded (s : State) {x : Slot} {rc : Receiver} (h : x.owner = some (.scan rc)) (hx : x.discard = true)
    (cond : Condition) (data : List Byte) : s.handOver x cond data = s := by
  rw [State.handOver, h]
  exact if_pos hx

theorem State.handOver_none (s : State) {x : Slot} (h : x.owner = none) (cond : Condition) (data : List Byte) :
    s.handOver x cond data = s := by
  rw [State.handOver, h]

theorem State.drained_iff (s : State) : s.drained = true ↔ (∀ k : ContextId, s.contexts[k].stage = .free) ∧ s.scan.state ≠ .scanning
    ∧ ∀ (i : SlotId) (id : Nat), s.unit.slots[i].owner ≠ some (.relay id) := by
  have hslot (i : SlotId) : (match s.unit.slots[i].owner with
      | some (.relay _) => false
      | _ => true) = true ↔ ∀ id : Nat, s.unit.slots[i].owner ≠ some (.relay id) := by
    cases howner : s.unit.slots[i].owner with
    | none => simp
    | some o => cases o <;> simp
  rw [State.drained, Bool.and_eq_true, Bool.and_eq_true, and_assoc]
  refine and_congr (by simp) (and_congr (by simp) ?_)
  rw [List.all_eq_true]
  exact ⟨fun h i => (hslot i).mp (h i (List.mem_finRange i)), fun h i _ => (hslot i).mpr (h i)⟩

/-- The request of an identifier is the oldest that has it. -/
theorem State.answerId_of_first {s : State} {older younger : List Request} {r : Request} (h : s.agent.requests = older ++ r :: younger)
    (holder : ∀ q ∈ older, q.id ≠ r.id) (res : Result) (data : List Byte) : s.answerId r.id res data = s.answer r res data := by
  have hfind : s.agent.requests.find? (·.id = r.id) = some r := by
    rw [h, List.find?_append, List.find?_eq_none.mpr (by simpa using holder), List.find?_cons_of_pos (by simp)]
    rfl
  rw [State.answerId, hfind]

theorem State.retrySlot_of_last {s : State} {i : SlotId} (h : s.unit.slots[i].single = true ∨ 3 ≤ s.unit.slots[i].attempts) :
    s.retrySlot i = s.endSlot i .retryError [] := if_pos h

theorem State.retrySlot_of_more {s : State} {i : SlotId} (hsingle : s.unit.slots[i].single = false) (h : s.unit.slots[i].attempts < 3) :
    s.retrySlot i = (s.setSlot i { s.unit.slots[i] with state := .waiting, deadline := none }).noteResend s.unit.slots[i] :=
  if_neg (by simp only [hsingle, Bool.false_eq_true, false_or]; omega)

/-- Settles O40. -/
theorem slotEndsOrRetries : Obligations.SlotEndsOrRetries := by
  refine ⟨fun s i => ?_, fun s => ?_, fun s older younger r res data h holder => State.answerId_of_first h holder res data,
    fun s i hdue hsent hdeadline => ?_⟩
  · intro x freed
    have hend (cond : Condition) (data : List Byte) : s.endSlot i cond data = freed.handOver (x.ended cond) cond data :=
      s.endSlot_eq i cond data
    refine ⟨fun id cond data howner => ?_, fun rc cond data howner hdiscard => ?_, fun cond data howner => ?_,
      State.retrySlot_of_last, fun hsingle hmore => ?_⟩
    · exact (hend cond data).trans (freed.handOver_relay (x := x.ended cond) howner cond data)
    · exact (hend cond data).trans (freed.handOver_discarded (x := x.ended cond) howner hdiscard cond data)
    · exact (hend cond data).trans (freed.handOver_none (x := x.ended cond) howner cond data)
    · intro waits
      have hretry : s.retrySlot i = waits.noteResend x := State.retrySlot_of_more hsingle hmore
      refine ⟨fun hno => hretry.trans (State.noteResend_of_other fun rc howner => hno.resolve_left fun h => h rc howner),
        fun rc howner hdiscard => hretry.trans ((State.noteResend_of_scan howner hdiscard).trans ?_)⟩
      · cases rc <;> rfl
  · intro drained
    have hdrained : s.drained = true ↔ drained := s.drained_iff
    refine ⟨fun hq hd => if_pos ⟨hq, hdrained.mpr hd⟩, fun hno => if_neg fun ⟨hq, hd⟩ => ?_⟩
    exact hno.elim (· hq) (· (hdrained.mp hd))
  · have hexec : exec (.answerDeadline i) s = .next (s.dueStep (.answerDeadline i)) := rfl
    exact hexec.trans (congrArg _ ((State.dueStep_of_mem hdue).trans (if_pos ⟨hsent, hdeadline⟩)))

end Sys2Proof.Machine
end

section

/-! ### ANSWER_CELL (R98, R101) -/

namespace Sys2Proof.Machine

theorem Slot.expects_iff (x : Slot) {n : Nat} (hlow : 2 ≤ n) (hhigh : n ≤ 48) :
    x.expects n = true ↔ (∃ id, x.owner = some (.relay id)) ∨ n = 2 := by
  unfold Slot.expects
  split
  next id howner => simp [howner, hlow, hhigh]
  next hother =>
    have hno : ¬ ∃ id, x.owner = some (.relay id) := fun ⟨id, h⟩ => hother id h
    simp [hno]

theorem State.inCommittedPair_iff (s : State) (i : SlotId) :
    s.inCommittedPair i = true ↔ ∃ q ∈ s.dport.urgent, q.slot = i ∧ q.committed = true := by
  simp [State.inCommittedPair]

theorem State.inTransmission_iff (s : State) (i : SlotId) : s.inTransmission i = true ↔
    s.dport.line = .urgent ∧ (∃ q ∈ s.dport.urgent.head?, q.slot = i)
      ∨ s.dport.line = .command ∧ (∃ q ∈ s.dport.command.head?, q.slot = i) := by
  unfold State.inTransmission
  cases s.dport.line <;> simp [Option.any_eq_true]

theorem State.turnHolder_eq_some_iff (s : State) (u : Byte) (i : SlotId) : s.turnHolder u = some i ↔
    (s.unit.slots[i].turn = true ∧ s.unit.slots[i].unit = u)
      ∧ ∀ j : SlotId, j < i → s.unit.slots[j].turn = false ∨ s.unit.slots[j].unit ≠ u := by
  rw [State.turnHolder, find_finRange_iff]
  simp only [Bool.and_eq_true, beq_iff_eq, Bool.and_eq_false_iff, beq_eq_false_iff_ne]

theorem State.turnHolder_eq_none_iff (s : State) (u : Byte) : s.turnHolder u = none ↔
    ∀ i : SlotId, s.unit.slots[i].turn = false ∨ s.unit.slots[i].unit ≠ u := by
  rw [State.turnHolder, List.find?_eq_none]
  simp only [List.mem_finRange, forall_const, Bool.and_eq_true, beq_iff_eq, not_and_or, Bool.not_eq_true, ne_eq]

/-- A START makes the unit's toggle 0 and raises UNIT_START with the detail of the slot that holds the turn (R101). -/
def State.restarted (s : State) (u : Byte) (detail : Nat) : State := (s.setToggle u false).raise .unitStart u (u8 detail)

theorem State.takeStart_of_unit {s : State} {c : Cell} (hu : isUnit c.src = true) {i : SlotId} (hi : s.turnHolder c.src = some i) :
    s.takeStart c = ((s.startEffect i).2 (s.restarted c.src (s.startEffect i).1)).tallyUnitStart c.src := by
  rw [State.takeStart, if_pos hu, hi]
  rfl

theorem State.takeStart_of_noTurn {s : State} {c : Cell} (hu : isUnit c.src = true) (hi : s.turnHolder c.src = none) :
    s.takeStart c = (s.restarted c.src 0).tallyUnitStart c.src := by
  rw [State.takeStart, if_pos hu, hi]
  rfl

/-- The blocks that a START's notice leaves as they were. -/
theorem State.restarted_parts (s : State) (u : Byte) (detail : Nat) : (s.restarted u detail).unit.slots = s.unit.slots
    ∧ (s.restarted u detail).dport = s.dport ∧ (s.restarted u detail).scan = s.scan := by
  rw [State.restarted, State.raise_eq]
  exact ⟨rfl, rfl, rfl⟩

/-- The slot with the toggle that its unit has after a START. -/
def Slot.restarted (x : Slot) : Slot := { x with toggle := false }

theorem State.startEffect_of_waiting {s : State} {i : SlotId} (h : s.unit.slots[i].state = .waiting) :
    s.startEffect i = (0, fun t => t.setSlot i s.unit.slots[i].restarted) := by
  unfold State.startEffect
  generalize s.unit.slots[i] = x at h ⊢
  obtain ⟨⟩ := x
  subst h
  rfl

theorem State.startEffect_of_queued {s : State} {i : SlotId} (h : s.unit.slots[i].state = .queued) : s.startEffect i =
    if s.inCommittedPair i then (0, id)
    else if s.inTransmission i then (1, fun t => t.setSlot i { s.unit.slots[i].restarted with again := true })
    else (1, fun t => (t.setSlot i s.unit.slots[i].restarted).rewriteCell i s.unit.slots[i].restarted) := by
  unfold State.startEffect
  generalize s.unit.slots[i] = x at h ⊢
  obtain ⟨⟩ := x
  subst h
  rfl

theorem State.startEffect_of_sent {s : State} {i : SlotId} (h : s.unit.slots[i].state = .sent) : s.startEffect i =
    if s.unit.slots[i].single then (2, fun t => t.endSlot i .retryError [])
    else (1, fun t => (t.setSlot i { s.unit.slots[i].restarted with state := .waiting, deadline := none, uncounted := true }).noteResend
      s.unit.slots[i].restarted) := by
  unfold State.startEffect
  generalize s.unit.slots[i] = x at h ⊢
  obtain ⟨⟩ := x
  subst h
  rfl

theorem exec_answerCell {s : State} {c : Cell} (hdue : s.due = []) (hreset : s.pins.reset = false) (hgood : integral c = true)
    (hkind : c.kind = 6) (hdest : c.dest = 0) : exec (.answerCell c) s = .next (s.takeAnswer c) :=
  State.settled_receive hdue hreset hgood (by simp [Instr.wf, hkind, hdest]) fun s => s.takeAnswer c

theorem State.takeAnswer_of_start {s : State} {c : Cell} (hlen : 2 ≤ (cellData c).length) (hstart : byteAt (cellData c) 1 = 3) :
    s.takeAnswer c = s.takeStart c := if_pos ⟨hlen, hstart⟩

theorem State.takeAnswer_of_stray {s : State} {c : Cell} (hstart : byteAt (cellData c) 1 ≠ 3) (h : s.sentSlot c.src = none) :
    s.takeAnswer c = s.stray c := by
  rw [State.takeAnswer]
  dsimp only
  rw [if_neg fun hs => hstart hs.2, h]

/-- The rows of R98 for the SENT slot of the answer's source. -/
theorem State.takeAnswer_of_sent {s : State} {c : Cell} {i : SlotId} (hlen : 2 ≤ (cellData c).length)
    (hstart : byteAt (cellData c) 1 ≠ 3) (h : s.sentSlot c.src = some i) : s.takeAnswer c =
      if byteAt (cellData c) 0 ≠ byteAt s.unit.slots[i].command 0 then s.stray c
      else if !s.unit.slots[i].expects (cellData c).length then s.endSlot i .lengthError []
      else if c.toggle ≠ s.unit.slots[i].toggle then s.retrySlot i
      else if byteAt (cellData c) 1 = 1 then (s.flipToggle s.unit.slots[i].unit).endSlot i .done ((cellData c).drop 2)
      else if byteAt (cellData c) 1 = 2 then s.endSlot i .refused ((cellData c).drop 2)
      else s.retrySlot i := by
  have hdata : cellData c ≠ [] := fun hnil => by simp [hnil] at hlen
  rw [State.takeAnswer]
  dsimp only
  rw [if_neg fun hs => hstart hs.2, h]
  simp only [hdata, false_or]

theorem State.stray_answer {s : State} {c : Cell} (hkind : c.kind = 6) : s.stray c = s.raise .strayAnswer 1 [c.src, 6] := by
  rw [State.stray, hkind]
  rfl

/-- Settles O39. -/
theorem answerIsJudged : Obligations.AnswerIsJudged := by
  refine ⟨fun s c hdue hreset hgood hkind hdest hlen hstart => ?_, fun s c hdue hreset hgood hkind hdest hlen hstart => ?_⟩
  · intro stray answer
    have hlength : (cellData c).length = c.len.toNat := cellData_length_of_integral c hgood
    have hhigh : (cellData c).length ≤ 48 := by simp [cellData]
    have hanswer : answer = .next (s.takeAnswer c) := exec_answerCell hdue hreset hgood hkind hdest
    have hstray : s.stray c = stray := State.stray_answer hkind
    rw [hanswer]
    refine ⟨fun hnone => congrArg _ ((State.takeAnswer_of_stray hstart hnone).trans hstray), fun i hi => ?_⟩
    intro x echoed expected
    have hexpects : x.expects (cellData c).length = true ↔ expected := by
      rw [x.expects_iff (by omega) hhigh, hlength]
    have hfit (h : expected) : ¬ (!x.expects (cellData c).length) = true := by rw [hexpects.mpr h]; decide
    rw [State.takeAnswer_of_sent (by omega) hstart hi]
    refine ⟨fun he => congrArg _ ((if_pos he).trans hstray), fun he hx => congrArg _ ((if_neg (not_not.mpr he)).trans (if_pos ?_)),
      fun he hx ht => congrArg _ ((if_neg (not_not.mpr he)).trans ((if_neg (hfit hx)).trans (if_pos ht))),
      fun he hx ht hdone => congrArg _ ((if_neg (not_not.mpr he)).trans ((if_neg (hfit hx)).trans ((if_neg (not_not.mpr ht)).trans
        (if_pos hdone)))),
      fun he hx ht hrefused => congrArg _ ((if_neg (not_not.mpr he)).trans ((if_neg (hfit hx)).trans ((if_neg (not_not.mpr ht)).trans
        ((if_neg (by rw [hrefused]; decide)).trans (if_pos hrefused))))),
      fun he hx ht hdone hrefused => congrArg _ ((if_neg (not_not.mpr he)).trans ((if_neg (hfit hx)).trans ((if_neg (not_not.mpr ht)).trans
        ((if_neg hdone).trans (if_neg hrefused)))))⟩
    rw [Bool.eq_false_iff.mpr (mt hexpects.mp hx)]
    rfl
  · intro u answer restarted slotWith
    have hlength : (cellData c).length = c.len.toNat := cellData_length_of_integral c hgood
    have hanswer : answer = .next (s.takeStart c) :=
      (exec_answerCell hdue hreset hgood hkind hdest).trans (congrArg _ (State.takeAnswer_of_start (by omega) hstart))
    rw [hanswer]
    refine ⟨fun hu => congrArg _ ((if_neg (by rw [show isUnit c.src = false from hu]; decide)).trans (State.stray_answer hkind)),
      fun hu hno => congrArg _ (State.takeStart_of_noTurn hu ((s.turnHolder_eq_none_iff u).mpr hno)), fun i hu hturn hunit hfirst => ?_⟩
    intro x x0 committed sending scans rewritten
    have hholder : s.turnHolder c.src = some i := (s.turnHolder_eq_some_iff u i).mpr ⟨⟨hturn, hunit⟩, hfirst⟩
    have hcommitted : s.inCommittedPair i = true ↔ committed := s.inCommittedPair_iff i
    have hsending : s.inTransmission i = true ↔ sending := s.inTransmission_iff i
    have htake := State.takeStart_of_unit hu hholder
    rw [htake]
    refine ⟨fun hx => ?_, fun hx hc => ?_, fun hx hc hs => ?_, fun hx hc hs => ?_, fun hx hsingle => ?_, fun hx hsingle hscans => ?_,
      fun rc hx hsingle howner hdiscard => ?_⟩
    · rw [State.startEffect_of_waiting hx]
      rfl
    · rw [State.startEffect_of_queued hx, if_pos (hcommitted.mpr hc)]
      rfl
    · rw [State.startEffect_of_queued hx, if_neg (mt hcommitted.mp hc), if_pos (hsending.mpr hs)]
      rfl
    · rw [State.startEffect_of_queued hx, if_neg (mt hcommitted.mp hc), if_neg (mt hsending.mp hs)]
      obtain ⟨-, hdport, -⟩ := s.restarted_parts u 1
      refine congrArg (fun d : DPort => Host.Outcome.next (State.tallyUnitStart { slotWith 1 i x0 with dport :=
        { d with urgent := d.urgent.map rewritten, command := d.command.map rewritten } } u)) hdport
    · rw [State.startEffect_of_sent hx, if_pos hsingle]
      rfl
    · rw [State.startEffect_of_sent hx, if_neg (Bool.eq_false_iff.mp hsingle)]
      refine congrArg _ (congrArg (State.tallyUnitStart · u) (State.noteResend_of_other fun rc howner => ?_))
      by_contra hdiscard
      exact hscans ⟨rc, howner, Bool.eq_false_iff.mpr hdiscard⟩
    · rw [State.startEffect_of_sent hx, if_neg (Bool.eq_false_iff.mp hsingle)]
      obtain ⟨-, -, hscan⟩ := s.restarted_parts u 1
      refine congrArg _ (congrArg (State.tallyUnitStart · u) ((State.noteResend_of_scan (x := s.unit.slots[i].restarted) howner
        hdiscard).trans ?_))
      cases rc with
      | a => exact congrArg (fun g : Scan => (slotWith 1 i { x0 with state := .waiting, deadline := none, uncounted := true }).setSweeper
          .a { g.recvA with results := [] }) hscan
      | b => exact congrArg (fun g : Scan => (slotWith 1 i { x0 with state := .waiting, deadline := none, uncounted := true }).setSweeper
          .b { g.recvB with results := [] }) hscan

end Sys2Proof.Machine
end

section

/-! ### The nearest and the lowest of a list (R145, R146) -/

namespace Sys2Proof.Machine

/-- A search for the best of a list, where a later entry takes the place of an earlier one only when it is better. -/
def pickBest {α : Type} (better : α → α → Prop) [DecidableRel better] (xs : List α) : Option α :=
  xs.foldl (fun best p => match best with
    | none => some p
    | some q => if better p q then some p else some q) none

theorem foldl_pick_some {α : Type} {better : α → α → Prop} [DecidableRel better] {xs : List α} {d : α}
    (h : ∀ a ∈ xs, ¬ better a d) : xs.foldl (fun best p => match best with
      | none => some p
      | some q => if better p q then some p else some q) (some d) = some d := by
  induction xs with
  | nil => rfl
  | cons x xs ih =>
    obtain ⟨hx, hxs⟩ := List.forall_mem_cons.mp h
    rw [List.foldl_cons]
    dsimp only
    rw [if_neg hx, ih hxs]

/-- What a search has found is nothing, or an entry of the list. -/
theorem pickBest_mem {α : Type} {better : α → α → Prop} [DecidableRel better] {xs : List α} {d : α} (h : pickBest better xs = some d) :
    d ∈ xs := by
  have along (ys : List α) (best : Option α) (hd : ys.foldl (fun best p => match best with
      | none => some p
      | some q => if better p q then some p else some q) best = some d) : best = some d ∨ d ∈ ys := by
    induction ys generalizing best with
    | nil => exact .inl hd
    | cons y ys ih =>
      rcases ih _ hd with hnext | hmem
      · cases best with
        | none => exact .inr (by cases hnext; exact List.mem_cons_self)
        | some q =>
          dsimp only at hnext
          split at hnext
          · exact .inr (by cases hnext; exact List.mem_cons_self)
          · exact .inl hnext
      · exact .inr (List.mem_cons_of_mem y hmem)
  exact (along xs none h).resolve_left nofun

/-- The entry that is better than those before it, with none better behind it, is the one found. -/
theorem pickBest_of_best {α : Type} {better : α → α → Prop} [DecidableRel better] {before after : List α} {d : α}
    (hbefore : ∀ b ∈ before, better d b) (hafter : ∀ a ∈ after, ¬ better a d) : pickBest better (before ++ d :: after) = some d := by
  have hstep : (match pickBest better before with
      | none => some d
      | some q => if better d q then some d else some q) = some d := by
    cases hbest : pickBest better before with
    | none => rfl
    | some q => exact if_pos (hbefore q (pickBest_mem hbest))
  rw [pickBest, List.foldl_append, List.foldl_cons]
  exact (congrArg (fun best => after.foldl _ best) hstep).trans (foldl_pick_some hafter)

/-- Is a listed frequency, with its position, nearer than another, or as near and lower? -/
abbrev nearer (f : Nat) (p q : Nat × Nat) : Prop := apart f p.1 < apart f q.1 ∨ (apart f p.1 = apart f q.1 ∧ p.1 < q.1)

theorem nearestWithin_eq (f width : Nat) (fs : List Nat) :
    nearestWithin f width fs = (pickBest (nearer f) (fs.zipIdx.filter fun p => apart f p.1 ≤ width)).map (·.2) := by
  unfold nearestWithin pickBest
  congr 2
  funext best p
  cases best with
  | none => rfl
  | some q => rfl

/-- Is a listed level, with its frequency and position, lower than another, or as low and lower in frequency? -/
abbrev weaker (p q : (Nat × Int) × Nat) : Prop := p.1.2 < q.1.2 ∨ (p.1.2 = q.1.2 ∧ p.1.1 < q.1.1)

theorem lowestLevel_eq (xs : List (Nat × Int)) : lowestLevel xs = (pickBest weaker xs.zipIdx).map (·.2) := by
  unfold lowestLevel pickBest
  congr 2
  funext best p
  cases best with
  | none => rfl
  | some q => rfl

theorem pickBest_eq_none {α : Type} {better : α → α → Prop} [DecidableRel better] {xs : List α} (h : pickBest better xs = none) : xs = [] := by
  rcases List.eq_nil_or_concat xs with hnil | ⟨ys, d, rfl⟩
  · exact hnil
  · rw [pickBest, List.concat_eq_append, List.foldl_append] at h
    simp only [List.foldl_cons, List.foldl_nil] at h
    split at h
    · cases h
    · split at h <;> cases h

/-- With no listed frequency within the width, none is nearest. -/
theorem nearestWithin_of_none {α : Type} {f width : Nat} {freq : α → Nat} {xs : List α}
    (h : ∀ x ∈ xs, ¬ apart f (freq x) ≤ width) : nearestWithin f width (xs.map freq) = none := by
  have hfilter : ((xs.map freq).zipIdx.filter fun p => decide (apart f p.1 ≤ width)) = [] := by
    refine List.filter_eq_nil_iff.mpr fun p hp => ?_
    obtain ⟨x, hx, hfreq⟩ := List.mem_map.mp (List.fst_mem_of_mem_zipIdx hp)
    simpa [← hfreq] using h x hx
  rw [nearestWithin_eq, hfilter]
  rfl

/-- The position of the nearest of the listed frequencies within the width, the lower in frequency on a tie. -/
theorem nearestWithin_of_nearest {α : Type} {f width : Nat} {freq : α → Nat} {before after : List α} {d : α}
    (hd : apart f (freq d) ≤ width)
    (hbefore : ∀ b ∈ before, apart f (freq b) ≤ width →
      apart f (freq d) < apart f (freq b) ∨ apart f (freq d) = apart f (freq b) ∧ freq d < freq b)
    (hafter : ∀ a ∈ after, apart f (freq a) ≤ width →
      apart f (freq d) < apart f (freq a) ∨ apart f (freq d) = apart f (freq a) ∧ freq d ≤ freq a) :
    nearestWithin f width ((before ++ d :: after).map freq) = some before.length := by
  have hzip : ((before ++ d :: after).map freq).zipIdx.filter (fun p => decide (apart f p.1 ≤ width))
      = ((before.map freq).zipIdx.filter fun p => decide (apart f p.1 ≤ width)) ++ (freq d, before.length)
        :: (((after.map freq).zipIdx (before.length + 1)).filter fun p => decide (apart f p.1 ≤ width)) := by
    rw [List.map_append, List.map_cons, List.zipIdx_append, List.zipIdx_cons, List.filter_append, List.length_map, Nat.zero_add,
      List.filter_cons_of_pos (by simpa using hd)]
  rw [nearestWithin_eq, hzip, pickBest_of_best]
  · rfl
  · intro p hp
    obtain ⟨hp, hwithin⟩ := List.mem_filter.mp hp
    obtain ⟨b, hb, hfreq⟩ := List.mem_map.mp (List.fst_mem_of_mem_zipIdx hp)
    have := hbefore b hb (by simpa [hfreq] using hwithin)
    simpa only [nearer, ← hfreq] using this
  · intro p hp
    obtain ⟨hp, hwithin⟩ := List.mem_filter.mp hp
    obtain ⟨a, ha, hfreq⟩ := List.mem_map.mp (List.fst_mem_of_mem_zipIdx hp)
    have := hafter a ha (by simpa [hfreq] using hwithin)
    simp only [nearer, ← hfreq]
    omega

/-- The position of the lowest of the listed levels, the lower in frequency on a tie. -/
theorem lowestLevel_of_lowest {α : Type} {freq : α → Nat} {level : α → Int} {before after : List α} {d : α}
    (hbefore : ∀ b ∈ before, level d < level b ∨ level d = level b ∧ freq d < freq b)
    (hafter : ∀ a ∈ after, level d < level a ∨ level d = level a ∧ freq d ≤ freq a) :
    lowestLevel ((before ++ d :: after).map fun x => (freq x, level x)) = some before.length := by
  have hzip : ((before ++ d :: after).map fun x => (freq x, level x)).zipIdx
      = (before.map fun x => (freq x, level x)).zipIdx ++ ((freq d, level d), before.length)
        :: (after.map fun x => (freq x, level x)).zipIdx (before.length + 1) := by
    rw [List.map_append, List.map_cons, List.zipIdx_append, List.zipIdx_cons, List.length_map, Nat.zero_add]
  rw [lowestLevel_eq, hzip, pickBest_of_best]
  · rfl
  · intro p hp
    obtain ⟨b, hb, hx⟩ := List.mem_map.mp (List.fst_mem_of_mem_zipIdx hp)
    simpa only [weaker, ← hx] using hbefore b hb
  · intro p hp
    obtain ⟨a, ha, hx⟩ := List.mem_map.mp (List.fst_mem_of_mem_zipIdx hp)
    have := hafter a ha
    simp only [weaker, ← hx]
    omega

end Sys2Proof.Machine
end
section

/-! ### The points of a segment and the detections they give (R145) -/

namespace Sys2Proof.Machine

theorem State.planOwn_iff (s : State) (f : Nat) : s.planOwn f = true ↔ ∃ e : EntryId, s.plan.carriers[e].state ≠ .free
    ∧ apart f s.plan.carriers[e].freq ≤ s.plan.carriers[e].cls.bandwidth / 2 := by
  simp only [State.planOwn, List.any_eq_true, Vector.mem_toList_iff, Carrier.counted, Bool.and_eq_true, bne_iff_ne, decide_eq_true_eq]
  constructor
  · rintro ⟨c, hc, hstate⟩
    obtain ⟨i, hi, rfl⟩ := Vector.mem_iff_getElem.mp hc
    exact ⟨⟨i, hi⟩, hstate⟩
  · rintro ⟨e, hstate⟩
    exact ⟨_, Vector.getElem_mem e.isLt, hstate⟩

theorem modify_at_length {α : Type} (before after : List α) (d : α) (f : α → α) :
    (before ++ d :: after).modify before.length f = before ++ f d :: after := by
  induction before with
  | nil => rfl
  | cons b before ih => exact congrArg (b :: ·) ih

theorem set_at_length {α : Type} (before after : List α) (d x : α) :
    (before ++ d :: after).set before.length x = before ++ x :: after := by
  rw [List.set_append_right _ _ (Nat.le_refl _), Nat.sub_self]
  rfl

theorem getElem?_at_length {α : Type} (before after : List α) (d : α) : (before ++ d :: after)[before.length]? = some d := by
  rw [List.getElem?_append_right (Nat.le_refl _), Nat.sub_self]
  rfl

theorem eraseIdx_at_length {α : Type} (before after : List α) (d : α) :
    (before ++ d :: after).eraseIdx before.length = before ++ after := by
  rw [List.eraseIdx_append_of_length_le (Nat.le_refl _), Nat.sub_self]
  rfl

theorem insertIdx_at_length {α : Type} (before after : List α) (x : α) :
    (before ++ after).insertIdx before.length x = before ++ x :: after := by
  induction before with
  | nil => rfl
  | cons b before ih => exact congrArg (b :: ·) ih

theorem addDetection_of_near {width f : Nat} {level : Int} {before after : List Detection} {d : Detection}
    (hd : apart f d.freq ≤ width)
    (hbefore : ∀ b ∈ before, apart f b.freq ≤ width →
      apart f d.freq < apart f b.freq ∨ apart f d.freq = apart f b.freq ∧ d.freq < b.freq)
    (hafter : ∀ a ∈ after, apart f a.freq ≤ width →
      apart f d.freq < apart f a.freq ∨ apart f d.freq = apart f a.freq ∧ d.freq ≤ a.freq) :
    addDetection width (before ++ d :: after) f level = before ++ { d with level := max d.level level } :: after := by
  rw [addDetection, nearestWithin_of_nearest (freq := Detection.freq) hd hbefore hafter]
  exact modify_at_length before after d _

theorem addDetection_of_room {width f : Nat} {level : Int} {ds : List Detection} (hno : ∀ d ∈ ds, ¬ apart f d.freq ≤ width)
    (hroom : ds.length < 32) : addDetection width ds f level = ds ++ [{ freq := f, level }] := by
  rw [addDetection, nearestWithin_of_none (freq := Detection.freq) hno]
  exact if_pos hroom

theorem addDetection_of_full {width f : Nat} {level : Int} {before after : List Detection} {d : Detection}
    (hno : ∀ x ∈ before ++ d :: after, ¬ apart f x.freq ≤ width) (hfull : 32 ≤ (before ++ d :: after).length)
    (hbefore : ∀ b ∈ before, d.level < b.level ∨ d.level = b.level ∧ d.freq < b.freq)
    (hafter : ∀ a ∈ after, d.level < a.level ∨ d.level = a.level ∧ d.freq ≤ a.freq) :
    addDetection width (before ++ d :: after) f level =
      if d.level < level then before ++ { freq := f, level } :: after else before ++ d :: after := by
  rw [addDetection, nearestWithin_of_none (freq := Detection.freq) hno]
  dsimp only
  rw [if_neg (Nat.not_lt.mpr hfull), lowestLevel_of_lowest (freq := Detection.freq) (level := Detection.level) hbefore hafter]
  dsimp only
  rw [getElem?_at_length, set_at_length]
  simp only [Option.any_some, decide_eq_true_eq]

/-- A point that is above the stop, below the threshold or of the plan's own is discarded. -/
theorem State.takePoint_of_discarded {s : State} {rc : Receiver} {g : Segment} {n : Nat} {level : Int}
    (h : g.stop < g.start + n * g.step ∨ level = -128 ∨ level < s.scan.settings.threshold ∨ s.planOwn (g.start + n * g.step) = true) :
    s.takePoint rc g n level = s := if_pos h

theorem State.takePoint_of_taken {s : State} {rc : Receiver} {g : Segment} {n : Nat} {level : Int}
    (hstop : g.start + n * g.step ≤ g.stop) (hlevel : level ≠ -128) (hthreshold : s.scan.settings.threshold ≤ level)
    (hown : ¬ s.planOwn (g.start + n * g.step) = true) : s.takePoint rc g n level = s.setSweeper rc { s.sweeper rc with
      results := addDetection s.scan.settings.mergeWidth (s.sweeper rc).results (g.start + n * g.step) level } := by
  refine if_neg ?_
  rintro (h | h | h | h)
  · omega
  · exact hlevel h
  · omega
  · exact hown h

/-- A point changes the receiver's results alone. -/
theorem State.takePoint_parts (s : State) (rc : Receiver) (g : Segment) (n : Nat) (level : Int) :
    (s.takePoint rc g n level).scan.segments = s.scan.segments ∧ (s.takePoint rc g n level).scan.settings = s.scan.settings
      ∧ (s.takePoint rc g n level).timing = s.timing ∧ (s.takePoint rc g n level).unit = s.unit := by
  unfold State.takePoint
  dsimp only
  split
  · exact ⟨rfl, rfl, rfl, rfl⟩
  · cases rc <;> exact ⟨rfl, rfl, rfl, rfl⟩

end Sys2Proof.Machine
end

section

/-! ### SWEEP_CELL (R102, R145) -/

namespace Sys2Proof.Machine

theorem State.sentSlot_eq_none_iff (s : State) (u : Byte) : s.sentSlot u = none ↔
    ∀ i : SlotId, s.unit.slots[i].state ≠ .sent ∨ s.unit.slots[i].unit ≠ u := by
  rw [State.sentSlot, List.find?_eq_none]
  simp only [List.mem_finRange, forall_const, Bool.and_eq_true, beq_iff_eq, not_and_or, ne_eq]

theorem State.sentSlot_spec {s : State} {u : Byte} {i : SlotId} (h : s.sentSlot u = some i) :
    s.unit.slots[i].state = .sent ∧ s.unit.slots[i].unit = u := by
  rw [State.sentSlot, find_finRange_iff] at h
  simpa only [Bool.and_eq_true, beq_iff_eq] using h.1

/-- The points of a SWEEP cell for a receiver's current segment (R145). -/
def State.pointsTaken (s : State) (rc : Receiver) (g : Fin 16) (data : List Byte) (n : Nat) : State :=
  (List.range n).foldl (fun u j => State.takePoint u rc u.scan.segments[g] (u16At data (2 + 3 * j)) (s8At data (4 + 3 * j))) s

theorem State.takeSweep_of_current {s : State} {rc : Receiver} {g : Fin 16} {data : List Byte} (h : (s.sweeper rc).current = some g)
    (hg : u8At data 0 = g.val) : s.takeSweep rc data = s.pointsTaken rc g data (u8At data 1) := by
  rw [State.takeSweep, h]
  refine (if_pos hg).trans ?_
  rw [sweepPoints, List.foldl_map]
  rfl

theorem State.takeSweep_of_other {s : State} {rc : Receiver} {data : List Byte}
    (h : ∀ g : Fin 16, (s.sweeper rc).current = some g → u8At data 0 ≠ g.val) : s.takeSweep rc data = s := by
  rw [State.takeSweep]
  cases hcur : (s.sweeper rc).current with
  | none => rfl
  | some g => exact if_neg (h g hcur)

theorem State.pointsTaken_parts (s : State) (rc : Receiver) (g : Fin 16) (data : List Byte) (n : Nat) :
    (s.pointsTaken rc g data n).timing = s.timing ∧ (s.pointsTaken rc g data n).scan.settings = s.scan.settings := by
  have along (js : List Nat) (t : State) : (js.foldl (fun u j => State.takePoint u rc u.scan.segments[g] (u16At data (2 + 3 * j))
      (s8At data (4 + 3 * j))) t).timing = t.timing ∧ (js.foldl (fun u j => State.takePoint u rc u.scan.segments[g]
        (u16At data (2 + 3 * j)) (s8At data (4 + 3 * j))) t).scan.settings = t.scan.settings := by
    induction js generalizing t with
    | nil => exact ⟨rfl, rfl⟩
    | cons j js ih =>
      obtain ⟨-, hsettings, htiming, -⟩ := t.takePoint_parts rc t.scan.segments[g] (u16At data (2 + 3 * j)) (s8At data (4 + 3 * j))
      rw [List.foldl_cons]
      exact ⟨(ih _).1.trans htiming, (ih _).2.trans hsettings⟩
  exact along _ s

/-- The points of a cell, for a slot that the scan engine owns whose discard mark is clear (R102). -/
def State.sweepTaken (s : State) (x : Slot) (data : List Byte) : State :=
  match x.owner with
  | some (.scan r) => if x.discard then s else s.takeSweep r data
  | _ => s

/-- The deadline of the slot is set again (R102). -/
def State.sweepWaits (s : State) (i : SlotId) (x : Slot) : State :=
  s.setSlot i { x with deadline := some (s.timing.frame + BitVec.ofNat 16 s.scan.settings.segmentTimeout) }

theorem State.takeSweepCell_of_none {s : State} {c : Cell} (h : s.sentSlot c.src = none) : s.takeSweepCell c = s.stray c := by
  rw [State.takeSweepCell, h]

theorem State.takeSweepCell_of_command {s : State} {c : Cell} {i : SlotId} (h : s.sentSlot c.src = some i)
    (hcommand : byteAt s.unit.slots[i].command 0 ≠ 0x06) : s.takeSweepCell c = s.stray c := by
  rw [State.takeSweepCell, h]
  exact if_pos hcommand

theorem State.takeSweepCell_of_toggle {s : State} {c : Cell} {i : SlotId} (h : s.sentSlot c.src = some i)
    (hcommand : byteAt s.unit.slots[i].command 0 = 0x06) (htoggle : c.toggle ≠ s.unit.slots[i].toggle) :
    s.takeSweepCell c = s.retrySlot i := by
  rw [State.takeSweepCell, h]
  exact (if_neg (not_not.mpr hcommand)).trans (if_pos htoggle)

theorem State.takeSweepCell_of_taken {s t : State} {c : Cell} {i : SlotId} (h : s.sentSlot c.src = some i)
    (hcommand : byteAt s.unit.slots[i].command 0 = 0x06) (htoggle : c.toggle = s.unit.slots[i].toggle)
    (ht : s.sweepTaken s.unit.slots[i] (cellData c) = t) (htiming : t.timing = s.timing)
    (hsettings : t.scan.settings = s.scan.settings) :
    let waits := t.setSlot i { s.unit.slots[i] with deadline := some (s.timing.frame + BitVec.ofNat 16 s.scan.settings.segmentTimeout) }
    (c.last = false → s.takeSweepCell c = waits)
      ∧ (c.last = true → s.takeSweepCell c = (waits.flipToggle s.unit.slots[i].unit).endSlot i .done []) := by
  intro waits
  have hall : s.takeSweepCell c = if c.last then (waits.flipToggle s.unit.slots[i].unit).endSlot i .done [] else waits := by
    rw [State.takeSweepCell, h]
    refine (if_neg (not_not.mpr hcommand)).trans ((if_neg (not_not.mpr htoggle)).trans ?_)
    have hwaits : (s.sweepTaken s.unit.slots[i] (cellData c)).sweepWaits i s.unit.slots[i] = waits := by
      rw [ht, State.sweepWaits, htiming, hsettings]
    rw [← hwaits]
    rfl
  exact ⟨fun hlast => hall.trans (if_neg (Bool.eq_false_iff.mp hlast)), fun hlast => hall.trans (if_pos hlast)⟩

theorem exec_sweepCell {s : State} {c : Cell} (hdue : s.due = []) (hreset : s.pins.reset = false) (hgood : integral c = true)
    (hkind : c.kind = 7) (hdest : c.dest = 0) (hformat : sweepFormat (cellData c) = true) :
    exec (.sweepCell c) s = .next (s.takeSweepCell c) := by
  refine (State.settled_receive hdue hreset hgood (by simp [Instr.wf, hkind, hdest])
    fun s => s.checkFormat .d (sweepFormat (cellData c)) fun s => s.takeSweepCell c).trans ?_
  rw [State.checkFormat_of_ok hformat]

end Sys2Proof.Machine
end
section

/-! ### The foreign list and its conflicts with the plan (R146, R149) -/

namespace Sys2Proof.Machine

theorem State.insertForeign_eq {s : State} {d : Detection} {below above : List Foreign} (h : s.scan.foreign = below ++ above)
    (hbelow : ∀ x ∈ below, x.freq < d.freq) (habove : ∀ x ∈ above, d.freq ≤ x.freq) : s.insertForeign d =
      (State.raise { s with
          scan := { s.scan with foreign := below ++ { freq := d.freq, peak := d.level, lastSeen := s.scan.number, misses := 0 } :: above
                                inserted := s.scan.inserted + 1 }
          plan := { s.plan with gen := s.plan.gen + 1 } }
        .foreignNew (BitVec.ofNat 8 below.length) (u32 d.freq ++ s8 d.level ++ half s.scan.number)).foreignConflict
          { freq := d.freq, peak := d.level, lastSeen := s.scan.number, misses := 0 } false := by
  have hplace : (s.scan.foreign.filter (·.freq < d.freq)).length = below.length := by
    rw [h, List.filter_append, List.filter_eq_self.mpr (by simpa using hbelow), List.filter_eq_nil_iff.mpr (by simpa using habove),
      List.append_nil]
  have hinsert (x : Foreign) : s.scan.foreign.insertIdx below.length x = below ++ x :: above := by rw [h, insertIdx_at_length]
  simp only [State.insertForeign, hplace, hinsert, State.setForeign, State.bumpGen]
  rfl

theorem State.applyDetection_of_own {s : State} {d : Detection} (h : s.planOwn d.freq = true) : s.applyDetection d = s := if_pos h

theorem State.applyDetection_of_near {s : State} {d : Detection} {before after : List Foreign} {x : Foreign}
    (hown : ¬ s.planOwn d.freq = true) (hlist : s.scan.foreign = before ++ x :: after)
    (hnear : nearestWithin d.freq s.scan.settings.mergeWidth (s.scan.foreign.map (·.freq)) = some before.length) :
    s.applyDetection d = (s.setForeign (before ++ { x with peak := max x.peak d.level, misses := 0, lastSeen := s.scan.number } :: after)).foreignConflict
      { x with peak := max x.peak d.level, misses := 0, lastSeen := s.scan.number } true := by
  rw [State.applyDetection, if_neg hown, hnear]
  dsimp only
  rw [hlist, getElem?_at_length]
  dsimp only
  rw [set_at_length]

theorem State.applyDetection_of_room {s : State} {d : Detection} (hown : ¬ s.planOwn d.freq = true)
    (hno : nearestWithin d.freq s.scan.settings.mergeWidth (s.scan.foreign.map (·.freq)) = none) (hroom : s.scan.foreign.length < 32) :
    s.applyDetection d = s.insertForeign d := by
  rw [State.applyDetection, if_neg hown, hno]
  exact if_pos hroom

theorem State.applyDetection_of_full {s : State} {d : Detection} {before after : List Foreign} {x : Foreign}
    (hown : ¬ s.planOwn d.freq = true)
    (hno : nearestWithin d.freq s.scan.settings.mergeWidth (s.scan.foreign.map (·.freq)) = none) (hfull : 32 ≤ s.scan.foreign.length)
    (hlist : s.scan.foreign = before ++ x :: after)
    (hlowest : lowestLevel (s.scan.foreign.map fun x => (x.freq, x.peak)) = some before.length) :
    s.applyDetection d = if x.peak < d.level then (s.removeForeign before.length x 2).insertForeign d else s := by
  rw [State.applyDetection, if_neg hown, hno]
  dsimp only
  rw [if_neg (Nat.not_lt.mpr hfull), hlowest]
  dsimp only
  rw [hlist, getElem?_at_length]

theorem State.removeForeign_eq {s : State} {before after : List Foreign} {x : Foreign} (hlist : s.scan.foreign = before ++ x :: after)
    (cause : Nat) : s.removeForeign before.length x cause = State.raise { s with
      scan := { s.scan with foreign := before ++ after, removed := s.scan.removed + 1 }
      plan := { s.plan with gen := s.plan.gen + 1 } }
    .foreignGone (BitVec.ofNat 8 before.length) (u32 x.freq ++ s8 x.peak ++ u8 cause ++ half x.lastSeen) := by
  have herase : s.scan.foreign.eraseIdx before.length = before ++ after := by rw [hlist, eraseIdx_at_length]
  rw [State.removeForeign, herase]
  rfl

theorem State.mem_conflicts (s : State) (f : Nat) (e : EntryId) : e ∈ s.conflicts f ↔ s.plan.carriers[e].state ≠ .free
    ∧ apart f s.plan.carriers[e].freq < s.plan.carriers[e].cls.bandwidth / 2 + s.plan.settings.gF := by
  simp only [State.conflicts, List.mem_filter, List.mem_finRange, true_and, Carrier.counted, Bool.and_eq_true, bne_iff_ne,
    decide_eq_true_eq]

theorem State.conflicts_sorted (s : State) (f : Nat) : (s.conflicts f).Pairwise (· < ·) :=
  (List.pairwise_lt_finRange 96).filter _

end Sys2Proof.Machine
end

section

/-! ### The foreign-conflict rule and the whole of O41 (R149) -/

namespace Sys2Proof.Machine

/-- Does a PICK_BACKUP of a link wait in the coordination queue (R45)? -/
def State.pickWaits (s : State) (l : LinkId) : Prop := ∃ q ∈ s.engine.queue, q.kind = .pickBackup ∧ q.link = some l

theorem State.pickWaits_congr {s t : State} (h : t.engine = s.engine) (l : LinkId) : t.pickWaits l ↔ s.pickWaits l :=
  Iff.of_eq (congrArg (fun g : Engine => ∃ q ∈ g.queue, q.kind = .pickBackup ∧ q.link = some l) h)

theorem State.otherPlace_congr {s t : State} (h : t.engine = s.engine) : t.otherPlace ↔ s.otherPlace :=
  Iff.of_eq (congrArg (fun g : Engine => State.otherPlace { s with engine := g }) h)

theorem State.pickWaits_iff (s : State) (l : LinkId) :
    (s.engine.queue.any fun q => decide (q.kind = .pickBackup) && decide (q.link = some l)) = true ↔ s.pickWaits l := by
  simp [State.pickWaits]

/-- The PICK_BACKUP that the auto-backup rule files (R45). -/
def State.pickFiled (s : State) (l : LinkId) : State :=
  s.placeCoord { kind := .pickBackup, filer := .auto, link := some l, target := .nextCandidate, cls := s.links[l].cls }

theorem State.autoPick_of_waits {s : State} {l : LinkId} (h : s.pickWaits l) (raised : Bool) : s.autoPick l raised = s :=
  if_pos ((s.pickWaits_iff l).mpr h)

theorem State.autoPick_of_place {s : State} {l : LinkId} (h : ¬ s.pickWaits l) (hplace : s.otherPlace) (raised : Bool) :
    s.autoPick l raised = s.pickFiled l :=
  (if_neg (mt (s.pickWaits_iff l).mp h)).trans (if_pos ((s.coordPlace_management 0).mpr hplace))

theorem State.autoPick_of_full {s : State} {l : LinkId} (h : ¬ s.pickWaits l) (hplace : ¬ s.otherPlace) : s.autoPick l true = s :=
  (if_neg (mt (s.pickWaits_iff l).mp h)).trans ((if_neg (mt (s.coordPlace_management 0).mp hplace)).trans (if_pos rfl))

theorem State.autoPick_of_noPlace {s : State} {l : LinkId} (h : ¬ s.pickWaits l) (hplace : ¬ s.otherPlace) :
    s.autoPick l false = s.raiseBackupLost l none 2 Result.queueFull.code :=
  (if_neg (mt (s.pickWaits_iff l).mp h)).trans ((if_neg (mt (s.coordPlace_management 0).mp hplace)).trans (if_neg nofun))

/-- A carrier entry that is released, with its link told (R149). -/
def State.backupLost (s : State) (e : EntryId) (l : LinkId) : State :=
  (s.releaseEntry e).raise .backupLost (linkByte l) (u8 e.val ++ u8 1 ++ u8 0)

theorem State.backupLost_parts (s : State) (e : EntryId) (l m : LinkId) : (s.backupLost e l).engine = s.engine
    ∧ (s.backupLost e l).links[m].flags = s.links[m].flags ∧ (s.backupLost e l).links[m].cls = s.links[m].cls := by
  obtain ⟨active, standby, hlink⟩ := s.releaseEntry_link e m
  have hengine := s.releaseEntry_engine e
  have hflags : (s.releaseEntry e).links[m].flags = s.links[m].flags := by rw [hlink]
  have hcls : (s.releaseEntry e).links[m].cls = s.links[m].cls := by rw [hlink]
  rw [State.backupLost, State.raise_eq]
  generalize s.releaseEntry e = t at *
  exact ⟨hengine, hflags, hcls⟩

theorem State.conflictWith_standby {s : State} {e : EntryId} {l : LinkId} (hlink : s.plan.carriers[e].link = some l)
    (h : s.plan.carriers[e].state = .standby) (x : Foreign) (update : Bool) : s.conflictWith x update e =
      if s.links[l].flags.autoBackup then (s.backupLost e l).autoPick l true else s.backupLost e l := by
  rw [← (s.backupLost_parts e l l).2.1, State.conflictWith]
  dsimp only
  rw [h, hlink]
  rfl

/-- FOREIGN_ON_CARRIER for an entry of a link (R149). -/
def State.onCarrier (t : State) (e : EntryId) (c : Carrier) (l : LinkId) (x : Foreign) : State :=
  t.raise .foreignOnCarrier (linkByte l) (u8 e.val ++ u8 c.state.code ++ u32 x.freq ++ s8 x.peak)

theorem State.raiseOnCarrier_eq {s t : State} {e : EntryId} {l : LinkId} (hlink : s.plan.carriers[e].link = some l)
    (hl : t.plan.carriers[e].link = s.plan.carriers[e].link) (hst : t.plan.carriers[e].state = s.plan.carriers[e].state) (x : Foreign) :
    t.raiseOnCarrier e x = t.onCarrier e s.plan.carriers[e] l x := by
  simp only [State.raiseOnCarrier, hl, hlink, hst]
  rfl

theorem State.conflictWith_active {s : State} {e : EntryId} {l : LinkId} (hlink : s.plan.carriers[e].link = some l)
    (h : s.plan.carriers[e].state = .active) (x : Foreign) (update : Bool) : s.conflictWith x update e =
      if update ∧ s.plan.carriers[e].suspect then s
      else
        let told := (s.setSuspect e).onCarrier e s.plan.carriers[e] l x
        if s.links[l].flags.autoAvoid then (told.autoFile l .nextCandidate .foreign).1 else told := by
  have htold : (s.setSuspect e).raiseOnCarrier e x = (s.setSuspect e).onCarrier e s.plan.carriers[e] l x := by
    have hself : (s.setSuspect e).plan.carriers[e] = { s.plan.carriers[e] with suspect := true } := put_eq _ _ _
    have hl : (s.setSuspect e).plan.carriers[e].link = s.plan.carriers[e].link := by rw [hself]
    have hst : (s.setSuspect e).plan.carriers[e].state = s.plan.carriers[e].state := by rw [hself]
    exact State.raiseOnCarrier_eq hlink hl hst x
  have hlinks : ((s.setSuspect e).onCarrier e s.plan.carriers[e] l x).links = s.links := by
    rw [State.onCarrier, State.raise_eq]
    rfl
  rw [State.conflictWith]
  dsimp only
  rw [h, htold, hlink]
  dsimp only
  rw [hlinks]

theorem State.conflictWith_reserved {s : State} {e : EntryId} {l : LinkId} (hlink : s.plan.carriers[e].link = some l)
    (h : s.plan.carriers[e].state = .reserved ∨ s.plan.carriers[e].state = .retiring) (x : Foreign) (update : Bool) :
    s.conflictWith x update e = if update then s else s.onCarrier e s.plan.carriers[e] l x := by
  rw [← State.raiseOnCarrier_eq hlink rfl rfl x, State.conflictWith]
  dsimp only
  rcases h with h | h <;> rw [h]

theorem State.conflictWith_none {s : State} {e : EntryId} (h : s.plan.carriers[e].state = .blocked ∨ s.plan.carriers[e].state = .free)
    (x : Foreign) (update : Bool) : s.conflictWith x update e = s := by
  rw [State.conflictWith]
  dsimp only
  rcases h with h | h <;> rw [h]

/-- Settles O41. -/
theorem sweepCellIsTaken : Obligations.SweepCellIsTaken := by
  refine ⟨fun s c n hdue hreset hgood hkind hdest hn hle hlen => ?_, fun s rc g n level => ?_, fun s d => ?_, fun s x update => ?_⟩
  · intro stray
    have hlength : (cellData c).length = c.len.toNat := cellData_length_of_integral c hgood
    have hformat : sweepFormat (cellData c) = true := by
      rw [sweepFormat, Bool.and_eq_true, decide_eq_true_eq, beq_iff_eq, ← hn, hlength]
      exact ⟨hle, hlen⟩
    have hexec : exec (.sweepCell c) s = .next (s.takeSweepCell c) := exec_sweepCell hdue hreset hgood hkind hdest hformat
    have hstray : s.stray c = stray := by
      rw [State.stray, hkind]
      rfl
    rw [hexec]
    refine ⟨s.sentSlot_eq_none_iff c.src, fun hnone => congrArg _ ((State.takeSweepCell_of_none hnone).trans hstray), fun i hi => ?_,
      fun i rc g hi hcommand htoggle howner hdiscard hcurrent hg => ?_⟩
    · intro x
      refine ⟨State.sentSlot_spec hi, fun hcommand => congrArg _ ((State.takeSweepCell_of_command hi hcommand).trans hstray),
        fun hcommand htoggle => congrArg _ (State.takeSweepCell_of_toggle hi hcommand htoggle), fun hcommand htoggle hother => ?_⟩
      have hkept : s.sweepTaken x (cellData c) = s := by
        unfold State.sweepTaken
        split
        next rc howner =>
          split
          · rfl
          next hdiscard => exact State.takeSweep_of_other fun g hg => hother rc g howner (Bool.eq_false_iff.mpr hdiscard) hg
        · rfl
      obtain ⟨hmore, hlast⟩ := State.takeSweepCell_of_taken hi hcommand htoggle hkept rfl rfl
      exact ⟨fun h => congrArg _ (hmore h), fun h => congrArg _ (hlast h)⟩
    · intro points taken
      have hpoints : s.sweepTaken s.unit.slots[i] (cellData c) = points := by
        rw [State.sweepTaken, howner]
        refine (if_neg (Bool.eq_false_iff.mp hdiscard)).trans ((State.takeSweep_of_current hcurrent hg).trans ?_)
        rw [← hn]
        rfl
      obtain ⟨htiming, hsettings⟩ := s.pointsTaken_parts rc g (cellData c) n
      obtain ⟨hmore, hlast⟩ := State.takeSweepCell_of_taken hi hcommand htoggle hpoints htiming hsettings
      exact ⟨fun h => congrArg _ (hmore h), fun h => congrArg _ (hlast h)⟩
  · intro f x within kept taken ours
    have hours : s.planOwn f = true ↔ ours := s.planOwn_iff f
    refine ⟨fun h => State.takePoint_of_discarded (h.imp_right (Or.imp_right (Or.imp_right hours.mpr))),
      fun hstop hlevel hthreshold hown => ?_⟩
    have htaken : taken = kept (addDetection s.scan.settings.mergeWidth x.results f level) :=
      State.takePoint_of_taken hstop hlevel hthreshold (mt hours.mp hown)
    rw [htaken]
    refine ⟨fun before after d hlist hd hbefore hafter => congrArg kept ?_, fun hno hroom => congrArg kept (addDetection_of_room hno hroom),
      fun before after d hno hfull hlist hbefore hafter => congrArg kept ?_⟩
    · rw [hlist]
      exact addDetection_of_near hd hbefore hafter
    · rw [hlist] at hno hfull ⊢
      exact addDetection_of_full hno hfull hbefore hafter
  · intro within ours applied new inserted
    have hours : s.planOwn d.freq = true ↔ ours := s.planOwn_iff d.freq
    refine ⟨fun h => State.applyDetection_of_own (hours.mpr h), fun before after x hown hlist hx hbefore hafter => ?_,
      fun below above hown hno hroom hlist hbelow habove => ?_,
      fun before after below above x hown hno hfull hlist hbefore hafter hplaces hbelow habove => ⟨fun hle => ?_, fun hlt => ?_⟩⟩
    · refine State.applyDetection_of_near (mt hours.mp hown) hlist ?_
      rw [hlist]
      exact nearestWithin_of_nearest (freq := Foreign.freq) hx hbefore hafter
    · refine (State.applyDetection_of_room (mt hours.mp hown) (nearestWithin_of_none (freq := Foreign.freq) hno) hroom).trans ?_
      exact State.insertForeign_eq hlist hbelow habove
    · refine (State.applyDetection_of_full (mt hours.mp hown) (nearestWithin_of_none (freq := Foreign.freq) hno) hfull hlist ?_).trans
        (if_neg (by omega))
      rw [hlist]
      exact lowestLevel_of_lowest (freq := Foreign.freq) (level := Foreign.peak) hbefore hafter
    · refine (State.applyDetection_of_full (mt hours.mp hown) (nearestWithin_of_none (freq := Foreign.freq) hno) hfull hlist ?_).trans
        ((if_pos hlt).trans ?_)
      · rw [hlist]
        exact lowestLevel_of_lowest (freq := Foreign.freq) (level := Foreign.peak) hbefore hafter
      · rw [State.removeForeign_eq hlist, State.raise_eq]
        exact State.insertForeign_eq hplaces hbelow habove
  · intro near
    refine ⟨⟨s.conflicts x.freq, rfl, s.conflicts_sorted x.freq, s.mem_conflicts x.freq⟩, fun e l hlink => ?_⟩
    intro c flags told suspected lost picked waits place
    have hparts := fun m => s.backupLost_parts e l m
    obtain ⟨hengine, hflags, hcls⟩ := hparts l
    have hlost : s.backupLost e l = lost := rfl
    have hwaits : (s.backupLost e l).pickWaits l ↔ waits := State.pickWaits_congr hengine l
    have hplace : (s.backupLost e l).otherPlace ↔ place := State.otherPlace_congr hengine
    have hsuspect : s.setSuspect e = suspected := rfl
    have hskip (hu : update = false ∨ c.suspect = false) : ¬ (update = true ∧ s.plan.carriers[e].suspect = true) := fun ⟨ht, hs⟩ =>
      hu.elim (fun hf => Bool.false_ne_true (hf.symm.trans ht)) fun hf => Bool.false_ne_true (hf.symm.trans hs)
    refine ⟨fun hst hno => ?_, fun hst hauto hw hp => ?_, fun hst hu hsus => ?_, fun hst hu hauto => ?_, fun hst hu hauto => ?_,
      fun hst => State.conflictWith_reserved hlink hst x update, fun hst => State.conflictWith_none hst x update⟩
    · rw [State.conflictWith_standby hlink hst]
      by_cases hauto : s.links[l].flags.autoBackup = true
      · rw [if_pos hauto]
        by_cases hw : waits
        · exact State.autoPick_of_waits (hwaits.mpr hw) true
        · have hp : ¬ place := (hno.resolve_left (by rw [show flags.autoBackup = true from hauto]; decide)).resolve_left hw
          exact State.autoPick_of_full (mt hwaits.mp hw) (mt hplace.mp hp)
      · exact if_neg hauto
    · rw [State.conflictWith_standby hlink hst, if_pos hauto, State.autoPick_of_place (mt hwaits.mp hw) (hplace.mpr hp), State.pickFiled,
        State.placeCoord, hengine, hcls]
      rfl
    · rw [State.conflictWith_active hlink hst]
      exact if_pos ⟨hu, hsus⟩
    · rw [State.conflictWith_active hlink hst]
      exact (if_neg (hskip hu)).trans (if_neg (Bool.eq_false_iff.mp hauto))
    · rw [State.conflictWith_active hlink hst]
      exact (if_neg (hskip hu)).trans (if_pos hauto)

end Sys2Proof.Machine
end

section

/-! ### AUDIO_CELL (R172, R173) -/

namespace Sys2Proof.Machine

theorem Input.startPlay_eq (x : Input) :
    x.startPlay = { x with state := if x.state = .buffering ∧ (x.area + 1) / 2 ≤ x.buffer.length then .playing else x.state } := by
  unfold Input.startPlay Input.half
  split
  · rfl
  · rfl

/-- The input that a block has reached, but for the two flags that the block may set (R173). -/
def Input.blockReached (x : Input) (seq : Byte) (b : Block) : Input :=
  let buffer := (if x.buffer.length < x.area then x.buffer else x.buffer.drop 1) ++ [b]
  { x with lastSeq := some seq, buffer
           state := if x.state = .buffering ∧ (x.area + 1) / 2 ≤ buffer.length then .playing else x.state }

theorem Input.blockJoined_flagged (x : Input) (seq : Byte) (b : Block) : (x.flagged seq).blockJoined seq b =
    { x.blockReached seq b with seqGap := x.seqGap || x.gapsAt seq, overflow := x.overflow || decide (x.area ≤ x.buffer.length) } := by
  rw [Input.blockJoined, Input.startPlay_eq]
  rfl

theorem Input.gapsAt_eq_false_iff (x : Input) (seq : Byte) : x.gapsAt seq = false ↔ ∀ last : Byte, x.lastSeq = some last → seq = last + 1 := by
  unfold Input.gapsAt
  cases x.lastSeq <;> simp

theorem State.tellGap_of_quiet {s : State} {i : Fin 32} {seq : Byte}
    (h : s.mixer.inputs[i].gapsAt seq = false ∨ s.mixer.inputs[i].seqGap = true) : s.tellGap i seq = s := by
  unfold State.tellGap
  split
  · exact if_neg (by rcases h with h | h <;> simp only [h] <;> simp)
  · rfl

theorem State.tellGap_of_gap {s : State} {i : Fin 32} {seq last : Byte} (hlast : s.mixer.inputs[i].lastSeq = some last)
    (hseq : seq ≠ last + 1) : s.tellGap i seq =
      if s.mixer.inputs[i].seqGap = true then s else s.raise .seqGap (channelByte i) [last + 1, seq] := by
  have hgaps : s.mixer.inputs[i].gapsAt seq = true := by
    rw [Input.gapsAt, hlast]
    exact bne_iff_ne.mpr hseq
  by_cases hflag : s.mixer.inputs[i].seqGap = true
  · rw [State.tellGap_of_quiet (.inr hflag), if_pos hflag]
  · rw [State.tellGap, hlast, if_neg hflag]
    exact if_pos (by rw [hgaps, Bool.eq_false_iff.mpr hflag]; rfl)

/-- What a block that matches an input leaves: the notices of the flags that become set, and the input (R173, R176). -/
theorem State.takeAudio_told {s : State} {p : Port} {c : Cell} {i : Fin 32}
    (h : s.matchInput p c.src (u8At (cellData c) 0 % 4) = some i) : s.takeAudio p c =
      let x := s.mixer.inputs[i]
      let y : Input :=
        { x.blockReached (byteAt (cellData c) 1) (blockOf (cellData c)) with
          seqGap := x.seqGap || x.gapsAt (byteAt (cellData c) 1), overflow := x.overflow || decide (x.area ≤ x.buffer.length) }
      { (s.tellGap i (byteAt (cellData c) 1)).tellOverflow i with mixer := { s.mixer with inputs := put s.mixer.inputs i y } } := by
  have hmixer : ((s.tellGap i (byteAt (cellData c) 1)).tellOverflow i).mixer = s.mixer := by
    have hshell := State.tellOverflow_shell (s.tellGap i (byteAt (cellData c) 1)) i
    simp_all [SameShell, SameBeyond]
  rw [State.takeAudio_eq h, Input.blockJoined_flagged, State.setInput, hmixer]

theorem State.tellOverflow_of_quiet {s t : State} {i : Fin 32} (ht : t.mixer = s.mixer)
    (h : s.mixer.inputs[i].buffer.length < s.mixer.inputs[i].area ∨ s.mixer.inputs[i].overflow = true) : t.tellOverflow i = t := by
  rw [State.tellOverflow, ht]
  exact if_pos h

theorem State.tellOverflow_of_full {s t : State} {i : Fin 32} (ht : t.mixer = s.mixer)
    (h : ¬ s.mixer.inputs[i].buffer.length < s.mixer.inputs[i].area) : t.tellOverflow i =
      if s.mixer.inputs[i].overflow = true then t else t.raise .overflow (channelByte i) (u8 s.mixer.inputs[i].area) := by
  rw [State.tellOverflow, ht]
  simp only [h, false_or]

theorem Input.hears_iff (x : Input) (p : Port) (src : Byte) (chan : Nat) :
    x.hears p src chan = true ↔ x.enabled = true ∧ x.port = p ∧ x.chan = chan ∧ (p = .u ∨ x.addr = src) := by
  simp [Input.hears, and_assoc]

theorem exec_audioCell {s : State} {p : Port} {c : Cell} (hdue : s.due = []) (hreset : s.pins.reset = false) (hgood : integral c = true)
    (hkind : c.kind = 3) (hdest : c.dest = 0) (hlen : c.len = 34) : exec (.audioCell p c) s = .next (s.takeAudio p c) := by
  have hformat : ((cellData c).length == 34) = true := by
    rw [cellData_length_of_integral c hgood, hlen]
    rfl
  refine (State.settled_receive hdue hreset hgood (by cases p <;> simp [Instr.wf, hkind, hdest])
    fun s => s.checkFormat p ((cellData c).length == 34) fun s => s.takeAudio p c).trans ?_
  rw [State.checkFormat_of_ok hformat]

/-- Settles O51. -/
theorem audioBlockIsBuffered : Obligations.AudioBlockIsBuffered := by
  intro s p c hdue hreset hgood hkind hdest hlen data hears
  have hexec : exec (.audioCell p c) s = .next (s.takeAudio p c) := exec_audioCell hdue hreset hgood hkind hdest hlen
  have hhears (i : Fin 32) : s.mixer.inputs[i].hears p c.src (u8At data 0 % 4) = true ↔ hears i := Input.hears_iff _ p c.src _
  rw [hexec]
  refine ⟨fun hno => ?_, fun i hi hfirst => ?_⟩
  · have hnone : s.matchInput p c.src (u8At data 0 % 4) = none :=
      List.find?_eq_none.mpr fun i _ => mt (hhears i).mp (hno i)
    rw [State.takeAudio]
    dsimp only
    rw [hnone]
  · intro x block follows room buffer y kept
    have hmatch : s.matchInput p c.src (u8At data 0 % 4) = some i := (find_finRange_iff _ i).mpr
      ⟨(hhears i).mpr hi, fun j hj => Bool.eq_false_iff.mpr (mt (hhears j).mp (hfirst j hj))⟩
    have hfollows : x.gapsAt (byteAt data 1) = false ↔ follows := x.gapsAt_eq_false_iff _
    have hroom (h : room) : decide (x.area ≤ x.buffer.length) = false := decide_eq_false (Nat.not_le.mpr h)
    have hfull (h : ¬ room) : decide (x.area ≤ x.buffer.length) = true := decide_eq_true (Nat.not_lt.mp h)
    have hgap {last : Byte} (hlast : x.lastSeq = some last) (hseq : byteAt data 1 ≠ last + 1) : x.gapsAt (byteAt data 1) = true := by
      rw [Input.gapsAt, hlast]
      exact bne_iff_ne.mpr hseq
    have htold {t : State} {gap lost : Bool} (ht : (s.tellGap i (byteAt data 1)).tellOverflow i = t)
        (hg : (x.seqGap || x.gapsAt (byteAt data 1)) = gap) (ho : (x.overflow || decide (x.area ≤ x.buffer.length)) = lost) :
        s.takeAudio p c = kept t { y with seqGap := gap, overflow := lost } := by
      rw [State.takeAudio_told hmatch, ← hg, ← ho, ← ht]
      rfl
    have hplain (h : follows ∨ x.seqGap = true) : s.tellGap i (byteAt data 1) = s :=
      State.tellGap_of_quiet (h.imp_left hfollows.mpr)
    refine ⟨fun hf hr => congrArg _ ?_, fun last hlast hseq hclear hr => congrArg _ ?_, fun hf hset hr => congrArg _ ?_,
      fun hf hr hclear => congrArg _ ?_, fun hf hr hset => congrArg _ ?_, fun last hlast hseq hr => ?_⟩
    · refine (htold (t := s) (gap := x.seqGap) (lost := x.overflow) ?_ ?_ ?_)
      · rw [hplain (.inl hf), State.tellOverflow_of_quiet rfl (.inl hr)]
      · rw [hfollows.mpr hf, Bool.or_false]
      · rw [hroom hr, Bool.or_false]
    · refine htold (gap := true) (lost := x.overflow) ?_ ?_ ?_
      · rw [State.tellGap_of_gap hlast hseq, if_neg (Bool.eq_false_iff.mp hclear)]
        refine State.tellOverflow_of_quiet (s := s) ?_ (.inl hr)
        rw [State.raise_eq]
      · rw [hgap hlast hseq, Bool.or_true]
      · rw [hroom hr, Bool.or_false]
    · refine htold (t := s) (gap := x.seqGap) (lost := x.overflow) ?_ ?_ ?_
      · rw [hplain (.inr hset), State.tellOverflow_of_quiet rfl (.inl hr)]
      · rw [hset, Bool.true_or]
      · rw [hroom hr, Bool.or_false]
    · refine htold (gap := x.seqGap) (lost := true) ?_ ?_ ?_
      · rw [hplain (.inl hf), State.tellOverflow_of_full rfl hr, if_neg (Bool.eq_false_iff.mp hclear)]
        rfl
      · rw [hfollows.mpr hf, Bool.or_false]
      · rw [hfull hr, Bool.or_true]
    · refine htold (t := s) (gap := x.seqGap) (lost := x.overflow) ?_ ?_ ?_
      · rw [hplain (.inl hf), State.tellOverflow_of_quiet rfl (.inr hset)]
      · rw [hfollows.mpr hf, Bool.or_false]
      · rw [hset, Bool.true_or]
    · intro gap full
      refine congrArg _ (htold (t := full (gap s)) (gap := true) (lost := true) ?_ ?_ ?_)
      · rw [State.tellGap_of_gap hlast hseq]
        refine State.tellOverflow_of_full (s := s) ?_ hr
        split
        · rfl
        · rw [State.raise_eq]
      · rw [hgap hlast hseq, Bool.or_true]
      · rw [hfull hr, Bool.or_true]

end Sys2Proof.Machine
end

section

/-! ### The block timer's expiry as one change of the state (R174 to R182)

The inputs and then the outputs are worked through in ascending index. Each step puts one entry of a table, raises the notices of that
entry and, for an output, sends a cell. `mixed` is the state after some of these steps, by the notices raised, the two tables and the
two audio queues. -/

namespace Sys2Proof.Machine

/-- A notice with its object and its detail. -/
abbrev Told := Notice × Byte × List Byte

/-- The state once notices are raised, one after the other. -/
def State.tell (s : State) (ns : List Told) : State := ns.foldl (fun u n => u.raise n.1 n.2.1 n.2.2) s

/-- Notices change the agent and the report queue alone. -/
theorem State.tell_eq (s : State) (ns : List Told) : s.tell ns =
    { s with agent := (s.tell ns).agent, uport := { s.uport with report := (s.tell ns).uport.report } } := by
  induction ns generalizing s with
  | nil => rfl
  | cons n ns ih =>
    have hcons : s.tell (n :: ns) = (s.raise n.1 n.2.1 n.2.2).tell ns := rfl
    rw [hcons, ih, State.raise_eq]

/-- The state with notices raised and with the mixer's tables and the audio queues as given. -/
def State.mixed (s : State) (ns : List Told) (ins : Vector Input 32) (outs : Vector Output 32) (ua da : List Cell) : State :=
  { s with agent := (s.tell ns).agent, uport := { s.uport with report := (s.tell ns).uport.report, audio := ua }
           dport := { s.dport with audio := da }, mixer := { s.mixer with inputs := ins, outputs := outs } }

theorem State.mixed_nil (s : State) : s.mixed [] s.mixer.inputs s.mixer.outputs s.uport.audio s.dport.audio = s := rfl

theorem State.mixed_raise (s : State) (ns : List Told) (ins : Vector Input 32) (outs : Vector Output 32) (ua da : List Cell)
    (n : Notice) (object : Byte) (detail : List Byte) :
    (s.mixed ns ins outs ua da).raise n object detail = s.mixed (ns ++ [(n, object, detail)]) ins outs ua da := by
  have hmore : s.tell (ns ++ [(n, object, detail)]) = (s.tell ns).raise n object detail := by
    rw [State.tell, List.foldl_append]
    rfl
  have hframe : (s.tell ns).timing = s.timing := by rw [s.tell_eq ns]
  rw [State.mixed, State.mixed, hmore, State.raise_eq, State.raise_eq, hframe]

/-- The entries of a table, those of some indices changed. -/
def tableDone {α : Type} {n : Nat} (t : Vector α n) (f : Fin n → α) (js : List (Fin n)) : Vector α n :=
  Vector.ofFn fun i => if i ∈ js then f i else t[i]

theorem tableDone_get {α : Type} {n : Nat} (t : Vector α n) (f : Fin n → α) (js : List (Fin n)) (i : Fin n) :
    (tableDone t f js)[i] = if i ∈ js then f i else t[i] := by
  simp [tableDone]

theorem tableDone_nil {α : Type} {n : Nat} (t : Vector α n) (f : Fin n → α) : tableDone t f [] = t := by
  ext i hi
  simp [tableDone]

theorem put_tableDone {α : Type} {n : Nat} (t : Vector α n) (f : Fin n → α) (js : List (Fin n)) (i : Fin n) :
    put (tableDone t f js) i (f i) = tableDone t f (js ++ [i]) := by
  refine Vector.ext fun j hj => ?_
  by_cases hij : (⟨j, hj⟩ : Fin n) = i
  · subst hij
    refine (put_eq _ _ _).trans ?_
    refine Eq.symm ((tableDone_get t f _ ⟨j, hj⟩).trans (if_pos (by simp)))
  · refine (put_ne _ _ hij).trans ((tableDone_get t f js ⟨j, hj⟩).trans ?_)
    refine Eq.symm ((tableDone_get t f _ ⟨j, hj⟩).trans ?_)
    simp [hij]

/-! The inputs -/

/-- An input as the expiry leaves it (R174, R175). -/
def State.inputLeft (s : State) (i : Fin 32) : Input :=
  let x := s.mixer.inputs[i]
  if x.enabled then { (s.mutedInput i).afterExpiry with underrun := x.underrun || (s.mutedInput i).runsDry } else x

/-- The notices that the expiry raises of an input (R176). -/
def State.inputTold (s : State) (i : Fin 32) : List Told :=
  let x := s.mixer.inputs[i]
  if x.enabled = true ∧ (s.mutedInput i).runsDry = true ∧ x.underrun = false then [(.underrun, channelByte i, u8 x.area)] else []

theorem Input.followMute_kept (x : Input) (holds : Bool) :
    (x.followMute holds).underrun = x.underrun ∧ (x.followMute holds).area = x.area := by
  unfold Input.followMute Input.startPlay
  split
  · exact ⟨rfl, rfl⟩
  · split
    · split <;> exact ⟨rfl, rfl⟩
    · exact ⟨rfl, rfl⟩

theorem Input.afterExpiry_kept (x : Input) : x.afterExpiry.underrun = x.underrun ∧ x.afterExpiry.area = x.area := by
  unfold Input.afterExpiry
  split <;> exact ⟨rfl, rfl⟩

theorem State.setUnderrun_eq (s : State) (i : Fin 32) : s.setUnderrun i
    = (if s.mixer.inputs[i].underrun then s else s.raise .underrun (channelByte i) (u8 s.mixer.inputs[i].area)).setInput i
        { s.mixer.inputs[i] with underrun := true } := by
  unfold State.setUnderrun
  dsimp only
  split
  · rename_i h
    have : { s.mixer.inputs[i] with underrun := true } = s.mixer.inputs[i] := by simp only [← h]
    rw [this]; exact (State.setInput_same s i).symm
  · exact State.raise_setInput ..

theorem State.inputLeft_of_disabled {s : State} {i : Fin 32} (h : ¬ s.mixer.inputs[i].enabled = true) :
    s.inputLeft i = s.mixer.inputs[i] ∧ s.inputTold i = [] := ⟨if_neg h, if_neg fun hd => h hd.1⟩

theorem State.inputLeft_of_fed {s : State} {i : Fin 32} (h : s.mixer.inputs[i].enabled = true)
    (hdry : ¬ (s.mutedInput i).runsDry = true) : s.inputLeft i = (s.mutedInput i).afterExpiry ∧ s.inputTold i = [] := by
  refine ⟨(if_pos h).trans ?_, if_neg fun hd => hdry hd.2.1⟩
  have hflag : (s.mutedInput i).afterExpiry.underrun = s.mixer.inputs[i].underrun :=
    (Input.afterExpiry_kept _).1.trans (Input.followMute_kept _ _).1
  rw [Bool.eq_false_iff.mpr hdry, Bool.or_false, ← hflag]

theorem State.inputLeft_of_dry {s : State} {i : Fin 32} (h : s.mixer.inputs[i].enabled = true)
    (hdry : (s.mutedInput i).runsDry = true) : s.inputLeft i = { (s.mutedInput i).afterExpiry with underrun := true }
      ∧ s.inputTold i = if s.mixer.inputs[i].underrun = true then [] else [(.underrun, channelByte i, u8 s.mixer.inputs[i].area)] := by
  refine ⟨(if_pos h).trans (by rw [hdry, Bool.or_true]), ?_⟩
  by_cases hu : s.mixer.inputs[i].underrun = true
  · exact (if_neg fun hd => Bool.false_ne_true (hd.2.2.symm.trans hu)).trans (if_pos hu).symm
  · exact (if_pos ⟨h, hdry, Bool.eq_false_iff.mpr hu⟩).trans (if_neg hu).symm

/-- One input's step from the state after others' steps. -/
theorem State.mixed_expireInput {s : State} {ns : List Told} {ins : Vector Input 32} {outs : Vector Output 32} {ua da : List Cell}
    {i : Fin 32} (h : ins[i] = s.mixer.inputs[i]) : (s.mixed ns ins outs ua da).expireInput i
      = s.mixed (ns ++ s.inputTold i) (put ins i (s.inputLeft i)) outs ua da := by
  have hget : (s.mixed ns ins outs ua da).mixer.inputs[i] = s.mixer.inputs[i] := h
  have hmuted : (s.mixed ns ins outs ua da).mutedInput i = s.mutedInput i := by
    rw [State.mutedInput, hget]
    rfl
  have hset (m : List Told) (x : Input) : (s.mixed m ins outs ua da).setInput i x = s.mixed m (put ins i x) outs ua da := rfl
  rw [State.expireInput, hget, hmuted]
  by_cases hen : s.mixer.inputs[i].enabled = true
  · rw [if_pos hen]
    dsimp only
    by_cases hdry : (s.mutedInput i).runsDry = true
    · obtain ⟨hleft, htold⟩ := State.inputLeft_of_dry hen hdry
      have hflag : (s.mutedInput i).afterExpiry.underrun = s.mixer.inputs[i].underrun :=
        (Input.afterExpiry_kept _).1.trans (Input.followMute_kept _ _).1
      have hsize : (s.mutedInput i).afterExpiry.area = s.mixer.inputs[i].area :=
        (Input.afterExpiry_kept _).2.trans (Input.followMute_kept _ _).2
      rw [if_pos hdry, State.setUnderrun_eq, State.setInput_get, hflag, hsize, State.raise_setInput, hleft, htold]
      by_cases hu : s.mixer.inputs[i].underrun = true
      · rw [if_pos hu, if_pos hu, State.setInput_setInput, hset, List.append_nil]
      · rw [if_neg hu, if_neg hu, State.setInput_setInput, State.mixed_raise, hset]
    · obtain ⟨hleft, htold⟩ := State.inputLeft_of_fed hen hdry
      rw [if_neg hdry, hset, hleft, htold, List.append_nil]
  · obtain ⟨hleft, htold⟩ := State.inputLeft_of_disabled hen
    have hput : put ins i s.mixer.inputs[i] = ins := by rw [← h]; exact put_same _ _
    rw [if_neg hen, hleft, htold, hput, List.append_nil]

theorem State.mixed_expireInputs {s : State} {outs : Vector Output 32} {ua da : List Cell} (done rest : List (Fin 32))
    (h : (done ++ rest).Nodup) :
    rest.foldl State.expireInput (s.mixed (done.flatMap s.inputTold) (tableDone s.mixer.inputs s.inputLeft done) outs ua da)
      = s.mixed ((done ++ rest).flatMap s.inputTold) (tableDone s.mixer.inputs s.inputLeft (done ++ rest)) outs ua da := by
  induction rest generalizing done with
  | nil => rw [List.append_nil]; rfl
  | cons i rest ih =>
    have hfresh : i ∉ done := fun hi => (List.disjoint_of_nodup_append h) hi List.mem_cons_self
    have hget : (tableDone s.mixer.inputs s.inputLeft done)[i] = s.mixer.inputs[i] := (tableDone_get _ _ _ i).trans (if_neg hfresh)
    have hmove : done ++ i :: rest = (done ++ [i]) ++ rest := by rw [List.append_assoc]; rfl
    rw [List.foldl_cons, State.mixed_expireInput hget, put_tableDone, hmove, ← ih (done ++ [i]) (hmove ▸ h), List.flatMap_append]
    simp only [List.flatMap_cons, List.flatMap_nil, List.append_nil]

/-! The outputs -/

/-- The AUDIO cell of an output. -/
def State.outputCell (s : State) (given : Vector Block 32) (o : Fin 32) : Cell := s.mixer.outputs[o].audioCell (s.terms given o)

/-- How many samples of an output saturate (R181). -/
def State.saturated (s : State) (given : Vector Block 32) (o : Fin 32) : Nat := saturations (s.terms given o)

/-- An output as the expiry leaves it (R181, R182). -/
def State.outputLeft (s : State) (given : Vector Block 32) (o : Fin 32) : Output :=
  let x := s.mixer.outputs[o]
  if x.enabled then { x with seq := x.seq + 1, clip := x.clip || decide (s.saturated given o ≠ 0) } else x

/-- The AUDIO cells that outputs send to a port (R182). -/
def State.sentTo (s : State) (given : Vector Block 32) (p : Port) (os : List (Fin 32)) : List Cell :=
  (os.filter fun o => s.mixer.outputs[o].enabled && s.mixer.outputs[o].port == p).map (s.outputCell given)

/-- The audio cells that wait at a port. -/
def State.audioAt (s : State) : Port → List Cell
  | .u => s.uport.audio
  | .d => s.dport.audio

/-- Does an output find its port's audio queue full, where those before it have sent theirs (R11)? -/
def State.audioFull (s : State) (given : Vector Block 32) (before : List (Fin 32)) (o : Fin 32) : Bool :=
  decide (16 ≤ (s.audioAt s.mixer.outputs[o].port).length + (s.sentTo given s.mixer.outputs[o].port before).length)

/-- The CLIP notice of an output (R176). -/
def State.clipTold (s : State) (given : Vector Block 32) (o : Fin 32) : List Told :=
  if s.mixer.outputs[o].clip = false ∧ s.saturated given o ≠ 0 then [(.clip, channelByte o, u8 (s.saturated given o))] else []

/-- The notices that the expiry raises of an output (R11, R176). -/
def State.outputTold (s : State) (given : Vector Block 32) (before : List (Fin 32)) (o : Fin 32) : List Told :=
  let x := s.mixer.outputs[o]
  if x.enabled = false then []
  else s.clipTold given o ++ (if s.audioFull given before o then [(.audioDrop, portByte x.port, [])] else [])

theorem State.setClip_eq (s : State) (o : Fin 32) (n : Nat) : s.setClip o n
    = (if s.mixer.outputs[o].clip then s else s.raise .clip (channelByte o) (u8 n)).setOutput o
        { s.mixer.outputs[o] with clip := true } := by
  unfold State.setClip
  dsimp only
  split
  next h =>
    have hsame : { s.mixer.outputs[o] with clip := true } = s.mixer.outputs[o] := by rw [← h]
    have hput : put s.mixer.outputs o s.mixer.outputs[o] = s.mixer.outputs := put_same _ _
    rw [hsame, State.setOutput, hput]
  next h =>
    rw [State.raise_eq, State.raise_eq]
    rfl

/-- The queue of a port once outputs have sent, as many cells as it has room for. -/
def State.queueAfter (s : State) (given : Vector Block 32) (p : Port) (os : List (Fin 32)) : List Cell :=
  (s.audioAt p ++ s.sentTo given p os).take 16

theorem State.sentTo_append_other {s : State} {given : Vector Block 32} {p : Port} {os : List (Fin 32)} {o : Fin 32}
    (h : ¬ (s.mixer.outputs[o].enabled = true ∧ s.mixer.outputs[o].port = p)) : s.sentTo given p (os ++ [o]) = s.sentTo given p os := by
  rw [State.sentTo, List.filter_append, List.filter_cons_of_neg (by simpa using h), List.filter_nil, List.append_nil]
  rfl

theorem State.sentTo_append_self {s : State} {given : Vector Block 32} {os : List (Fin 32)} {o : Fin 32}
    (h : s.mixer.outputs[o].enabled = true) :
    s.sentTo given s.mixer.outputs[o].port (os ++ [o]) = s.sentTo given s.mixer.outputs[o].port os ++ [s.outputCell given o] := by
  rw [State.sentTo, List.filter_append, List.filter_cons_of_pos (by simp only [h, beq_self_eq_true, Bool.and_self]), List.filter_nil,
    List.map_append]
  rfl

theorem State.queueAfter_full {s : State} {given : Vector Block 32} {os : List (Fin 32)} {o : Fin 32}
    (h : s.mixer.outputs[o].enabled = true) (hfull : s.audioFull given os o = true) :
    16 ≤ (s.queueAfter given s.mixer.outputs[o].port os).length
      ∧ s.queueAfter given s.mixer.outputs[o].port (os ++ [o]) = s.queueAfter given s.mixer.outputs[o].port os := by
  have hlen : 16 ≤ (s.audioAt s.mixer.outputs[o].port ++ s.sentTo given s.mixer.outputs[o].port os).length := by
    rw [List.length_append]
    exact of_decide_eq_true hfull
  refine ⟨by rw [State.queueAfter, List.length_take]; omega, ?_⟩
  rw [State.queueAfter, State.sentTo_append_self h, ← List.append_assoc, List.take_append_of_le_length hlen]
  rfl

theorem State.queueAfter_room {s : State} {given : Vector Block 32} {os : List (Fin 32)} {o : Fin 32}
    (h : s.mixer.outputs[o].enabled = true) (hroom : s.audioFull given os o = false) :
    (s.queueAfter given s.mixer.outputs[o].port os).length < 16
      ∧ s.queueAfter given s.mixer.outputs[o].port (os ++ [o])
        = s.queueAfter given s.mixer.outputs[o].port os ++ [s.outputCell given o] := by
  have hlen : (s.audioAt s.mixer.outputs[o].port ++ s.sentTo given s.mixer.outputs[o].port os).length < 16 := by
    rw [List.length_append]
    exact Nat.not_le.mp (of_decide_eq_false hroom)
  refine ⟨by rw [State.queueAfter, List.length_take]; omega, ?_⟩
  rw [State.queueAfter, State.sentTo_append_self h, ← List.append_assoc, List.take_of_length_le (by rw [List.length_append, List.length_singleton]; omega),
    State.queueAfter, List.take_of_length_le (Nat.le_of_lt hlen)]

theorem State.queueAfter_other {s : State} {given : Vector Block 32} {p : Port} {os : List (Fin 32)} {o : Fin 32}
    (h : ¬ (s.mixer.outputs[o].enabled = true ∧ s.mixer.outputs[o].port = p)) :
    s.queueAfter given p (os ++ [o]) = s.queueAfter given p os := by
  rw [State.queueAfter, State.sentTo_append_other h]
  rfl

/-- The state after the steps of some inputs and outputs. -/
def State.sending (s : State) (given : Vector Block 32) (ns : List Told) (ins : Vector Input 32) (outs : Vector Output 32)
    (os : List (Fin 32)) : State := s.mixed ns ins outs (s.queueAfter given .u os) (s.queueAfter given .d os)

/-- An output's cell joins its port's queue, or is discarded (R11). -/
theorem State.sending_offer {s : State} {given : Vector Block 32} {ns : List Told} {ins : Vector Input 32} {outs : Vector Output 32}
    {os : List (Fin 32)} {o : Fin 32} (h : s.mixer.outputs[o].enabled = true) :
    (s.sending given ns ins outs os).offerAudio s.mixer.outputs[o].port (s.outputCell given o)
      = s.sending given (ns ++ if s.audioFull given os o then [(.audioDrop, portByte s.mixer.outputs[o].port, [])] else []) ins outs
        (os ++ [o]) := by
  have hother {p : Port} (hp : s.mixer.outputs[o].port ≠ p) : s.queueAfter given p (os ++ [o]) = s.queueAfter given p os :=
    State.queueAfter_other fun hh => hp hh.2
  by_cases hfull : s.audioFull given os o = true
  · obtain ⟨hlen, hkept⟩ := State.queueAfter_full h hfull
    rw [if_pos hfull]
    cases hp : s.mixer.outputs[o].port with
    | u =>
      rw [hp] at hlen hkept
      refine (if_neg (Nat.not_lt.mpr hlen)).trans ?_
      rw [State.sending, State.mixed_raise, State.sending, hkept, hother (by rw [hp]; decide)]
    | d =>
      rw [hp] at hlen hkept
      refine (if_neg (Nat.not_lt.mpr hlen)).trans ?_
      rw [State.sending, State.mixed_raise, State.sending, hkept, hother (by rw [hp]; decide)]
  · obtain ⟨hlen, hmore⟩ := State.queueAfter_room h (Bool.eq_false_iff.mpr hfull)
    rw [if_neg hfull, List.append_nil]
    cases hp : s.mixer.outputs[o].port with
    | u =>
      rw [hp] at hlen hmore
      refine (if_pos hlen).trans ?_
      rw [State.sending, State.sending, hmore, hother (p := .d) (by rw [hp]; decide)]
      rfl
    | d =>
      rw [hp] at hlen hmore
      refine (if_pos hlen).trans ?_
      rw [State.sending, State.sending, hmore, hother (p := .u) (by rw [hp]; decide)]
      rfl

/-- An output sets CLIP where samples saturate. -/
theorem State.sending_clip {s : State} {given : Vector Block 32} {ns : List Told} {ins : Vector Input 32}
    {outs : Vector Output 32} {os : List (Fin 32)} {o : Fin 32} (h : outs[o] = s.mixer.outputs[o]) :
    (if s.saturated given o = 0 then s.sending given ns ins outs os else (s.sending given ns ins outs os).setClip o (s.saturated given o))
      = s.sending given (ns ++ s.clipTold given o) ins (put outs o { s.mixer.outputs[o] with
          clip := s.mixer.outputs[o].clip || decide (s.saturated given o ≠ 0) }) os := by
  have hget : (s.sending given ns ins outs os).mixer.outputs[o] = s.mixer.outputs[o] := h
  by_cases hn : s.saturated given o = 0
  · have hput : put outs o s.mixer.outputs[o] = outs := by rw [← h]; exact put_same _ _
    have hnone : decide (s.saturated given o ≠ 0) = false := decide_eq_false (not_not.mpr hn)
    rw [if_pos hn, State.clipTold, if_neg fun hc => hc.2 hn, List.append_nil, hnone, Bool.or_false, hput]
  · have hsome : decide (s.saturated given o ≠ 0) = true := decide_eq_true hn
    rw [if_neg hn, State.setClip_eq, hget, hsome, Bool.or_true, State.clipTold]
    by_cases hclip : s.mixer.outputs[o].clip = true
    · rw [if_pos hclip, if_neg fun hc => Bool.false_ne_true (hc.1.symm.trans hclip), List.append_nil]
      rfl
    · rw [if_neg hclip, if_pos ⟨Bool.eq_false_iff.mpr hclip, hn⟩, State.sending, State.mixed_raise]
      rfl

/-- One output's step from the state after all inputs' and others' steps. -/
theorem State.sending_sendOutput {s : State} {given : Vector Block 32} {ns : List Told} {ins : Vector Input 32}
    {outs : Vector Output 32} {os : List (Fin 32)} {o : Fin 32} (hins : ∀ i : Fin 32, ins[i].enabled = s.mixer.inputs[i].enabled)
    (h : outs[o] = s.mixer.outputs[o]) : (s.sending given ns ins outs os).sendOutput given o
      = s.sending given (ns ++ s.outputTold given os o) ins (put outs o (s.outputLeft given o)) (os ++ [o]) := by
  have hget : (s.sending given ns ins outs os).mixer.outputs[o] = s.mixer.outputs[o] := h
  have hterms : (s.sending given ns ins outs os).terms given o = s.terms given o := by
    have hen (i : Fin 32) : (s.sending given ns ins outs os).mixer.inputs[i].enabled = s.mixer.inputs[i].enabled := hins i
    simp only [State.terms, hget, hen]
    rfl
  have hset (m : List Told) (v : Vector Output 32) (os : List (Fin 32)) (x : Output) :
      (s.sending given m ins v os).setOutput o x = s.sending given m ins (put v o x) os := rfl
  rw [State.sendOutput, hget, hterms]
  dsimp only
  by_cases hen : s.mixer.outputs[o].enabled = true
  · rw [if_pos hen]
    have hleft : s.outputLeft given o = { s.mixer.outputs[o] with
        seq := s.mixer.outputs[o].seq + 1, clip := s.mixer.outputs[o].clip || decide (s.saturated given o ≠ 0) } := if_pos hen
    have htold : s.outputTold given os o = s.clipTold given o
        ++ if s.audioFull given os o then [(.audioDrop, portByte s.mixer.outputs[o].port, [])] else [] :=
      if_neg (by rw [hen]; decide)
    have hclip : (if saturations (s.terms given o) = 0 then s.sending given ns ins outs os
        else (s.sending given ns ins outs os).setClip o (saturations (s.terms given o))) = _ := State.sending_clip h
    have hcell : s.mixer.outputs[o].audioCell (s.terms given o) = s.outputCell given o := rfl
    rw [hclip, hcell, State.sending_offer hen, hleft, htold, ← List.append_assoc]
    generalize ns ++ s.clipTold given o ++ (if s.audioFull given os o then [(.audioDrop, portByte s.mixer.outputs[o].port, [])] else [])
      = m
    rw [hset]
    refine congrArg (fun v => s.sending given m ins v (os ++ [o])) ((put_put outs o _ _).trans (congrArg (put outs o) ?_))
    exact congrArg (fun x : Output => { x with seq := s.mixer.outputs[o].seq + 1 }) (put_eq outs o _)
  · rw [if_neg hen]
    have hput : put outs o s.mixer.outputs[o] = outs := by rw [← h]; exact put_same _ _
    have hother (p : Port) : s.queueAfter given p (os ++ [o]) = s.queueAfter given p os := State.queueAfter_other fun hh => hen hh.1
    have hleft : s.outputLeft given o = s.mixer.outputs[o] := if_neg hen
    have htold : s.outputTold given os o = [] := if_pos (Bool.eq_false_iff.mpr hen)
    rw [hleft, htold, hput, List.append_nil, State.sending, State.sending, hother, hother]

end Sys2Proof.Machine
end

section

/-! ### BLOCK_TIMER_EXPIRY (R174 to R182) -/

namespace Sys2Proof.Machine

/-- The notices of a list of outputs, each told after those before it. -/
def State.outputsTold (s : State) (given : Vector Block 32) (done : List (Fin 32)) : List (Fin 32) → List Told
  | [] => []
  | o :: rest => s.outputTold given done o ++ s.outputsTold given (done ++ [o]) rest

theorem State.sending_outputs {s : State} {given : Vector Block 32} {ins : Vector Input 32}
    (hins : ∀ i : Fin 32, ins[i].enabled = s.mixer.inputs[i].enabled) (ns : List Told) (done rest : List (Fin 32))
    (h : (done ++ rest).Nodup) :
    rest.foldl (fun u o => u.sendOutput given o) (s.sending given ns ins (tableDone s.mixer.outputs (s.outputLeft given) done) done)
      = s.sending given (ns ++ s.outputsTold given done rest) ins (tableDone s.mixer.outputs (s.outputLeft given) (done ++ rest))
        (done ++ rest) := by
  induction rest generalizing ns done with
  | nil => rw [List.append_nil, State.outputsTold, List.append_nil]; rfl
  | cons o rest ih =>
    have hfresh : o ∉ done := fun ho => (List.disjoint_of_nodup_append h) ho List.mem_cons_self
    have hget : (tableDone s.mixer.outputs (s.outputLeft given) done)[o] = s.mixer.outputs[o] :=
      (tableDone_get _ _ _ o).trans (if_neg hfresh)
    have hmove : done ++ o :: rest = (done ++ [o]) ++ rest := by rw [List.append_assoc]; rfl
    rw [List.foldl_cons, State.sending_sendOutput hins hget, put_tableDone, ih _ (done ++ [o]) (hmove ▸ h), State.outputsTold,
      List.append_assoc, hmove]

theorem State.inputLeft_enabled (s : State) (i : Fin 32) : (s.inputLeft i).enabled = s.mixer.inputs[i].enabled := by
  unfold State.inputLeft
  dsimp only
  split
  · rw [Input.afterExpiry_enabled, State.mutedInput, Input.followMute_enabled]
  · rfl

/-- A block timer's expiry: the notices of the inputs and of the outputs, the two tables, and the audio queues. -/
theorem State.expireBlock_eq {s : State} (h : s.blockTimerRuns = true) (hu : s.uport.audio.length ≤ 16) (hd : s.dport.audio.length ≤ 16) :
    s.expireBlock = s.sending s.contributions
      ((List.finRange 32).flatMap s.inputTold ++ s.outputsTold s.contributions [] (List.finRange 32))
      (tableDone s.mixer.inputs s.inputLeft (List.finRange 32)) (tableDone s.mixer.outputs (s.outputLeft s.contributions) (List.finRange 32))
      (List.finRange 32) := by
  have hnodup : ([] ++ List.finRange 32 : List (Fin 32)).Nodup := List.nodup_finRange 32
  have hqueue (p : Port) (hp : (s.audioAt p).length ≤ 16) : s.queueAfter s.contributions p [] = s.audioAt p := by
    rw [State.queueAfter]
    exact (congrArg (List.take 16) (List.append_nil _)).trans (List.take_of_length_le hp)
  have hins : (List.finRange 32).foldl State.expireInput s = s.sending s.contributions ((List.finRange 32).flatMap s.inputTold)
      (tableDone s.mixer.inputs s.inputLeft (List.finRange 32)) (tableDone s.mixer.outputs (s.outputLeft s.contributions) []) [] := by
    have hfold := State.mixed_expireInputs (s := s) (outs := s.mixer.outputs) (ua := s.uport.audio) (da := s.dport.audio) []
      (List.finRange 32) hnodup
    rw [tableDone_nil, List.flatMap_nil, State.mixed_nil] at hfold
    rw [hfold, State.sending, hqueue .u hu, hqueue .d hd, tableDone_nil]
    rfl
  have henabled (i : Fin 32) : (tableDone s.mixer.inputs s.inputLeft (List.finRange 32))[i].enabled = s.mixer.inputs[i].enabled := by
    rw [tableDone_get, if_pos (List.mem_finRange i), State.inputLeft_enabled]
  rw [State.expireBlock, if_pos h]
  dsimp only
  rw [hins, State.sending_outputs henabled _ [] (List.finRange 32) hnodup]
  rfl

/-! The outputs' notices by their index -/

theorem finRange_before {n : Nat} {done rest : List (Fin n)} {o : Fin n} (h : List.finRange n = done ++ o :: rest) (p : Fin n → Bool) :
    (List.finRange n).filter (fun q => decide (q < o) && p q) = done.filter p := by
  have hsorted := List.pairwise_lt_finRange n
  rw [h] at hsorted
  obtain ⟨-, hrest, hlt⟩ := List.pairwise_append.mp hsorted
  have hdone : ∀ q ∈ done, q < o := fun q hq => hlt q hq o List.mem_cons_self
  have hlate : ∀ q ∈ rest, ¬ q < o := fun q hq => not_lt_of_gt ((List.pairwise_cons.mp hrest).1 q hq)
  have hnone : rest.filter (fun q => decide (q < o) && p q) = [] := List.filter_eq_nil_iff.mpr fun q hq => by simp [hlate q hq]
  rw [h, List.filter_append, List.filter_cons_of_neg (by simp), hnone, List.append_nil]
  exact List.filter_congr fun q hq => by simp [hdone q hq]

/-- The notices of the outputs, each by the outputs of a lower index. -/
theorem State.outputsTold_eq {s : State} {given : Vector Block 32} {f : Fin 32 → List Told}
    (h : ∀ (done rest : List (Fin 32)) (o : Fin 32), List.finRange 32 = done ++ o :: rest → s.outputTold given done o = f o)
    (done rest : List (Fin 32)) (hall : List.finRange 32 = done ++ rest) : s.outputsTold given done rest = rest.flatMap f := by
  induction rest generalizing done with
  | nil => rfl
  | cons o rest ih =>
    rw [State.outputsTold, h done rest o hall, ih (done ++ [o]) (by rw [hall, List.append_assoc]; rfl)]
    rfl

/-! The inputs' blocks -/

/-- What an input in a state gives and leaves, by its buffer (R175). -/
theorem Input.row_eq (x : Input) : (x.contribution, { x.afterExpiry with underrun := x.underrun || x.runsDry }) =
    (match x.state, x.buffer with
    | .playing, b :: rest => (b.voice, { x with state := .playing, buffer := rest, lastPlayed := b })
    | .playing, [] => (x.lastPlayed.voice, { x with state := .concealing, underrun := true })
    | .concealing, b :: rest => (b.voice, { x with state := .playing, buffer := rest, lastPlayed := b })
    | .concealing, [] => ({}, { x with state := .buffering })
    | .muted, _ :: rest => ({}, { x with state := .muted, buffer := rest })
    | st, _ => (({} : Block), { x with state := st })) := by
  obtain ⟨enabled, port, addr, chan, area, link, state, buffer, lastPlayed, lastSeq, underrun, overflow, seqGap⟩ := x
  cases state <;> cases buffer <;>
    simp [Input.contribution, Input.afterExpiry, Input.runsDry]

/-! The samples of an output -/

theorem mixRound_eq (sum : Int) : mixRound sum = Int.fdiv (sum + 16384) 32768 := by
  rw [mixRound, Int.fdiv_eq_ediv_of_nonneg _ (by decide)]

theorem saturate_ne_iff (y : Int) : saturate y ≠ y ↔ y < -32768 ∨ 32767 < y := by
  unfold saturate clampInt
  omega

theorem byteAt_flatMap {α : Type} {f : α → List Byte} (hf : ∀ x, (f x).length = 2) (xs : List α) {j : Nat} (hj : j < xs.length) {e : Nat}
    (he : e < 2) : byteAt (xs.flatMap f) (2 * j + e) = byteAt (f xs[j]) e := by
  induction xs generalizing j with
  | nil => exact absurd hj (Nat.not_lt_zero j)
  | cons x xs ih =>
    rw [List.flatMap_cons]
    cases j with
    | zero =>
      rw [byteAt, byteAt, List.getD_append _ _ _ _ (by rw [hf]; omega), Nat.mul_zero, Nat.zero_add]
      rfl
    | succ j =>
      rw [byteAt, List.getD_append_right _ _ _ _ (by rw [hf]; omega), hf, show 2 * (j + 1) + e - 2 = 2 * j + e by omega]
      exact ih (by simpa using hj)

theorem toInt_of_halfBytes (y : Int) (hlow : -32768 ≤ y) (hhigh : y ≤ 32767) (args : List Byte) (i : Nat)
    (h0 : byteAt args i = byteAt (half (BitVec.ofInt 16 y)) 0) (h1 : byteAt args (i + 1) = byteAt (half (BitVec.ofInt 16 y)) 1) :
    BitVec.toInt (BitVec.ofNat 16 (u16At args i)) = y := by
  have hword : BitVec.ofNat 16 (u16At args i) = BitVec.ofInt 16 y := by
    refine BitVec.eq_of_toNat_eq ?_
    generalize BitVec.ofInt 16 y = w at h0 h1 ⊢
    have hw := w.isLt
    have hb0 : byteAt (half w) 0 = BitVec.ofNat 8 (w.toNat / 256) := rfl
    have hb1 : byteAt (half w) 1 = BitVec.ofNat 8 w.toNat := rfl
    rw [u16At, h0, h1, hb0, hb1, BitVec.toNat_ofNat]
    simp only [natOf, List.foldl_cons, List.foldl_nil, BitVec.toNat_ofNat]
    omega
  rw [hword, BitVec.toInt_ofInt, Int.bmod_eq_of_le (by omega) (by omega)]

end Sys2Proof.Machine
end

section

/-! ### The statement of the block timer's expiry -/

namespace Sys2Proof.Machine

/-- What an input gives at an expiry, and what is left of it, once its state has followed the mute condition (R175). -/
def Input.expiry (x : Input) : Block × Input := (x.contribution, { x.afterExpiry with underrun := x.underrun || x.runsDry })

/-- What an input in a state gives and leaves, by its buffer (R175). -/
def Input.rowAt (x : Input) (st : InputState) : Block × Input := match st, x.buffer with
  | .playing, b :: rest => (b.voice, { x with state := .playing, buffer := rest, lastPlayed := b })
  | .playing, [] => (x.lastPlayed.voice, { x with state := .concealing, underrun := true })
  | .concealing, b :: rest => (b.voice, { x with state := .playing, buffer := rest, lastPlayed := b })
  | .concealing, [] => ({}, { x with state := .buffering })
  | .muted, _ :: rest => ({}, { x with state := .muted, buffer := rest })
  | st, _ => (({} : Block), { x with state := st })

theorem Input.expiry_eq_rowAt (x : Input) (st : InputState) : { x with state := st }.expiry = x.rowAt st := by
  obtain ⟨enabled, port, addr, chan, area, link, state, buffer, lastPlayed, lastSeq, underrun, overflow, seqGap⟩ := x
  cases st <;> cases buffer <;> simp [Input.expiry, Input.rowAt, Input.contribution, Input.afterExpiry, Input.runsDry]

theorem State.muteHolds_iff (s : State) (x : Input) : s.muteHolds x = true ↔ ∃ l : LinkId, x.link = some l ∧
    (s.links[l].state = .faded ∨ s.links[l].state = .lost ∨ s.links[l].state = .retuning ∨ s.links[l].state = .assigning) := by
  have hmutes (st : LinkState) : st.mutes = true ↔ st = .faded ∨ st = .lost ∨ st = .retuning ∨ st = .assigning := by
    cases st <;> decide
  unfold State.muteHolds
  cases x.link with
  | none => simp
  | some l => simpa using hmutes s.links[l].state

theorem Input.expiry_followMute_of_muted (x : Input) : (x.followMute true).expiry = x.rowAt .muted := x.expiry_eq_rowAt .muted

theorem Input.expiry_followMute_of_kept {x : Input} (h : x.state ≠ .muted) : (x.followMute false).expiry = x.rowAt x.state := by
  have hkept : x.followMute false = x := if_neg h
  rw [hkept]
  exact x.expiry_eq_rowAt x.state

theorem Input.expiry_followMute_of_ended {x : Input} (h : x.state = .muted) : (x.followMute false).expiry
    = x.rowAt (if (x.area + 1) / 2 ≤ x.buffer.length then .playing else .buffering) := by
  have hstart : x.followMute false = { x with state := .buffering }.startPlay := if_pos h
  rw [hstart, Input.startPlay_eq, ← Input.expiry_eq_rowAt]
  simp only [true_and]

theorem State.contributions_get (s : State) (i : Fin 32) :
    s.contributions[i] = if s.mixer.inputs[i].enabled then (s.mutedInput i).contribution else {} := by
  simp [State.contributions]

theorem State.inputLeft_expiry {s : State} {i : Fin 32} (h : s.mixer.inputs[i].enabled = true) :
    (s.contributions[i], s.inputLeft i) = (s.mixer.inputs[i].followMute (s.muteHolds s.mixer.inputs[i])).expiry := by
  have hflag := (Input.followMute_kept s.mixer.inputs[i] (s.muteHolds s.mixer.inputs[i])).1
  rw [Input.expiry, hflag]
  exact Prod.ext ((s.contributions_get i).trans (if_pos h)) (if_pos h)

/-! The terms of an output and its samples -/

theorem Tally.dims_iff (t : Tally) (o : Fin 32) : t.dims o = true ↔ ∃ k : Fin 64, t.inEffect[k].mix = some o ∧
    (t.applied[k] = .program ∨ t.applied[k] = .both) := by
  simp only [Tally.dims, List.any_eq_true, Bool.and_eq_true, decide_eq_true_iff, TallyState.onProgram_iff]
  exact ⟨fun ⟨k, _, hk⟩ => ⟨k, hk⟩, fun ⟨k, hk⟩ => ⟨k, List.mem_finRange k, hk⟩⟩

theorem Crosspoint.step_of_dimmed {x : Crosspoint} {dimmed : Bool} (h : x.dimWhenLive = true ∧ dimmed = true) (dim : Nat) :
    x.step dim dimmed = min 127 (x.gain + dim) := by rw [Crosspoint.step, h.1, h.2]; rfl

theorem Crosspoint.step_of_clear {x : Crosspoint} {dimmed : Bool} (h : ¬ (x.dimWhenLive = true ∧ dimmed = true)) (dim : Nat) :
    x.step dim dimmed = min 127 x.gain := by
  rw [Crosspoint.step, if_neg fun hh => h ((Bool.and_eq_true _ _).mp hh)]

/-- Does an output hear an input: is the input enabled and the crosspoint ON (R181)? -/
def State.hears (s : State) (o i : Fin 32) : Bool := s.mixer.inputs[i].enabled && s.mixer.crosspoints[i][o].on

theorem State.mixSum_terms (s : State) (given : Vector Block 32) (o : Fin 32) (k : Fin 16) :
    mixSum (s.terms given o) k = (((List.finRange 32).filter (s.hears o)).map fun i => BitVec.toInt given[i].samples[k]
      * (coefficient (s.mixer.crosspoints[i][o].step s.mixer.outputs[o].dim (s.tally.dims o)) : Int)).sum := by
  rw [mixSum, State.terms, List.map_map]
  rfl

theorem State.talk_terms (s : State) (given : Vector Block 32) (o : Fin 32) :
    ((s.terms given o).any fun t => t.1.talk) = (List.finRange 32).any fun i => s.hears o i && given[i].talk := by
  rw [State.terms, List.any_map, List.any_filter]
  rfl

/-- The mixed sample of an output before it is held in 16 bits (R181). -/
def State.mixedAt (s : State) (given : Vector Block 32) (o : Fin 32) (k : Fin 16) : Int := mixRound (mixSum (s.terms given o) k)

theorem State.saturated_eq (s : State) (given : Vector Block 32) (o : Fin 32) : s.saturated given o
    = ((List.finRange 16).filter fun k => decide (s.mixedAt given o k < -32768 ∨ 32767 < s.mixedAt given o k)).length := by
  rw [State.saturated, saturations]
  simp only [saturate_ne_iff]
  rfl

theorem State.saturated_ne_zero_iff (s : State) (given : Vector Block 32) (o : Fin 32) : s.saturated given o ≠ 0 ↔
    ∃ k : Fin 16, s.mixedAt given o k < -32768 ∨ 32767 < s.mixedAt given o k := by
  rw [State.saturated_eq, ← Nat.pos_iff_ne_zero, List.length_pos_iff_exists_mem]
  simp only [List.mem_filter, List.mem_finRange, true_and, decide_eq_true_iff]

/-! The AUDIO cell of an output -/

theorem mixSamples_length (terms : List (Block × Nat)) : (mixSamples terms).length = 32 := by
  simp [mixSamples, half, u16, List.length_flatMap]

theorem Output.audioCell_data (x : Output) (terms : List (Block × Nat)) : cellData (x.audioCell terms)
    = u8 ((terms.any (·.1.talk)).toNat * 128 + x.chan) ++ [x.seq] ++ mixSamples terms :=
  cellData_makeCell _ _ _ _ _ (by simp [mixSamples_length, u8])

theorem Output.audioCell_integral (x : Output) (terms : List (Block × Nat)) : integral (x.audioCell terms) = true :=
  integral_makeCell _ _ _ _ _ (by simp [mixSamples_length, u8])

theorem Output.audioCell_len (x : Output) (terms : List (Block × Nat)) : (x.audioCell terms).len = 34 := by
  have hlen : (u8 ((terms.any (·.1.talk)).toNat * 128 + x.chan) ++ [x.seq] ++ mixSamples terms).length = 34 := by
    simp [mixSamples_length, u8]
  exact congrArg (BitVec.ofNat 6) hlen

theorem Output.audioCell_sample (x : Output) (terms : List (Block × Nat)) (k : Fin 16) :
    BitVec.toInt (BitVec.ofNat 16 (u16At (cellData (x.audioCell terms)) (2 + 2 * k.val)))
      = saturate (mixRound (mixSum terms k)) := by
  have hbyte (e : Nat) (he : e < 2) : byteAt (cellData (x.audioCell terms)) (2 + 2 * k.val + e)
      = byteAt (half (BitVec.ofInt 16 (saturate (mixRound (mixSum terms k))))) e := by
    rw [x.audioCell_data, byteAt, List.getD_append_right _ _ _ _ (by simp [u8]; omega)]
    have hat : 2 + 2 * k.val + e - (u8 ((terms.any (·.1.talk)).toNat * 128 + x.chan) ++ [x.seq]).length = 2 * k.val + e := by
      simp [u8]; omega
    rw [hat]
    refine (byteAt_flatMap (fun _ => rfl) (List.finRange 16) (by simp) he).trans ?_
    rw [List.getElem_finRange]
    rfl
  have hlow : -32768 ≤ saturate (mixRound (mixSum terms k)) := by unfold saturate clampInt; omega
  have hhigh : saturate (mixRound (mixSum terms k)) ≤ 32767 := by unfold saturate clampInt; omega
  exact toInt_of_halfBytes _ hlow hhigh _ _ (hbyte 0 (by decide)) (hbyte 1 (by decide))

/-! The queues and the notices, output by output -/

theorem State.audioFull_eq {s : State} {given : Vector Block 32} {done rest : List (Fin 32)} {o : Fin 32}
    (h : List.finRange 32 = done ++ o :: rest) : s.audioFull given done o
      = decide (16 ≤ (s.audioAt s.mixer.outputs[o].port).length + ((List.finRange 32).filter fun q =>
          decide (q < o) && s.mixer.outputs[q].enabled && s.mixer.outputs[q].port == s.mixer.outputs[o].port).length) := by
  have hcount := finRange_before h fun q => s.mixer.outputs[q].enabled && s.mixer.outputs[q].port == s.mixer.outputs[o].port
  simp only [Bool.and_assoc]
  rw [State.audioFull, State.sentTo, List.length_map, ← hcount]

theorem State.inputTold_eq (s : State) (i : Fin 32) : s.inputTold i
    = if s.mixer.inputs[i].underrun = false ∧ (s.inputLeft i).underrun = true then
        [(.underrun, channelByte i, u8 s.mixer.inputs[i].area)]
      else [] := by
  have hiff : (s.mixer.inputs[i].enabled = true ∧ (s.mutedInput i).runsDry = true ∧ s.mixer.inputs[i].underrun = false)
      ↔ s.mixer.inputs[i].underrun = false ∧ (s.inputLeft i).underrun = true := by
    by_cases hen : s.mixer.inputs[i].enabled = true
    · have hleft : (s.inputLeft i).underrun = (s.mixer.inputs[i].underrun || (s.mutedInput i).runsDry) :=
        congrArg Input.underrun (if_pos hen)
      rw [hleft]
      exact ⟨fun ⟨_, hdry, hu⟩ => ⟨hu, by rw [hdry, Bool.or_true]⟩, fun ⟨hu, hr⟩ => ⟨hen, by rwa [hu, Bool.false_or] at hr, hu⟩⟩
    · rw [(State.inputLeft_of_disabled hen).1]
      exact ⟨fun hh => absurd hh.1 hen, fun hh => absurd (hh.1.symm.trans hh.2) Bool.false_ne_true⟩
  exact ite_congr (propext hiff) (fun _ => rfl) fun _ => rfl

/-- Does an output find its port's audio queue full behind the cells of the outputs of a lower index (R182)? -/
def State.fullFor (s : State) (o : Fin 32) : Bool :=
  decide (16 ≤ (s.audioAt s.mixer.outputs[o].port).length + ((List.finRange 32).filter fun q =>
    decide (q < o) && s.mixer.outputs[q].enabled && s.mixer.outputs[q].port == s.mixer.outputs[o].port).length)

/-- The notices that the expiry raises of an output, by its index. -/
def State.toldOf (s : State) (given : Vector Block 32) (o : Fin 32) : List Told :=
  if s.mixer.outputs[o].enabled = false then []
  else s.clipTold given o ++ (if s.fullFor o then [(.audioDrop, portByte s.mixer.outputs[o].port, [])] else [])

/-- An expiry as one change of the state. -/
theorem State.expireBlock_eq_mixed {s : State} (h : s.blockTimerRuns = true) (hu : s.uport.audio.length ≤ 16)
    (hd : s.dport.audio.length ≤ 16) : s.expireBlock = s.sending s.contributions
      ((List.finRange 32).flatMap s.inputTold ++ (List.finRange 32).flatMap (s.toldOf s.contributions))
      (tableDone s.mixer.inputs s.inputLeft (List.finRange 32)) (tableDone s.mixer.outputs (s.outputLeft s.contributions) (List.finRange 32))
      (List.finRange 32) := by
  rw [State.expireBlock_eq h hu hd, State.outputsTold_eq (f := s.toldOf s.contributions) (fun done rest o hall => ?_) [] (List.finRange 32)
    (List.nil_append _).symm]
  rw [State.outputTold, State.toldOf, State.audioFull_eq hall]
  rfl

theorem State.toldOf_of_enabled {s : State} {given : Vector Block 32} {o : Fin 32} (h : s.mixer.outputs[o].enabled = true) :
    s.outputLeft given o = { s.mixer.outputs[o] with
      seq := s.mixer.outputs[o].seq + 1
      clip := s.mixer.outputs[o].clip || decide (∃ k : Fin 16, s.mixedAt given o k < -32768 ∨ 32767 < s.mixedAt given o k) } := by
  have hclip : decide (s.saturated given o ≠ 0) = decide (∃ k : Fin 16, s.mixedAt given o k < -32768 ∨ 32767 < s.mixedAt given o k) :=
    decide_eq_decide.mpr (s.saturated_ne_zero_iff given o)
  rw [← hclip]
  exact if_pos h

/-- Settles O52: the expiry is one change of the state, whose two tables, queues and notices are read off entry by entry. -/
theorem blockTimerMixes : Obligations.BlockTimerMixes := by
  intro s hdue muted spoken silence row
  have hexec : exec .blockTimerExpiry s = .next s.expireBlock := State.settled_of_idle hdue _
  refine ⟨fun hoff => ?_, fun hon hu hd => ?_⟩
  · rw [hexec, State.expireBlock, if_neg (by rw [hoff]; decide)]
  have hmuted (i : Fin 32) : muted i ↔ s.muteHolds s.mixer.inputs[i] = true := (s.muteHolds_iff _).symm
  have hrow (x : Input) (st : InputState) : row x st = x.rowAt st := by
    unfold row Input.rowAt
    cases st <;> cases x.buffer <;> rfl
  have hin (i : Fin 32) : s.expireBlock.mixer.inputs[i] = s.inputLeft i := by
    rw [State.expireBlock_eq_mixed hon hu hd]
    exact (tableDone_get _ _ _ i).trans (if_pos (List.mem_finRange i))
  have hout (o : Fin 32) : s.expireBlock.mixer.outputs[o] = s.outputLeft s.contributions o := by
    rw [State.expireBlock_eq_mixed hon hu hd]
    exact (tableDone_get _ _ _ o).trans (if_pos (List.mem_finRange o))
  have hqueue : s.expireBlock.uport.audio = s.queueAfter s.contributions .u (List.finRange 32)
      ∧ s.expireBlock.dport.audio = s.queueAfter s.contributions .d (List.finRange 32) := by
    rw [State.expireBlock_eq_mixed hon hu hd]
    exact ⟨rfl, rfl⟩
  refine ⟨s.expireBlock, fun i => s.contributions[i], s.mixedAt s.contributions, s.outputCell s.contributions, hexec,
    fun i hoff => ?_, fun i hen => ?_, fun o hen => ?_, fun o hoff => ?_, hqueue, ?_⟩
  · have hdis : ¬ s.mixer.inputs[i].enabled = true := Bool.eq_false_iff.mp hoff
    exact ⟨(s.contributions_get i).trans (if_neg hdis), (hin i).trans (State.inputLeft_of_disabled hdis).1⟩
  · have hexp := State.inputLeft_expiry hen
    rw [hin i]
    simp only [hmuted i, hrow, Bool.not_eq_true]
    refine ⟨fun hm => ?_, fun hm hst => ?_, fun hm hst => ?_⟩
    · exact hexp.trans ((congrArg (fun b => (s.mixer.inputs[i].followMute b).expiry) hm).trans (Input.expiry_followMute_of_muted _))
    · exact hexp.trans ((congrArg (fun b => (s.mixer.inputs[i].followMute b).expiry) hm).trans (Input.expiry_followMute_of_kept hst))
    · exact hexp.trans ((congrArg (fun b => (s.mixer.inputs[i].followMute b).expiry) hm).trans (Input.expiry_followMute_of_ended hst))
  · intro out heard dimmed
    have hdims : dimmed ↔ s.tally.dims o = true := (Tally.dims_iff _ _).symm
    refine ⟨⟨fun i => s.mixer.crosspoints[i][o].step out.dim (s.tally.dims o), fun i => ?_, fun k => ?_⟩, rfl, rfl, rfl,
      Output.audioCell_len _ _, Output.audioCell_integral _ _, ?_, ?_, fun k => ?_, (hout o).trans (State.toldOf_of_enabled hen)⟩
    · rw [hdims]
      exact ⟨fun hh => Crosspoint.step_of_dimmed hh _, fun hh => Crosspoint.step_of_clear hh _⟩
    · rw [State.mixedAt, mixRound_eq, State.mixSum_terms]
      rfl
    · have hbyte : byteAt (cellData (s.outputCell s.contributions o)) 0
          = BitVec.ofNat 8 (((s.terms s.contributions o).any (·.1.talk)).toNat * 128 + out.chan) := by
        rw [State.outputCell, Output.audioCell_data]
        rfl
      rw [hbyte, s.talk_terms s.contributions o]
      show _ = BitVec.ofNat 8 ((if ((List.finRange 32).any fun i => s.hears o i && s.contributions[i].talk) then 128 else 0) + out.chan)
      cases (List.finRange 32).any fun i => s.hears o i && s.contributions[i].talk <;> rfl
    · rw [State.outputCell, Output.audioCell_data]
      rfl
    · exact Output.audioCell_sample _ _ k
  · exact (hout o).trans (if_neg (Bool.eq_false_iff.mp hoff))
  · intro full saturated ofInput ofOutput told
    have hfull : full = s.fullFor := by
      funext o
      unfold full State.fullFor State.audioAt
      cases s.mixer.outputs[o].port <;> rfl
    have hofInput : ofInput = s.inputTold := by
      funext i
      rw [s.inputTold_eq i, ← hin i]
      rfl
    have hofOutput : ofOutput = s.toldOf s.contributions := by
      funext o
      unfold ofOutput State.toldOf State.clipTold
      rw [hfull, s.saturated_eq s.contributions o]
      rfl
    have htold : told = s.tell ((List.finRange 32).flatMap s.inputTold ++ (List.finRange 32).flatMap (s.toldOf s.contributions)) := by
      unfold told
      rw [hofInput, hofOutput]
      rfl
    rw [htold, State.tell_eq, State.expireBlock_eq_mixed hon hu hd]
    rfl

end Sys2Proof.Machine
end

section

/-! ### The retune contexts: what their operations change, and what a context holds (R94, R103, R109) -/

namespace Sys2Proof.Machine

/-! What the shared operations leave alone -/

/-- Granting slots changes the unit channel alone. -/
theorem State.grantOne_parts (s : State) : s.grantOne = { s with unit := s.grantOne.unit } := by
  cases h : s.grantable s.unit.waiting with
  | none => rw [State.grantOne_of_none h]
  | some found => rw [State.grantOne_of_some h, State.granted]

theorem State.grantAll_parts (n : Nat) (s : State) : State.grantAll n s = { s with unit := (State.grantAll n s).unit } := by
  induction n generalizing s with
  | zero => rfl
  | succ n ih => rw [State.grantAll, ih s.grantOne, s.grantOne_parts]

theorem State.askSlot_parts (s : State) (q : SlotRequest) : s.askSlot q = { s with unit := (s.askSlot q).unit } := by
  rw [State.askSlot_eq, State.grantAll_parts]
  rfl

/-- A state change of an entry changes the plan, the link table and the retune queue alone. -/
theorem State.changeEntry_parts (s : State) (e : EntryId) (st : CarrierState) : s.changeEntry e st = { s with
    plan := (s.changeEntry e st).plan, links := (s.changeEntry e st).links, retuneQueue := (s.changeEntry e st).retuneQueue } := by
  have hnoted (t : State) (l : LinkId) (ht : t = { s with plan := t.plan, links := t.links, retuneQueue := t.retuneQueue }) :
      t.noteEntered e l st = { s with plan := (t.noteEntered e l st).plan, links := (t.noteEntered e l st).links
                                      retuneQueue := (t.noteEntered e l st).retuneQueue } := by
    cases st with
    | active => rw [ht]; rfl
    | standby =>
      rw [State.noteEntered]
      split
      · rw [ht]; rfl
      · rw [State.releaseEntry_parts, ht]
    | free => exact ht
    | reserved => exact ht
    | retiring => exact ht
    | blocked => exact ht
  unfold State.changeEntry
  dsimp only
  split
  · rfl
  · exact hnoted _ _ rfl

theorem State.changeOpt_parts (s : State) (e : Option EntryId) (st : CarrierState) : s.changeOpt e st = { s with
    plan := (s.changeOpt e st).plan, links := (s.changeOpt e st).links, retuneQueue := (s.changeOpt e st).retuneQueue } := by
  cases e with
  | none => rfl
  | some e => exact s.changeEntry_parts e st

theorem State.setLinkState_of_moved {st : LinkState} (h : st ≠ .idle) (s : State) (l : LinkId) :
    s.setLinkState l st = s.modLink l fun r => { r with state := st } := if_neg h

theorem State.setLinkState_idle (s : State) (l : LinkId) : s.setLinkState l .idle =
    (s.modLink l fun r => { r with state := .idle }).releaseOpt s.links[l].standby := by
  have hstandby : (s.modLink l fun r => { r with state := .idle }).links[l].standby = s.links[l].standby := by
    rw [State.modLink_get]
  rw [← hstandby]
  rfl

/-! What a context holds -/

theorem Slot.ownedBy_iff (x : Slot) (k : ContextId) : x.ownedBy k = true ↔ ∃ side : Side, x.owner = some (.context k side) := by
  unfold Slot.ownedBy
  cases x.owner with
  | none => simp
  | some o => cases o <;> simp [Owner.ofContext, eq_comm]

theorem Owner.ofContext_iff (o : Owner) (k : ContextId) : o.ofContext k = true ↔ ∃ side : Side, o = .context k side := by
  cases o <;> simp [Owner.ofContext]

theorem State.holdsSlot_iff (s : State) (k : ContextId) : s.holdsSlot k = true ↔
    (∃ (i : SlotId) (side : Side), s.unit.slots[i].owner = some (.context k side))
      ∨ ∃ q ∈ s.unit.waiting, ∃ side : Side, q.owner = .context k side := by
  simp only [State.holdsSlot, Bool.or_eq_true, List.any_eq_true, Slot.ownedBy_iff, Owner.ofContext_iff, List.mem_finRange, true_and]

theorem State.holdsSlot_congr {s t : State} (h : t.unit = s.unit) (k : ContextId) : t.holdsSlot k = s.holdsSlot k := by
  rw [State.holdsSlot, State.holdsSlot, h]

/-- A request of a context waits, or a slot that is not FREE is its own: what the granting of slots keeps. -/
def State.claims (s : State) (k : ContextId) : Prop :=
  (∃ (i : SlotId) (side : Side), s.unit.slots[i].owner = some (.context k side) ∧ s.unit.slots[i].state ≠ .free)
    ∨ ∃ q ∈ s.unit.waiting, ∃ side : Side, q.owner = .context k side

theorem State.holdsSlot_of_claims {s : State} {k : ContextId} (h : s.claims k) : s.holdsSlot k = true :=
  (s.holdsSlot_iff k).mpr (h.imp (fun ⟨i, side, howner, _⟩ => ⟨i, side, howner⟩) id)

theorem State.grantable_some {s : State} {qs : List SlotRequest} {q : SlotRequest} {i : SlotId} (h : s.grantable qs = some (q, i)) :
    s.firstFree q.owner i := by
  induction qs with
  | nil => cases h
  | cons p qs ih =>
    rw [State.grantable] at h
    cases hslot : s.slotFor p.owner with
    | none => rw [hslot] at h; exact ih h
    | some j =>
      rw [hslot] at h
      cases h
      exact (s.slotFor_eq_some_iff _ _).mp hslot

/-- The owner and the state of a granted slot, and of any other. -/
theorem State.slotsGranted_self {s : State} {i : SlotId} {q : SlotRequest} {mate : Option SlotId} (h : ∀ j, mate = some j → j ≠ i) :
    (s.slotsGranted i q mate)[i].owner = some q.owner ∧ (s.slotsGranted i q mate)[i].state = .waiting := by
  cases mate with
  | none =>
    simp only [State.slotsGranted, put_eq]
    exact ⟨trivial, trivial⟩
  | some j =>
    have hne : i ≠ j := (h j rfl).symm
    simp only [State.slotsGranted, put_ne _ _ hne, put_eq]
    exact ⟨trivial, trivial⟩

theorem State.slotsGranted_other {s : State} {i j : SlotId} {q : SlotRequest} {mate : Option SlotId} (h : j ≠ i) :
    (s.slotsGranted i q mate)[j].owner = s.unit.slots[j].owner ∧ (s.slotsGranted i q mate)[j].state = s.unit.slots[j].state := by
  cases mate with
  | none =>
    simp only [State.slotsGranted, put_ne _ _ h]
    exact ⟨trivial, trivial⟩
  | some n =>
    by_cases hn : j = n
    · subst hn
      simp only [State.slotsGranted, put_eq]
      exact ⟨trivial, trivial⟩
    · simp only [State.slotsGranted, put_ne _ _ hn, put_ne _ _ h]
      exact ⟨trivial, trivial⟩

theorem State.mateFor_ne {s : State} {i : SlotId} {q : SlotRequest} (j : SlotId) (h : s.mateFor i q = some j) : j ≠ i :=
  (State.mateFor_isMate h).1

theorem State.claims_grantOne {s : State} {k : ContextId} (h : s.claims k) : s.grantOne.claims k := by
  cases hfind : s.grantable s.unit.waiting with
  | none => rwa [State.grantOne_of_none hfind]
  | some found =>
    obtain ⟨q, i⟩ := found
    have hfree : s.unit.slots[i].state = .free := (State.grantable_some hfind).1
    rw [State.grantOne_of_some hfind]
    by_cases hq : ∃ side : Side, q.owner = .context k side
    · obtain ⟨side, hside⟩ := hq
      obtain ⟨howner, hstate⟩ := State.slotsGranted_self (s := s) (q := q) (fun j => State.mateFor_ne (i := i) j)
      refine .inl ⟨i, side, howner.trans (congrArg some hside), fun hno => ?_⟩
      exact absurd (hstate.symm.trans hno) (by decide)
    · rcases h with ⟨j, side, howner, hstate⟩ | ⟨p, hp, side, hside⟩
      · have hne : j ≠ i := fun hij => hstate (hij ▸ hfree)
        obtain ⟨howner', hstate'⟩ := State.slotsGranted_other (s := s) (q := q) (mate := s.mateFor i q) hne
        exact .inl ⟨j, side, howner'.trans howner, fun hno => hstate (hstate'.symm.trans hno)⟩
      · have hne : p ≠ q := fun hpq => hq ⟨side, hpq ▸ hside⟩
        exact .inr ⟨p, (List.mem_erase_of_ne hne).mpr hp, side, hside⟩

theorem State.claims_grantAll {k : ContextId} (n : Nat) {s : State} (h : s.claims k) : (State.grantAll n s).claims k := by
  induction n generalizing s with
  | zero => exact h
  | succ n ih => exact ih (State.claims_grantOne h)

theorem State.claims_askSlot {s : State} {k : ContextId} (h : s.claims k) (q : SlotRequest) : (s.askSlot q).claims k := by
  rw [State.askSlot_eq]
  exact State.claims_grantAll _ (h.imp id fun ⟨p, hp, hside⟩ => ⟨p, List.mem_append_left _ hp, hside⟩)

/-- A context that asks for a slot holds it or waits for it. -/
theorem State.claims_asked (s : State) {q : SlotRequest} {k : ContextId} {side : Side} (h : q.owner = .context k side) :
    (s.askSlot q).claims k := by
  rw [State.askSlot_eq]
  exact State.claims_grantAll _ (.inr ⟨q, List.mem_append_right _ (List.mem_singleton.mpr rfl), side, h⟩)

/-! The closing of a context -/

theorem State.setContext_get (s : State) (k : ContextId) (c : Context) : (s.setContext k c).contexts[k] = c := put_eq _ _ _

theorem State.freeIfDone_of_held {s : State} {k : ContextId} (h : s.holdsSlot k = true ∨ s.contexts[k].coordinating = true) :
    s.freeIfDone k = s :=
  if_neg fun hd => h.elim hd.2.1 hd.2.2

theorem State.freeIfDone_of_done {s : State} {k : ContextId} (hstage : s.contexts[k].stage = .closing) (h : s.holdsSlot k = false)
    (hcoord : s.contexts[k].coordinating = false) : s.freeIfDone k = (s.setContext k {}).testDrain :=
  if_pos ⟨hstage, Bool.eq_false_iff.mp h, Bool.eq_false_iff.mp hcoord⟩

/-- A closing context is FREE at once, where it holds nothing (R109, R113). -/
theorem State.close_eq (s : State) (k : ContextId) : s.close k =
    if s.holdsSlot k = true ∨ s.contexts[k].coordinating = true then
      { s with contexts := put s.contexts k { s.contexts[k] with stage := .closing } }
    else State.testDrain { s with contexts := put s.contexts k {} } := by
  have hget : (s.setContext k { s.contexts[k] with stage := .closing }).contexts[k] = { s.contexts[k] with stage := .closing } := put_eq _ _ _
  have hcoord : (s.setContext k { s.contexts[k] with stage := .closing }).contexts[k].coordinating = s.contexts[k].coordinating := by
    rw [hget]
  have hstage : (s.setContext k { s.contexts[k] with stage := .closing }).contexts[k].stage = .closing := by rw [hget]
  have hput : ((s.setContext k { s.contexts[k] with stage := .closing }).setContext k {}) = s.setContext k {} :=
    congrArg (fun v => { s with contexts := v }) (put_put _ _ _ _)
  have hclose : s.close k = (s.setContext k { s.contexts[k] with stage := .closing }).freeIfDone k := rfl
  rw [hclose]
  by_cases h : s.holdsSlot k = true ∨ s.contexts[k].coordinating = true
  · rw [if_pos h]
    exact State.freeIfDone_of_held (h.imp id hcoord.trans)
  · obtain ⟨hslot, hno⟩ := not_or.mp h
    rw [if_neg h, State.freeIfDone_of_done hstage (Bool.eq_false_iff.mpr hslot) (hcoord.trans (Bool.eq_false_iff.mpr hno)), hput]
    rfl

end Sys2Proof.Machine
end

section

/-! ### The end of a retune before its commit (R88, R103, R109, R116) -/

namespace Sys2Proof.Machine

/-! The settlement -/

/-- The last retune result that a context's link is left with (R79). -/
def State.lastResult (s : State) (k : ContextId) (ending : Ending) (stage : RetuneStage) : RetuneResult :=
  let c := s.contexts[k]
  { ending, reason := c.reason, target := c.target, stage, summary := c.summary, rack := c.rack, portable := c.portable
    frame := s.timing.frame }

theorem State.writeResult_eq (s : State) (k : ContextId) (ending : Ending) (stage : RetuneStage) : s.writeResult k ending stage =
    s.modLink s.contexts[k].link fun r => { r with last := s.lastResult k ending stage } := rfl

theorem State.writeResult_congr {s t : State} (hc : t.contexts = s.contexts) (ht : t.timing = s.timing) (k : ContextId) (ending : Ending)
    (stage : RetuneStage) : t.writeResult k ending stage =
      t.modLink s.contexts[k].link fun r => { r with last := s.lastResult k ending stage } := by
  rw [State.writeResult_eq, State.lastResult, State.lastResult, hc, ht]

/-- The new entry of a retune that ends before its commit goes (R109). -/
def State.entryGivenUp (s : State) (k : ContextId) : State :=
  if s.contexts[k].target = .backup then s.changeOpt s.contexts[k].newEntry .standby else s.releaseOpt s.contexts[k].newEntry

theorem State.entryGivenUp_parts (s : State) (k : ContextId) : s.entryGivenUp k = { s with
    plan := (s.entryGivenUp k).plan, links := (s.entryGivenUp k).links, retuneQueue := (s.entryGivenUp k).retuneQueue } := by
  unfold State.entryGivenUp
  split
  · exact s.changeOpt_parts _ _
  · exact s.releaseOpt_parts _

theorem State.settleEarly_eq (s : State) (k : ContextId) (ending : Ending) (stage : RetuneStage) : s.settleEarly k ending stage =
    (((s.entryGivenUp k).setLinkState s.contexts[k].link s.contexts[k].prior).modLink s.contexts[k].link fun r =>
      { r with last := s.lastResult k ending stage }) := by
  have hframe : ((s.entryGivenUp k).setLinkState s.contexts[k].link s.contexts[k].prior).contexts = s.contexts
      ∧ ((s.entryGivenUp k).setLinkState s.contexts[k].link s.contexts[k].prior).timing = s.timing := by
    rw [s.entryGivenUp_parts k]
    unfold State.setLinkState
    dsimp only
    split
    · rw [State.releaseOpt_parts]
      exact ⟨rfl, rfl⟩
    · exact ⟨rfl, rfl⟩
  exact State.writeResult_congr hframe.1 hframe.2 k ending stage

theorem State.settleEarly_of_moved {s : State} {k : ContextId} (h : s.contexts[k].prior ≠ .idle) (ending : Ending) (stage : RetuneStage) :
    s.settleEarly k ending stage = (s.entryGivenUp k).modLink s.contexts[k].link fun r =>
      { r with state := s.contexts[k].prior, last := s.lastResult k ending stage } := by
  rw [State.settleEarly_eq, State.setLinkState_of_moved h, State.modLink_modLink]
  rfl

theorem State.settleEarly_of_idle {s : State} {k : ContextId} (h : s.contexts[k].prior = .idle) (ending : Ending) (stage : RetuneStage) :
    s.settleEarly k ending stage = ((((s.entryGivenUp k).modLink s.contexts[k].link fun r => { r with state := .idle }).releaseOpt
      (s.entryGivenUp k).links[s.contexts[k].link].standby).modLink s.contexts[k].link fun r =>
        { r with last := s.lastResult k ending stage }) := by
  rw [State.settleEarly_eq, h, State.setLinkState_idle]

theorem State.settleEarly_parts (s : State) (k : ContextId) (ending : Ending) (stage : RetuneStage) : s.settleEarly k ending stage =
    { s with plan := (s.settleEarly k ending stage).plan, links := (s.settleEarly k ending stage).links
             retuneQueue := (s.settleEarly k ending stage).retuneQueue } := by
  by_cases h : s.contexts[k].prior = .idle
  · rw [State.settleEarly_of_idle h, State.releaseOpt_parts, s.entryGivenUp_parts k]
    rfl
  · rw [State.settleEarly_of_moved h, s.entryGivenUp_parts k]
    rfl

/-! The withdrawal of a context's slots -/

/-- Is a slot a context's that may be withdrawn (R103)? -/
def State.leaving (s : State) (k : ContextId) (i : SlotId) : Bool := s.unit.slots[i].ownedBy k && s.withdrawable i

/-- The state with other slots and other cells of slots. -/
def State.withSlots (s : State) (slots : Vector Slot 16) (urgent command : List UnitCell) : State :=
  { s with unit := { s.unit with slots }, dport := { s.dport with urgent, command } }

/-- The state once those of some slots that a context may withdraw are FREE. -/
def State.withdrawn (s : State) (k : ContextId) (js : List SlotId) : State :=
  s.withSlots (tableDone s.unit.slots (fun i => if s.leaving k i then {} else s.unit.slots[i]) js)
    (s.dport.urgent.filter fun q => !(decide (q.slot ∈ js) && s.leaving k q.slot))
    (s.dport.command.filter fun q => !(decide (q.slot ∈ js) && s.leaving k q.slot))

theorem head?_filter_of_head {α : Type} {p : α → Bool} {xs : List α} (h : ∀ x ∈ xs.head?, p x = true) : (xs.filter p).head? = xs.head? := by
  cases xs with
  | nil => rfl
  | cons x xs => rw [List.filter_cons_of_pos (h x rfl)]; rfl

/-- A cell that is being sent stays where it is, so that the slots that may be withdrawn stay the same. -/
theorem State.leaving_withdrawn {s : State} {k : ContextId} {js : List SlotId} {i : SlotId} (h : i ∉ js) :
    (s.withdrawn k js).leaving k i = s.leaving k i := by
  have hslot : (s.withdrawn k js).unit.slots[i] = s.unit.slots[i] := (tableDone_get _ _ _ i).trans (if_neg h)
  have hkept (qs : List UnitCell) (hsent : ∀ q ∈ qs.head?, s.inTransmission q.slot = true) :
      (qs.filter fun q => !(decide (q.slot ∈ js) && s.leaving k q.slot)).head? = qs.head? := by
    refine head?_filter_of_head fun q hq => ?_
    have hstays : s.leaving k q.slot = false := by
      rw [State.leaving, State.withdrawable, hsent q hq]
      simp
    rw [hstays, Bool.and_false]
    rfl
  have hline : (s.withdrawn k js).inTransmission i = s.inTransmission i := by
    rw [Bool.eq_iff_iff, State.inTransmission_iff, State.inTransmission_iff]
    refine or_congr (and_congr_right fun hline => ?_) (and_congr_right fun hline => ?_)
    · have hhead : (s.withdrawn k js).dport.urgent.head? = s.dport.urgent.head? :=
        hkept _ fun q hq => (s.inTransmission_iff q.slot).mpr (.inl ⟨hline, q, hq, rfl⟩)
      rw [hhead]
    · have hhead : (s.withdrawn k js).dport.command.head? = s.dport.command.head? :=
        hkept _ fun q hq => (s.inTransmission_iff q.slot).mpr (.inr ⟨hline, q, hq, rfl⟩)
      rw [hhead]
  have hpair : (s.withdrawn k js).inCommittedPair i = s.inCommittedPair i := by
    rw [Bool.eq_iff_iff, State.inCommittedPair_iff, State.inCommittedPair_iff]
    constructor
    · rintro ⟨q, hq, hi, hc⟩
      exact ⟨q, (List.mem_filter.mp hq).1, hi, hc⟩
    · rintro ⟨q, hq, hi, hc⟩
      refine ⟨q, List.mem_filter.mpr ⟨hq, ?_⟩, hi, hc⟩
      rw [hi, decide_eq_false h]
      rfl
  rw [State.leaving, State.leaving, State.withdrawable, State.withdrawable, hslot, hline, hpair]

theorem State.withdrawn_step {s : State} {k : ContextId} {js : List SlotId} {i : SlotId} (h : i ∉ js) :
    (if (s.withdrawn k js).unit.slots[i].ownedBy k ∧ (s.withdrawn k js).withdrawable i then (s.withdrawn k js).withdrawSlot i
      else s.withdrawn k js) = s.withdrawn k (js ++ [i]) := by
  have hleave : ((s.withdrawn k js).unit.slots[i].ownedBy k = true ∧ (s.withdrawn k js).withdrawable i = true) ↔ s.leaving k i = true := by
    rw [← State.leaving_withdrawn h, State.leaving, Bool.and_eq_true]
  have hslots : put (s.withdrawn k js).unit.slots i (if s.leaving k i then {} else s.unit.slots[i])
      = (s.withdrawn k (js ++ [i])).unit.slots := put_tableDone s.unit.slots (fun i => if s.leaving k i then {} else s.unit.slots[i]) js i
  have hqueue (qs : List UnitCell) : qs.filter (fun q => !(decide (q.slot ∈ js ++ [i]) && s.leaving k q.slot)) =
      if s.leaving k i = true then (qs.filter fun q => !(decide (q.slot ∈ js) && s.leaving k q.slot)).filter fun q => q.slot ≠ i
      else qs.filter fun q => !(decide (q.slot ∈ js) && s.leaving k q.slot) := by
    split
    next hi =>
      rw [List.filter_filter]
      refine List.filter_congr fun q _ => ?_
      by_cases hq : q.slot = i
      · simp [hq, hi]
      · simp [hq]
    next hi =>
      refine List.filter_congr fun q _ => ?_
      by_cases hq : q.slot = i
      · simp [hq, hi]
      · simp [hq]
  by_cases hi : s.leaving k i = true
  · rw [if_pos (hleave.mpr hi)]
    rw [if_pos hi] at hslots
    have hmore : s.withdrawn k (js ++ [i]) = s.withSlots (s.withdrawn k (js ++ [i])).unit.slots _ _ := rfl
    rw [hmore, ← hslots, hqueue, hqueue, if_pos hi, if_pos hi]
    rfl
  · rw [if_neg (mt hleave.mp hi)]
    rw [if_neg hi] at hslots
    have hsame : put (s.withdrawn k js).unit.slots i s.unit.slots[i] = (s.withdrawn k js).unit.slots := by
      have hget : (s.withdrawn k js).unit.slots[i] = s.unit.slots[i] := (tableDone_get _ _ _ i).trans (if_neg h)
      rw [← hget]
      exact put_same _ _
    have hmore : s.withdrawn k (js ++ [i]) = s.withSlots (s.withdrawn k (js ++ [i])).unit.slots _ _ := rfl
    rw [hmore, ← hslots, hsame, hqueue, hqueue, if_neg hi, if_neg hi]
    rfl

theorem State.withdrawn_nil (s : State) (k : ContextId) : s.withdrawn k [] = s := by
  have hkeep (qs : List UnitCell) : qs.filter (fun q => !(decide (q.slot ∈ ([] : List SlotId)) && s.leaving k q.slot)) = qs :=
    List.filter_eq_self.mpr fun q _ => by simp
  rw [State.withdrawn, tableDone_nil, hkeep, hkeep]
  rfl

/-- A context's withdrawal as one change of the state. -/
theorem State.withdrawContext_eq (s : State) (k : ContextId) : s.withdrawContext k =
    State.withdrawn { s with unit := { s.unit with waiting := s.unit.waiting.filter fun q => !q.owner.ofContext k } } k
      (List.finRange 16) := by
  have hfold (t : State) (js rest : List SlotId) (h : (js ++ rest).Nodup) :
      rest.foldl (fun s i => if s.unit.slots[i].ownedBy k ∧ s.withdrawable i then s.withdrawSlot i else s) (t.withdrawn k js)
        = t.withdrawn k (js ++ rest) := by
    induction rest generalizing js with
    | nil => rw [List.append_nil]; rfl
    | cons i rest ih =>
      have hfresh : i ∉ js := fun hi => (List.disjoint_of_nodup_append h) hi List.mem_cons_self
      have hmove : js ++ i :: rest = (js ++ [i]) ++ rest := by rw [List.append_assoc]; rfl
      rw [List.foldl_cons, State.withdrawn_step hfresh, hmove, ih (js ++ [i]) (hmove ▸ h)]
  have hall := hfold { s with unit := { s.unit with waiting := s.unit.waiting.filter fun q => !q.owner.ofContext k } } []
    (List.finRange 16) (List.nodup_finRange 16)
  rw [State.withdrawn_nil] at hall
  exact hall

theorem State.withdrawContext_parts (s : State) (k : ContextId) : s.withdrawContext k = { s with
    unit := (s.withdrawContext k).unit, dport := (s.withdrawContext k).dport } := by
  rw [State.withdrawContext_eq]
  rfl

end Sys2Proof.Machine
end

section

/-! ### ABORT_RETUNE, the live change, RELEASE and UNDEFINE (R83, R84, R116, R117) -/

namespace Sys2Proof.Machine

/-! The closing before the commit (R109) -/

/-- The context as its closing before the commit leaves it. -/
def Context.closed (c : Context) : Context :=
  { c with stage := .closing, newEntry := none, preloadRack := none, preloadPortable := none }

/-- The state once a context is CLOSING and its slots not begun are withdrawn. -/
def State.closingEarly (s : State) (k : ContextId) : State := (s.setContext k s.contexts[k].closed).withdrawContext k

/-- The state once the CANCELs of a closing context are asked for. -/
def State.cancelled (s : State) (k : ContextId) : State :=
  ((s.closingEarly k).askCancelOf k .rack s.contexts[k].preloadRack).askCancelOf k .portable s.contexts[k].preloadPortable

theorem State.closeEarly_eq (s : State) (k : ContextId) : s.closeEarly k = (s.cancelled k).freeIfDone k := rfl

theorem State.askCancelOf_parts (s : State) (k : ContextId) (side : Side) (unit : Option Byte) :
    s.askCancelOf k side unit = { s with unit := (s.askCancelOf k side unit).unit } := by
  cases unit with
  | none => rfl
  | some u => exact s.askSlot_parts _

theorem State.claims_askCancelOf {s : State} {k : ContextId} (h : s.claims k) (side : Side) (unit : Option Byte) :
    (s.askCancelOf k side unit).claims k := by
  cases unit with
  | none => exact h
  | some u => exact State.claims_askSlot h _

theorem State.claims_cancelAsked (s : State) {k : ContextId} (side : Side) {unit : Option Byte} (h : unit ≠ none) :
    (s.askCancelOf k side unit).claims k := by
  cases unit with
  | none => exact absurd rfl h
  | some u => exact State.claims_asked s (side := side) rfl

theorem State.cancelled_contexts (s : State) (k : ContextId) : (s.cancelled k).contexts = put s.contexts k s.contexts[k].closed := by
  rw [State.cancelled, State.askCancelOf_parts, State.askCancelOf_parts, State.closingEarly, State.withdrawContext_parts]
  rfl

theorem State.cancelled_context (s : State) (k : ContextId) : (s.cancelled k).contexts[k] = s.contexts[k].closed := by
  rw [State.cancelled_contexts]
  exact put_eq _ _ _

theorem State.holdsSlot_cancelled {s : State} {k : ContextId}
    (h : s.contexts[k].preloadRack ≠ none ∨ s.contexts[k].preloadPortable ≠ none) : (s.cancelled k).holdsSlot k = true :=
  State.holdsSlot_of_claims (h.elim (fun hr => State.claims_askCancelOf (State.claims_cancelAsked _ .rack hr) _ _)
    (State.claims_cancelAsked _ .portable))

theorem State.closeEarly_of_held {s : State} {k : ContextId}
    (h : (s.cancelled k).holdsSlot k = true ∨ s.contexts[k].coordinating = true) : s.closeEarly k = s.cancelled k := by
  have hcoord : (s.cancelled k).contexts[k].coordinating = s.contexts[k].coordinating := by
    rw [State.cancelled_context]
    rfl
  exact State.freeIfDone_of_held (h.imp id hcoord.trans)

theorem State.closeEarly_of_done {s : State} {k : ContextId} (h : (s.cancelled k).holdsSlot k = false)
    (hcoord : s.contexts[k].coordinating = false) :
    s.closeEarly k = State.testDrain { s.cancelled k with contexts := put s.contexts k {} } := by
  have hstage : (s.cancelled k).contexts[k].stage = .closing := by
    rw [State.cancelled_context]
    rfl
  have hno : (s.cancelled k).contexts[k].coordinating = false := by
    rw [State.cancelled_context]
    exact hcoord
  have hput : put (s.cancelled k).contexts k {} = put s.contexts k ({} : Context) := by
    rw [State.cancelled_contexts]
    exact put_put _ _ _ _
  rw [State.closeEarly_eq, State.freeIfDone_of_done hstage h hno, State.setContext, hput]

theorem State.withdrawContext_get (s : State) (k : ContextId) (i : SlotId) :
    (s.withdrawContext k).unit.slots[i] = if s.leaving k i then {} else s.unit.slots[i] := by
  rw [State.withdrawContext_eq]
  exact (tableDone_get _ _ _ i).trans (if_pos (List.mem_finRange i))

/-- What a withdrawal changes: the waiting requests, the slots and the two queues of commands. -/
theorem State.withdrawContext_spelled (s : State) (k : ContextId) : s.withdrawContext k = { s with
    unit := { s.unit with waiting := s.unit.waiting.filter fun q => !q.owner.ofContext k
                          slots := Vector.ofFn fun i => if s.leaving k i = true then {} else s.unit.slots[i] }
    dport := { s.dport with urgent := s.dport.urgent.filter fun q => !s.leaving k q.slot
                            command := s.dport.command.filter fun q => !s.leaving k q.slot } } := by
  have hall (i : SlotId) : decide (i ∈ List.finRange 16) = true := decide_eq_true (List.mem_finRange i)
  rw [State.withdrawContext_eq, State.withdrawn, tableDone]
  simp only [hall, Bool.true_and, List.mem_finRange, if_true]
  rfl

/-! The request goes back to the retune queue (R88, R116) -/

theorem State.queued_iff (s : State) (l : LinkId) : s.queued l = true ↔ ∃ e ∈ s.retuneQueue, e.link = l := by
  simp [State.queued]

/-- What a retune given back is told with. -/
def Context.heldDetail (c : Context) : List Byte := u8 c.reason.code ++ u8 c.target.code ++ u32 c.target.freq

theorem State.giveBack_of_merged {s t : State} {k : ContextId} {stage : RetuneStage} (hstage : s.contexts[k].stage.named = stage)
    (ht : s.settleEarly k .returned stage = t) (h : t.queued s.contexts[k].link = true) : s.giveBack k = t.closeEarly k := by
  simp only [State.giveBack, hstage, ht, State.returnRetune, if_pos h]

theorem State.giveBack_of_returned {s t : State} {k : ContextId} {stage : RetuneStage} (hstage : s.contexts[k].stage.named = stage)
    (ht : s.settleEarly k .returned stage = t) (h : ¬ t.queued s.contexts[k].link = true) (hroom : t.retuneQueue.length < 16) :
    s.giveBack k = (State.raise { t with retuneQueue := t.retuneQueue ++
        [{ link := s.contexts[k].link, target := s.contexts[k].target, reason := s.contexts[k].reason, force := s.contexts[k].force
           held := t.links[s.contexts[k].link].holds s.contexts[k].reason s.contexts[k].force }] }
      .retuneHeld (linkByte s.contexts[k].link) s.contexts[k].heldDetail).closeEarly k := by
  have hcap : t.retuneQueue.length < Config.retuneCap := hroom
  simp only [State.giveBack, hstage, ht, State.returnRetune, if_neg h, if_pos hcap]
  rfl

theorem State.giveBack_of_dropped {s t : State} {k : ContextId} {stage : RetuneStage} (hstage : s.contexts[k].stage.named = stage)
    (ht : s.settleEarly k .returned stage = t) (h : ¬ t.queued s.contexts[k].link = true) (hfull : 16 ≤ t.retuneQueue.length) :
    s.giveBack k = (t.raise .retuneDropped (linkByte s.contexts[k].link) s.contexts[k].heldDetail).closeEarly k := by
  have hcap : ¬ t.retuneQueue.length < Config.retuneCap := Nat.not_lt.mpr hfull
  simp only [State.giveBack, hstage, ht, State.returnRetune, if_neg h, if_neg hcap]
  rfl

/-- A stage before the commit of its SWITCH pair, with its name (R79, R117). -/
def Context.early (c : Context) (stage : RetuneStage) : Prop :=
  c.stage = .coordinate ∧ stage = .coordinate ∨ c.stage = .prepare ∧ stage = .prepare
    ∨ c.stage = .switch ∧ c.committed = false ∧ stage = .switch

theorem Context.named_of_early {c : Context} {stage : RetuneStage} (h : c.early stage) : c.stage.named = stage := by
  rcases h with ⟨hc, rfl⟩ | ⟨hc, rfl⟩ | ⟨hc, -, rfl⟩ <;> rw [hc] <;> rfl

theorem State.liveChange_of_early {s : State} {k : ContextId} {stage : RetuneStage} (h : s.contexts[k].early stage) :
    s.liveChange k = s.giveBack k := by
  unfold State.liveChange
  rcases h with ⟨hc, -⟩ | ⟨hc, -⟩ | ⟨hc, hno, -⟩
  · simp only [hc]
  · simp only [hc]
  · simp only [hc, hno, Bool.false_eq_true, if_false]

theorem State.liveChange_of_late {s : State} {k : ContextId} (h : s.contexts[k].stage = .free ∨ s.contexts[k].stage = .confirm
    ∨ s.contexts[k].stage = .revert ∨ s.contexts[k].stage = .closing ∨ s.contexts[k].stage = .switch ∧ s.contexts[k].committed = true) :
    s.liveChange k = s := by
  unfold State.liveChange
  rcases h with hc | hc | hc | hc | ⟨hc, hyes⟩
  · simp only [hc]
  · simp only [hc]
  · simp only [hc]
  · simp only [hc]
  · simp only [hc, hyes, if_true]

theorem Link.holds_eq (r : Link) (reason : Reason) (force : Bool) : r.holds reason force =
    decide (r.live = true ∧ force = false ∧ ¬ (reason = .fade ∧ r.flags.switchWhenLive = true)) := by
  rw [Bool.eq_iff_iff, decide_eq_true_iff, Link.holds]
  simp only [Bool.and_eq_true, Bool.not_eq_true', Bool.and_eq_false_iff, beq_eq_false_iff_ne, ne_eq, and_assoc, not_and,
    Bool.not_eq_true]
  refine and_congr_right fun _ => and_congr_right fun _ => ?_
  by_cases hr : reason = .fade <;> simp [hr]

/-! ABORT_RETUNE (R117) -/

/-- A retune CANCELLED before its commit. -/
def State.cancelRetune (s : State) (k : ContextId) (stage : RetuneStage) (l : LinkId) : State :=
  ((s.settleEarly k .cancelled stage).raise .retuneCancelled (linkByte l)
    (u8 stage.code ++ u8 (conditionCode s.contexts[k].rack) ++ u8 (conditionCode s.contexts[k].portable))).closeEarly k

theorem State.abortContext_of_early {s : State} {l : LinkId} {k : ContextId} {stage : RetuneStage} (hserves : s.serving l = some k)
    (h : s.contexts[k].early stage) (removed : Bool) : s.abortContext l removed = (s.cancelRetune k stage l, .ok) := by
  have hnamed := Context.named_of_early h
  unfold State.abortContext
  rw [hserves]
  simp only [hnamed]
  rcases h with ⟨hc, -⟩ | ⟨hc, -⟩ | ⟨hc, hno, -⟩
  · rw [hc]; rfl
  · rw [hc]; rfl
  · rw [hc]
    simp only [hno, Bool.false_eq_true, if_false]
    rfl

theorem State.abortContext_of_late {s : State} {l : LinkId} {k : ContextId} (hserves : s.serving l = some k)
    (h : s.contexts[k].stage = .confirm ∨ s.contexts[k].stage = .revert
      ∨ s.contexts[k].stage = .switch ∧ s.contexts[k].committed = true) (removed : Bool) :
    s.abortContext l removed = (s, .tooLate) := by
  unfold State.abortContext
  rw [hserves]
  rcases h with hc | hc | ⟨hc, hyes⟩
  · simp only [hc]
  · simp only [hc]
  · simp only [hc, hyes, if_true]

theorem State.abortContext_of_closing {s : State} {l : LinkId} {k : ContextId} (hserves : s.serving l = some k)
    (h : s.contexts[k].stage = .closing) (removed : Bool) :
    s.abortContext l removed = (s, if removed then .ok else .badState) := by
  unfold State.abortContext
  rw [hserves]
  simp only [h]

theorem State.abortContext_of_none {s : State} {l : LinkId} (hserves : s.serving l = none) (removed : Bool) :
    s.abortContext l removed = (s, if removed then .ok else .badState) := by
  unfold State.abortContext
  rw [hserves]

/-! What leaves the requests alone -/

theorem State.raise_requests (s : State) (n : Notice) (object : Byte) (detail : List Byte) :
    (s.raise n object detail).agent.requests = s.agent.requests := by rw [State.raise_eq]

theorem State.testDrain_requests (s : State) : s.testDrain.agent.requests = s.agent.requests := by
  unfold State.testDrain
  split
  · rw [State.raise_requests]
  · rfl

theorem State.closeEarly_requests (s : State) (k : ContextId) : (s.closeEarly k).agent.requests = s.agent.requests := by
  have hcancelled : (s.cancelled k).agent.requests = s.agent.requests := by
    rw [State.cancelled, State.askCancelOf_parts, State.askCancelOf_parts, State.closingEarly, State.withdrawContext_parts]
    rfl
  rw [State.closeEarly_eq, State.freeIfDone]
  split
  · rw [State.testDrain_requests]
    exact hcancelled
  · exact hcancelled

theorem State.cancelRetune_requests (s : State) (k : ContextId) (stage : RetuneStage) (l : LinkId) :
    (s.cancelRetune k stage l).agent.requests = s.agent.requests := by
  rw [State.cancelRetune, State.closeEarly_requests, State.raise_requests, State.settleEarly_parts]

end Sys2Proof.Machine
end

section

/-! ### The statement of O35 -/

namespace Sys2Proof.Machine

theorem Slot.ownedBy_eq (x : Slot) (k : ContextId) :
    x.ownedBy k = (x.owner == some (.context k .rack) || x.owner == some (.context k .portable)) := by
  rw [Bool.eq_iff_iff, Slot.ownedBy_iff, Bool.or_eq_true, beq_iff_eq, beq_iff_eq]
  constructor
  · rintro ⟨_ | _, h⟩
    · exact .inl h
    · exact .inr h
  · exact fun h => h.elim (⟨.rack, ·⟩) (⟨.portable, ·⟩)

theorem Owner.ofContext_eq (o : Owner) (k : ContextId) :
    (!o.ofContext k) = (!decide (o = .context k .rack) && !decide (o = .context k .portable)) := by
  rw [← Bool.not_or, ← Bool.decide_or]
  refine congrArg _ ?_
  rw [Bool.eq_iff_iff, Owner.ofContext_iff, decide_eq_true_iff]
  constructor
  · rintro ⟨_ | _, h⟩
    · exact .inl h
    · exact .inr h
  · exact fun h => h.elim (⟨.rack, ·⟩) (⟨.portable, ·⟩)

/-- ABORT_RETUNE by the stage of the context that serves its link. -/
theorem State.abortRetune_eq {s : State} {r : Request} {l : LinkId} (hl : u8At r.args 0 = l.val) {t : State} {res : Result}
    (h : (s.removeEntry l).abortContext l (s.queued l) = (t, res)) : s.abortRetune r = t.answer r res [] := by
  simp only [State.abortRetune, indexOf?_of_eq hl, h]

theorem State.onCarrier_cases {st : LinkState} (h : st = .up ∨ st = .faded ∨ st = .lost) :
    st ≠ .unused ∧ st ≠ .idle ∧ st ≠ .assigning ∧ st ≠ .retuning := by
  rcases h with rfl | rfl | rfl <;> decide

/-- RELEASE of a link on its carrier comes to its liveness. -/
theorem State.releaseLink_of_carrier {s : State} {r : Request} {l : LinkId} (hl : u8At r.args 0 = l.val)
    (hst : s.links[l].state = .up ∨ s.links[l].state = .faded ∨ s.links[l].state = .lost) (hq : ¬ s.queued l = true) :
    s.releaseLink r = if s.links[l].live = true ∧ (!forceAt r.args 1) = true then s.answer r .live []
      else (((s.releaseOpt s.links[l].active).releaseOpt s.links[l].standby).setLinkState l .idle).answer r .ok [] := by
  obtain ⟨hunused, hidle, hassigning, hretuning⟩ := State.onCarrier_cases hst
  rw [State.releaseLink, indexOf?_of_eq hl]
  dsimp only
  rw [if_neg hunused, if_neg (by rintro (h | h | h); exacts [hassigning h, hretuning h, hq h]), if_neg hidle]

theorem State.released_requests (s : State) (a b : Option EntryId) (l : LinkId) :
    (((s.releaseOpt a).releaseOpt b).setLinkState l .idle).agent.requests = s.agent.requests := by
  rw [State.setLinkState_idle, State.releaseOpt_parts]
  show ((s.releaseOpt a).releaseOpt b).agent.requests = _
  rw [State.releaseOpt_parts, State.releaseOpt_parts]

/-- Settles O35. -/
theorem abortReleaseUndefine : Obligations.AbortReleaseUndefine := by
  have habortRow {r : Request} (hcode : r.code = 0x32) (hlen : 1 ≤ r.args.length) : hasCode 0x32 r = true :=
    hasCode_of_args r 0x32 1 hcode (by decide) rfl hlen
  have hreleaseRow {r : Request} (hcode : r.code = 0x34) (hlen : 2 ≤ r.args.length) : hasCode 0x34 r = true :=
    hasCode_of_args r 0x34 2 hcode (by decide) rfl hlen
  have hundefineRow {r : Request} (hcode : r.code = 0x35) (hlen : 1 ≤ r.args.length) : hasCode 0x35 r = true :=
    hasCode_of_args r 0x35 1 hcode (by decide) rfl hlen
  refine ⟨fun s r h hl => ⟨fun hcode hlen => ?_, fun hcode hlen => ?_, fun hcode hlen => ?_⟩, fun s r l h hcode hlen hl => ?_, fun s k => ?_,
    fun s k ending stage => ⟨fun hp => State.settleEarly_of_moved hp ending stage, fun hp => State.settleEarly_of_idle hp ending stage⟩, fun s k => ?_, fun s r l h hl => ?_⟩
  · exact exec_answer (f := State.abortRetune) h rfl (habortRow hcode hlen) (by rw [State.abortRetune, indexOf?_of_le hl]) rfl
  · exact exec_answer (f := State.releaseLink) h rfl (hreleaseRow hcode hlen) (by rw [State.releaseLink, indexOf?_of_le hl]) rfl
  · exact exec_answer (f := State.undefine) h rfl (hundefineRow hcode hlen) (by rw [State.undefine, indexOf?_of_le hl]) rfl
  · intro t
    have hrow := habortRow hcode hlen
    have hserving : t.serving l = s.serving l := rfl
    have hanswer {u : State} {res : Result} (hu : t.abortContext l (s.queued l) = (u, res))
        (hreq : u.agent.requests = s.agent.requests) : exec .abortRetune s = .next (u.answer r res []) :=
      exec_answer (f := State.abortRetune) h rfl hrow (State.abortRetune_eq hl hu) hreq
    refine ⟨fun hno => hanswer (State.abortContext_of_none (hserving.trans ((s.serving_eq_none_iff l).mpr fun k hk => ?_)) _) rfl,
      fun k hk hlate => hanswer (State.abortContext_of_late (hserving.trans hk) hlate _) rfl,
      fun k hk hclosing => hanswer (State.abortContext_of_closing (hserving.trans hk) hclosing _) rfl,
      fun k stage hk hearly => hanswer (State.abortContext_of_early (hserving.trans hk) hearly _) ?_⟩
    · exact (hno k).elim hk.1 (· hk.2)
    · exact State.cancelRetune_requests t k stage l
  · intro c
    refine ⟨fun stage hearly => ?_, State.liveChange_of_late⟩
    intro t held detail waits
    have hnamed : s.contexts[k].stage.named = stage := Context.named_of_early hearly
    have hwaits : waits ↔ t.queued c.link = true := (t.queued_iff c.link).symm
    refine ⟨State.liveChange_of_early hearly, fun hw => State.giveBack_of_merged hnamed rfl (hwaits.mp hw), fun hw hroom => ?_,
      fun hw hfull => State.giveBack_of_dropped hnamed rfl (mt hwaits.mpr hw) hfull⟩
    have hheld : t.links[c.link].holds c.reason c.force = decide held := Link.holds_eq _ _ _
    rw [← hheld]
    exact State.giveBack_of_returned hnamed rfl (mt hwaits.mpr hw) hroom
  · intro c x t sending gone cancel u
    have hu : u = s.cancelled k := by
      have hask (v : State) (side : Side) (unit : Option Byte) : cancel v side unit = v.askCancelOf k side unit := by
        cases unit <;> rfl
      show cancel (cancel t .rack c.preloadRack) .portable c.preloadPortable = s.cancelled k
      rw [hask, hask]
      rfl
    rw [hu]
    refine ⟨State.closeEarly_of_held, State.closeEarly_of_done, State.holdsSlot_cancelled, ?_⟩
    have hgone (i : SlotId) : (s.setContext k x).leaving k i = gone i := by
      have hline : (s.setContext k x).inTransmission i = sending i := by
        unfold State.inTransmission sending
        show (match s.dport.line with
          | .urgent => s.dport.urgent.head?.any fun q : UnitCell => decide (q.slot = i)
          | .command => s.dport.command.head?.any fun q : UnitCell => decide (q.slot = i)
          | .idle | .frame _ | .audio | .forward => false) = _
        cases s.dport.line <;> rfl
      rw [State.leaving, State.withdrawable, hline, Slot.ownedBy_eq]
      simp only [gone, Bool.and_assoc]
      rfl
    have hsteps : t = (s.setContext k x).withdrawContext k := rfl
    rw [hsteps, State.withdrawContext_spelled]
    simp only [hgone, Owner.ofContext_eq]
    rfl
  · intro st waits
    have hwaits : waits ↔ s.queued l = true := (s.queued_iff l).symm
    refine ⟨fun hcode hlen => ?_, fun hcode hlen => ?_⟩
    · have hanswer {u : State} {res : Result} (hf : s.releaseLink r = u.answer r res [])
          (hreq : u.agent.requests = s.agent.requests) : exec .release s = .next (u.answer r res []) :=
        exec_answer (f := State.releaseLink) h rfl (hreleaseRow hcode hlen) hf hreq
      have hbusy (hno : ¬ waits) (hst : st = .idle) : ¬ (s.links[l].state = .assigning ∨ s.links[l].state = .retuning ∨ s.queued l = true) := by
        rintro (hx | hx | hx)
        · exact absurd (hx.symm.trans hst) (by decide)
        · exact absurd (hx.symm.trans hst) (by decide)
        · exact hno (hwaits.mpr hx)
      refine ⟨fun hst => hanswer ?_ rfl, fun hst hb => hanswer ?_ rfl, fun hst hno => hanswer ?_ rfl,
        fun hst hno hlive hforce => hanswer ?_ rfl, fun hst hno hfree => hanswer ?_ (s.released_requests _ _ l)⟩
      · rw [State.releaseLink, indexOf?_of_eq hl]
        exact if_pos hst
      · rw [State.releaseLink, indexOf?_of_eq hl]
        exact (if_neg hst).trans (if_pos (hb.imp id (Or.imp id hwaits.mp)))
      · rw [State.releaseLink, indexOf?_of_eq hl]
        exact (if_neg fun hx => absurd (hx.symm.trans hst) (by decide)).trans ((if_neg (hbusy hno hst)).trans (if_pos hst))
      · rw [State.releaseLink_of_carrier hl hst (mt hwaits.mpr hno)]
        exact if_pos ⟨hlive, by simp [forceAt, hforce]⟩
      · rw [State.releaseLink_of_carrier hl hst (mt hwaits.mpr hno)]
        refine if_neg fun hl' => hfree.elim (fun hf => Bool.false_ne_true (hf.symm.trans hl'.1)) fun hf => ?_
        simp [forceAt] at hl'
        exact hf hl'.2
    · have hanswer {u : State} {res : Result} (hf : s.undefine r = u.answer r res [])
          (hreq : u.agent.requests = s.agent.requests) : exec .undefine s = .next (u.answer r res []) :=
        exec_answer (f := State.undefine) h rfl (hundefineRow hcode hlen) hf hreq
      refine ⟨fun hst => hanswer ?_ rfl, fun hst hw => hanswer ?_ rfl, fun hst hno => hanswer ?_ rfl⟩
      · rw [State.undefine, indexOf?_of_eq hl]
        exact if_pos hst
      · rw [State.undefine, indexOf?_of_eq hl]
        exact (if_neg (not_not.mpr hst)).trans (if_pos (hwaits.mp hw))
      · rw [State.undefine, indexOf?_of_eq hl]
        exact (if_neg (not_not.mpr hst)).trans (if_neg (mt hwaits.mpr hno))

end Sys2Proof.Machine
end

section

/-! ### The switch frame, the confirmation, and the end of a failed retune (R111 to R115, R118) -/

namespace Sys2Proof.Machine

/-- A state change of an entry, and a restart of a monitor, leave alone what these parts hold. -/
theorem State.changeOpt_frame (s : State) (e : Option EntryId) (st : CarrierState) : (s.changeOpt e st).timing = s.timing
    ∧ (s.changeOpt e st).confirmWindow = s.confirmWindow := by
  rw [s.changeOpt_parts e st]
  exact ⟨rfl, rfl⟩

theorem State.releaseOpt_frame (s : State) (e : Option EntryId) : (s.releaseOpt e).timing = s.timing
    ∧ (s.releaseOpt e).confirmWindow = s.confirmWindow := by
  rw [s.releaseOpt_parts e]
  exact ⟨rfl, rfl⟩

/-- A context in the state a switch frame, or a revert frame, leaves. -/
theorem State.modContext_frame {s t : State} (htiming : t.timing = s.timing) (hwindow : t.confirmWindow = s.confirmWindow)
    (k : ContextId) (f : Option Half → Context → Context) :
    (t.modContext k fun x => f (some (t.timing.frame + BitVec.ofNat 16 t.confirmWindow)) x)
      = t.modContext k fun x => f (some (s.timing.frame + BitVec.ofNat 16 s.confirmWindow)) x := by rw [htiming, hwindow]

/-! Closing after the commit -/

theorem State.close_congr {s t : State} (hunit : t.unit = s.unit) (hcontexts : t.contexts = s.contexts) (k : ContextId) : t.close k =
    if s.holdsSlot k = true ∨ s.contexts[k].coordinating = true then
      { t with contexts := put s.contexts k { s.contexts[k] with stage := .closing } }
    else State.testDrain { t with contexts := put s.contexts k {} } := by
  rw [State.close_eq, State.holdsSlot_congr hunit, hcontexts]

theorem State.raise_frame (s : State) (n : Notice) (object : Byte) (detail : List Byte) :
    (s.raise n object detail).unit = s.unit ∧ (s.raise n object detail).contexts = s.contexts
      ∧ (s.raise n object detail).engine = s.engine ∧ (s.raise n object detail).links = s.links
      ∧ (s.raise n object detail).timing = s.timing := by
  rw [State.raise_eq]
  exact ⟨rfl, rfl, rfl, rfl, rfl⟩

/-- The link of a context takes its state and its last retune result. -/
def State.settledAs (s t : State) (k : ContextId) (st : LinkState) (ending : Ending) (stage : RetuneStage) : State :=
  t.modLink s.contexts[k].link fun r => { r with state := st, last := s.lastResult k ending stage }

theorem State.settledAs_eq {s t : State} {k : ContextId} {st : LinkState} (hc : t.contexts = s.contexts) (ht : t.timing = s.timing)
    (h : st ≠ .idle) (ending : Ending) (stage : RetuneStage) :
    (t.setLinkState s.contexts[k].link st).writeResult k ending stage = s.settledAs t k st ending stage := by
  rw [State.setLinkState_of_moved h, State.writeResult_congr (s := s)
    (t := t.modLink s.contexts[k].link fun r => { r with state := st }) hc ht, State.modLink_modLink]
  rfl

/-- The detail of RETUNE_FAILED after the commit (R118). -/
def Context.failedDetail (c : Context) (stage : RetuneStage) (cause : FailCause) : List Byte :=
  u8 stage.code ++ u8 cause.code ++ u8 (conditionCode c.rack) ++ u8 (conditionCode c.portable) ++ u8 c.cause.code

theorem State.endFailed_eq {s : State} {k : ContextId} {st : LinkState} (h : st ≠ .idle) (stage : RetuneStage) (cause : FailCause) :
    s.endFailed k st stage cause =
      ((s.settledAs s k st .failed stage).raise .retuneFailed (linkByte s.contexts[k].link) (s.contexts[k].failedDetail stage cause)).close k := by
  rw [State.endFailed, State.settledAs_eq rfl rfl h]
  rfl

/-! The confirmation (R113) -/

/-- The state once a move is confirmed and told, before the backup and the closing. -/
def State.moved (s : State) (k : ContextId) : State :=
  (s.settledAs (s.releaseOpt s.contexts[k].oldEntry) k .up .done .confirm).raise .retuneDone (linkByte s.contexts[k].link)
    ([indexByte s.contexts[k].newEntry] ++ u8 s.contexts[k].target.code ++ u8 s.contexts[k].reason.code ++ u32 s.contexts[k].newFreq)

theorem State.moved_frame (s : State) (k : ContextId) : (s.moved k).unit = s.unit ∧ (s.moved k).contexts = s.contexts
    ∧ (s.moved k).engine = s.engine ∧ (s.moved k).links[s.contexts[k].link].flags = s.links[s.contexts[k].link].flags
    ∧ (s.moved k).links[s.contexts[k].link].cls = s.links[s.contexts[k].link].cls := by
  obtain ⟨active, standby, hlink⟩ := s.releaseOpt_link s.contexts[k].oldEntry s.contexts[k].link
  have hparts := s.releaseOpt_parts s.contexts[k].oldEntry
  obtain ⟨hunit, hcontexts, hengine, hlinks, -⟩ := State.raise_frame
    (s.settledAs (s.releaseOpt s.contexts[k].oldEntry) k .up .done .confirm) .retuneDone (linkByte s.contexts[k].link)
    ([indexByte s.contexts[k].newEntry] ++ u8 s.contexts[k].target.code ++ u8 s.contexts[k].reason.code ++ u32 s.contexts[k].newFreq)
  have hget : (s.settledAs (s.releaseOpt s.contexts[k].oldEntry) k .up .done .confirm).links[s.contexts[k].link]
      = { (s.releaseOpt s.contexts[k].oldEntry).links[s.contexts[k].link] with
          state := .up, last := s.lastResult k .done .confirm } := put_eq _ _ _
  refine ⟨hunit.trans ?_, hcontexts.trans ?_, hengine.trans ?_, ?_, ?_⟩
  · rw [State.settledAs, hparts]; rfl
  · rw [State.settledAs, hparts]; rfl
  · rw [State.settledAs, hparts]; rfl
  · rw [State.moved, hlinks, hget, hlink]
  · rw [State.moved, hlinks, hget, hlink]

theorem State.confirmMove_eq (s : State) (k : ContextId) : s.confirmMove k =
    (if s.contexts[k].target = .backup ∧ s.links[s.contexts[k].link].flags.autoBackup = true then
      (s.moved k).autoPick s.contexts[k].link false else s.moved k).close k := by
  have hparts := s.releaseOpt_parts s.contexts[k].oldEntry
  have hcontexts : (s.releaseOpt s.contexts[k].oldEntry).contexts = s.contexts := by rw [hparts]
  have htiming : (s.releaseOpt s.contexts[k].oldEntry).timing = s.timing := by rw [hparts]
  rw [← (s.moved_frame k).2.2.2.1, State.confirmMove, State.settledAs_eq hcontexts htiming (by decide)]
  rfl

theorem State.raiseBackupLost_eq (s : State) (l : LinkId) :
    s.raiseBackupLost l none 2 Result.queueFull.code = s.raise .backupLost (linkByte l) ([255] ++ u8 2 ++ u8 Result.queueFull.code) := rfl

theorem State.pickFiled_eq {s t : State} {l : LinkId} (hengine : t.engine = s.engine) (hcls : t.links[l].cls = s.links[l].cls) :
    t.pickFiled l = { t with engine := { s.engine with queue := s.engine.queue ++
      [{ kind := .pickBackup, filer := .auto, link := some l, target := .nextCandidate, cls := s.links[l].cls }] } } := by
  rw [State.pickFiled, State.placeCoord, hengine, hcls]

/-! Stages -/

theorem Context.confirming_iff (c : Context) : c.confirming = true ↔ c.stage = .confirm ∨ c.stage = .revert ∧ c.reverted = true := by
  simp [Context.confirming]

/-- Settles O44. -/
theorem switchFrameSwitches : Obligations.SwitchFrameSwitches := by
  refine ⟨fun s k hdue hstage hcommitted hframe => ?_, fun s k => ?_, fun s k => ?_⟩
  · intro c switched
    have hrow : exec (.switchFrame k) s = .next
        (if 2 ≤ c.completions then switched.modContext k fun x =>
            { x with stage := .confirm, deadline := some (switched.timing.frame + BitVec.ofNat 16 switched.confirmWindow) }
          else if c.oldEntry = none then switched.endLost k .switch .pairLate else switched.enterRevert k .pairLate) := by
      refine congrArg Host.Outcome.next ((State.dueStep_of_mem hdue).trans ?_)
      exact if_pos ⟨hstage, hcommitted, hframe⟩
    have hswitched : switched.timing = s.timing ∧ switched.confirmWindow = s.confirmWindow := by
      obtain ⟨h1, h2⟩ := State.changeOpt_frame { s with due := s.due.erase (.switchFrame k) } c.newEntry .active
      obtain ⟨h3, h4⟩ := State.changeOpt_frame (({ s with due := s.due.erase (.switchFrame k) } : State).changeOpt c.newEntry .active)
        c.oldEntry .retiring
      exact ⟨h3.trans h1, h4.trans h2⟩
    refine ⟨fun hdone => hrow.trans (congrArg _ ((if_pos hdone).trans ?_)),
      fun hlate hold => hrow.trans (congrArg _ ((if_neg (Nat.not_le.mpr hlate)).trans (if_neg hold))),
      fun hlate hold => hrow.trans (congrArg _ ((if_neg (Nat.not_le.mpr hlate)).trans (if_pos hold)))⟩
    exact State.modContext_frame hswitched.1 hswitched.2 k fun d x => { x with stage := .confirm, deadline := d }
  · intro c u done wants waits place closed
    have hdone : done = s.moved k := rfl
    obtain ⟨hunit, hcontexts, hengine, -, hcls⟩ := s.moved_frame k
    have hclosed {v : State} (hv : v.unit = s.unit) (hvc : v.contexts = s.contexts) : v.close k = closed v := State.close_congr hv hvc k
    have hwaits : (s.moved k).pickWaits c.link ↔ waits := State.pickWaits_congr hengine c.link
    have hplace : (s.moved k).otherPlace ↔ place := State.otherPlace_congr hengine
    rw [State.confirmMove_eq, hdone]
    refine ⟨fun hno => ?_, fun hw hnot hp => ?_, fun hw hnot hp => ?_⟩
    · have hpick : (if wants then (s.moved k).autoPick c.link false else s.moved k) = s.moved k := by
        split
        next hw => exact State.autoPick_of_waits (hwaits.mpr (hno.resolve_left (not_not.mpr hw))) false
        next => rfl
      exact (congrArg (fun v => State.close v k) hpick).trans (hclosed hunit hcontexts)
    · rw [if_pos hw, State.autoPick_of_place (mt hwaits.mp hnot) (hplace.mpr hp), State.pickFiled_eq hengine hcls]
      exact hclosed hunit hcontexts
    · obtain ⟨hru, hrc, -⟩ := State.raise_frame (s.moved k) .backupLost (linkByte c.link) ([255] ++ u8 2 ++ u8 Result.queueFull.code)
      rw [if_pos hw, State.autoPick_of_noPlace (mt hwaits.mp hnot) (mt hplace.mp hp), State.raiseBackupLost_eq]
      exact hclosed (hru.trans hunit) (hrc.trans hcontexts)
  · intro c
    refine ⟨fun hst hprofile hdead => ?_, fun hst hrev hprofile hdead => ?_, fun hno => if_neg fun ⟨hconf, hprofile, hdead⟩ => ?_⟩
    · exact (if_pos ⟨(Context.confirming_iff _).mpr (.inl hst), hprofile, hdead⟩).trans (if_pos hst)
    · refine (if_pos ⟨(Context.confirming_iff _).mpr (.inr ⟨hst, hrev⟩), hprofile, hdead⟩).trans (if_neg fun hx => ?_)
      exact absurd (hst.symm.trans hx) (by decide)
    · rcases (Context.confirming_iff _).mp hconf with hst | ⟨hst, hrev⟩
      · rcases hno with h | h | ⟨h, -⟩ | ⟨h, -⟩
        · exact h hprofile
        · exact hdead h
        · exact h hst
        · exact absurd (hst.symm.trans h) (by decide)
      · rcases hno with h | h | ⟨-, h⟩ | ⟨-, h⟩
        · exact h hprofile
        · exact hdead h
        · exact h hst
        · exact Bool.false_ne_true (h.symm.trans hrev)

end Sys2Proof.Machine
end

section

/-! ### The slots of a context (R103, R108 to R110, R115), and reverts (R114, R115, R118) -/

namespace Sys2Proof.Machine

/-! Asking for a slot to both units -/

/-- The request for a slot to one unit of a link, by a context. -/
def unitRequest (k : ContextId) (side : Side) (unit : Byte) (command : List Byte) (pair : Bool) : SlotRequest :=
  { owner := .context k side, unit, command, single := pair, pair }

/-- The state once a context has asked for slots to both units, the rack unit's first. -/
def State.askBoth (s : State) (k : ContextId) (rack portable : Byte) (command : List Byte) (pair : Bool) : State :=
  (s.askSlot (unitRequest k .rack rack command pair)).askSlot (unitRequest k .portable portable command pair)

theorem State.askContext_at {s : State} {k : ContextId} {l : LinkId} (h : s.contexts[k].link = l) (side : Side) (command : List Byte)
    (pair : Bool) : s.askContext k side command pair = s.askSlot (unitRequest k side (s.links[l].unit side) command pair) := by
  subst h
  rfl

theorem State.askContext_both {s : State} {k : ContextId} {l : LinkId} (h : s.contexts[k].link = l) (command : List Byte) (pair : Bool) :
    (s.askContext k .rack command pair).askContext k .portable command pair
      = s.askBoth k s.links[l].rack s.links[l].portable command pair := by
  have hcontexts : (s.askSlot (unitRequest k .rack s.links[l].rack command pair)).contexts = s.contexts := by rw [State.askSlot_parts]
  have hlinks : (s.askSlot (unitRequest k .rack s.links[l].rack command pair)).links = s.links := by rw [State.askSlot_parts]
  have hlink : (s.askSlot (unitRequest k .rack s.links[l].rack command pair)).contexts[k].link = l := by rw [hcontexts, h]
  rw [State.askContext_at h]
  refine (State.askContext_at hlink _ _ _).trans ?_
  rw [hlinks]
  rfl

/-! The end of a slot of a context -/

/-- The context with the final condition of one unit's slot. -/
def Context.noted (c : Context) (side : Side) (cond : Condition) : Context := match side with
  | .rack => { c with rack := some cond }
  | .portable => { c with portable := some cond }

/-- The context with a unit whose PRELOAD has ended DONE. -/
def Context.preloaded (c : Context) (side : Side) (unit : Byte) : Context := match side with
  | .rack => { c with preloadRack := some unit }
  | .portable => { c with preloadPortable := some unit }

theorem Context.noted_kept (c : Context) (side : Side) (cond : Condition) : (c.noted side cond).stage = c.stage
    ∧ (c.noted side cond).link = c.link ∧ (c.noted side cond).coordinating = c.coordinating ∧ (c.noted side cond).asked = c.asked := by
  cases side <;> exact ⟨rfl, rfl, rfl, rfl⟩

theorem Context.preloaded_kept (c : Context) (side : Side) (unit : Byte) : (c.preloaded side unit).link = c.link := by cases side <;> rfl

/-- The state once a slot of a context is FREE, and the context as given. -/
def State.heard (s : State) (i : SlotId) (k : ContextId) (c : Context) : State :=
  { s with unit := { s.unit with slots := put s.unit.slots i {} }, contexts := put s.contexts k c }

theorem State.heard_context (s : State) (i : SlotId) (k : ContextId) (c : Context) : (s.heard i k c).contexts[k] = c := put_eq _ _ _

theorem State.heard_modContext (s : State) (i : SlotId) (k : ContextId) (c : Context) (f : Context → Context) :
    (s.heard i k c).modContext k f = s.heard i k (f c) := by
  rw [State.modContext, State.heard_context]
  exact congrArg (fun v => { s with unit := { s.unit with slots := put s.unit.slots i {} }, contexts := v }) (put_put _ _ _ _)

/-- The end of a slot, by the context with its condition noted. -/
theorem State.contextSlotEnded_eq (s : State) (k : ContextId) (side : Side) (unit command : Byte) (cond : Condition) :
    s.contextSlotEnded k side unit command cond =
      let u := s.modContext k fun c => c.noted side cond
      match u.contexts[k].stage with
      | .prepare =>
        if command = 0x01 then
          if cond = .done then
            let v := u.modContext k fun c => c.preloaded side unit
            if v.contexts[k].preloadRack ≠ none ∧ v.contexts[k].preloadPortable ≠ none then v.enterSwitch k else v
          else u.failPrepare k
        else u
      | .revert => u.askRevert k
      | .closing => (if command = 0x01 ∧ cond = .done then u.askCancel k side unit else u).freeIfDone k
      | .free | .coordinate | .switch | .confirm => u := by
  cases side <;> rfl

section
variable {s : State} {i : SlotId} {k : ContextId} {side : Side} (howner : s.unit.slots[i].owner = some (.context k side))
  (cond : Condition) (data : List Byte)
include howner

theorem State.endSlot_of_context : s.endSlot i cond data =
    (s.freed i).contextSlotEnded k side s.unit.slots[i].unit (byteAt s.unit.slots[i].command 0) cond := by
  have hx : (s.unit.slots[i].ended cond).owner = some (.context k side) := howner
  rw [State.endSlot_eq, State.handOver, hx]
  rfl

/-- The end of a slot comes to the stage of its context. -/
theorem State.endSlot_by_stage : s.endSlot i cond data = match s.contexts[k].stage with
    | .prepare =>
      if byteAt s.unit.slots[i].command 0 = 0x01 then
        if cond = .done then
          let c := (s.contexts[k].noted side cond).preloaded side s.unit.slots[i].unit
          if c.preloadRack ≠ none ∧ c.preloadPortable ≠ none then (s.heard i k c).enterSwitch k else s.heard i k c
        else (s.heard i k (s.contexts[k].noted side cond)).failPrepare k
      else s.heard i k (s.contexts[k].noted side cond)
    | .revert => (s.heard i k (s.contexts[k].noted side cond)).askRevert k
    | .closing =>
      (if byteAt s.unit.slots[i].command 0 = 0x01 ∧ cond = .done then
        (s.heard i k (s.contexts[k].noted side cond)).askCancel k side s.unit.slots[i].unit
      else s.heard i k (s.contexts[k].noted side cond)).freeIfDone k
    | .free | .coordinate | .switch | .confirm => s.heard i k (s.contexts[k].noted side cond) := by
  have hnoted : ((s.freed i).modContext k fun c => c.noted side cond) = s.heard i k (s.contexts[k].noted side cond) := rfl
  have hmark (c : Context) : ((s.heard i k c).modContext k fun c => c.preloaded side s.unit.slots[i].unit)
      = s.heard i k (c.preloaded side s.unit.slots[i].unit) := State.heard_modContext _ _ _ _ _
  rw [State.endSlot_of_context howner, State.contextSlotEnded_eq, hnoted]
  dsimp only
  rw [hmark, State.heard_context, State.heard_context, (Context.noted_kept _ _ _).1] <;>
    (cases s.contexts[k].stage <;> rfl)

end

/-! Reverts (R115) -/

theorem State.askRevert_of_held {s : State} {k : ContextId} (h : s.holdsSlot k = true) : s.askRevert k = s := if_neg fun hh => hh.2.2 h

/-- A context in REVERT that holds no slot asks for its REVERT pair. -/
theorem State.askRevert_of_free {s : State} {k : ContextId} {l : LinkId} (hl : s.contexts[k].link = l) (hstage : s.contexts[k].stage = .revert)
    (hasked : s.contexts[k].asked = false) (h : s.holdsSlot k = false) : s.askRevert k =
      State.askBoth { s with contexts := put s.contexts k { s.contexts[k] with asked := true, completions := 0 } } k
        s.links[l].rack s.links[l].portable [0x04, 0, 0] true := by
  have hget : (put s.contexts k { s.contexts[k] with asked := true, completions := 0 })[k]
      = { s.contexts[k] with asked := true, completions := 0 } := put_eq _ _ _
  have hlink : (put s.contexts k { s.contexts[k] with asked := true, completions := 0 })[k].link = l := by rw [hget]; exact hl
  exact (if_pos ⟨hstage, Bool.eq_false_iff.mp hasked, Bool.eq_false_iff.mp h⟩).trans
    (State.askContext_both (s := { s with contexts := put s.contexts k { s.contexts[k] with asked := true, completions := 0 } }) hlink
      [0x04, 0, 0] true)

theorem State.askRevert_of_asked {s : State} {k : ContextId} (h : s.contexts[k].asked = true) : s.askRevert k = s := if_neg fun hh => hh.2.1 h

/-- The context as the start of a revert leaves it. -/
def Context.reverting (c : Context) (cause : RevertCause) : Context :=
  { c with stage := .revert, cause, committed := false, frame := none, deadline := none, asked := false, reverted := false }

/-- Settles O45. -/
theorem revertAndFailure : Obligations.RevertAndFailure := by
  refine ⟨fun s k => ?_, fun s k => ?_, fun s k st stage cause hst => ?_⟩
  · intro c
    refine ⟨fun hdue hstage hdead => ?_, fun hdue hstage hcommitted hreverted hframe => ?_, fun hdue hstage hreverted hdead => ?_⟩
    · intro t
      have hrow : exec (.confirmDeadline k) s = .next
          (if c.oldEntry = none then t.endLost k .confirm .unconfirmed else t.enterRevert k .unconfirmed) := by
        refine congrArg Host.Outcome.next ((State.dueStep_of_mem hdue).trans ?_)
        exact if_pos ⟨hstage, hdead⟩
      exact ⟨fun hold => hrow.trans (congrArg _ (if_neg hold)), fun hold => hrow.trans (congrArg _ (if_pos hold))⟩
    · intro t
      have hrow : exec (.revertFrame k) s = .next
          (if 2 ≤ c.completions then t.modContext k fun x =>
              { x with reverted := true, deadline := some (t.timing.frame + BitVec.ofNat 16 t.confirmWindow) }
            else t.endFailed k .lost .revert .revertLate) := by
        refine congrArg Host.Outcome.next ((State.dueStep_of_mem hdue).trans ?_)
        exact if_pos ⟨hstage, hcommitted, Bool.eq_false_iff.mp hreverted, hframe⟩
      have ht : t.timing = s.timing ∧ t.confirmWindow = s.confirmWindow := by
        obtain ⟨h1, h2⟩ := State.releaseOpt_frame { s with due := s.due.erase (.revertFrame k) } c.newEntry
        obtain ⟨h3, h4⟩ := State.changeOpt_frame (({ s with due := s.due.erase (.revertFrame k) } : State).releaseOpt c.newEntry)
          c.oldEntry .active
        exact ⟨h3.trans h1, h4.trans h2⟩
      refine ⟨fun hdone => hrow.trans (congrArg _ ((if_pos hdone).trans ?_)),
        fun hlate => hrow.trans (congrArg _ (if_neg (Nat.not_le.mpr hlate)))⟩
      exact State.modContext_frame ht.1 ht.2 k fun d x => { x with reverted := true, deadline := d }
    · refine congrArg Host.Outcome.next ((State.dueStep_of_mem hdue).trans ?_)
      exact if_pos ⟨hstage, hreverted, hdead⟩
  · intro c ask asked
    have hasked (u : State) : asked u = u.askBoth k s.links[c.link].rack s.links[c.link].portable [0x04, 0, 0] true := rfl
    refine ⟨fun cause => ?_, fun i side cond data hstage hno howner => ?_⟩
    · intro x
      have hstart : s.enterRevert k cause = State.askRevert { s with contexts := put s.contexts k x } k := rfl
      have hget : (put s.contexts k x)[k] = x := put_eq _ _ _
      have hheld : State.holdsSlot { s with contexts := put s.contexts k x } k = s.holdsSlot k := rfl
      refine ⟨fun h => hstart.trans (State.askRevert_of_held (hheld.trans h)), fun h => hstart.trans ?_⟩
      have hlink : (put s.contexts k x)[k].link = c.link := by rw [hget]
      have hstage : (put s.contexts k x)[k].stage = .revert := by rw [hget]
      have hno : (put s.contexts k x)[k].asked = false := by rw [hget]
      have hput : put (put s.contexts k x) k { (put s.contexts k x)[k] with asked := true, completions := 0 }
          = put s.contexts k { x with asked := true, completions := 0 } := by rw [hget, put_put]
      rw [State.askRevert_of_free hlink hstage hno (hheld.trans h), hasked, hput]
    · intro x t
      have hend : s.endSlot i cond data = (t x).askRevert k := by
        rw [State.endSlot_by_stage howner, show s.contexts[k].stage = .revert from hstage]
        rfl
      have hget : (t x).contexts[k] = x := put_eq _ _ _
      obtain ⟨hxstage, hxlink, -, hxasked⟩ := Context.noted_kept c side cond
      have hx : c.noted side cond = x := by cases side <;> rfl
      rw [hx] at hxstage hxlink hxasked
      refine ⟨fun h => hend.trans (State.askRevert_of_held h), fun h => hend.trans ?_⟩
      have hlink : (t x).contexts[k].link = c.link := by rw [hget, hxlink]
      have hst : (t x).contexts[k].stage = .revert := by rw [hget, hxstage, hstage]
      have hno' : (t x).contexts[k].asked = false := by rw [hget, hxasked, hno]
      have hput : put (t x).contexts k { (t x).contexts[k] with asked := true, completions := 0 }
          = put s.contexts k { x with asked := true, completions := 0 } := by
        rw [hget]
        exact put_put _ _ _ _
      rw [State.askRevert_of_free hlink hst hno' h, hasked, hput]
  · intro c settled detail failed
    have hidle : st ≠ .idle := by rcases hst with rfl | rfl <;> decide
    obtain ⟨hunit, hcontexts, -⟩ := State.raise_frame (s.settledAs s k st .failed stage) .retuneFailed (linkByte c.link) detail
    exact (State.endFailed_eq hidle stage cause).trans (State.close_congr (s := s) hunit hcontexts k)

end Sys2Proof.Machine
end

section

/-! ### CONTEXT_TAKE and the stages of a context up to the commit (R90, R106 to R110) -/

namespace Sys2Proof.Machine

/-! Which entry is taken (R90) -/

theorem State.freeContext_eq_some_iff (s : State) (k : ContextId) : s.freeContext = some k ↔
    s.contexts[k].stage = .free ∧ ∀ j : ContextId, j < k → s.contexts[j].stage ≠ .free := by
  rw [State.freeContext, find_finRange_iff]
  simp

theorem State.freeContext_eq_none {s : State} (h : ∀ k : ContextId, s.contexts[k].stage ≠ .free) : s.freeContext = none :=
  List.find?_eq_none.mpr fun k _ => by simpa using h k

/-- Is an entry held, or its link served (R90)? -/
def State.passesOver (s : State) (e : QueueEntry) : Prop := e.held = true ∨ (s.serving e.link).isSome = true

theorem State.passesOver_iff (s : State) (e : QueueEntry) : (!e.held && (s.serving e.link).isNone) = false ↔ s.passesOver e := by
  rw [State.passesOver]
  cases e.held <;> cases s.serving e.link <;> simp

theorem State.nextEntry_eq_none {s : State} (h : ∀ e ∈ s.retuneQueue, s.passesOver e) : s.nextEntry = none :=
  List.find?_eq_none.mpr fun e he => Bool.eq_false_iff.mp ((s.passesOver_iff e).mpr (h e he))

theorem State.nextEntry_of_first {s : State} {older younger : List QueueEntry} {e : QueueEntry} (h : s.retuneQueue = older ++ e :: younger)
    (hover : ∀ o ∈ older, s.passesOver o) (he : ¬ s.passesOver e) : s.nextEntry = some e := by
  have hpass : (!e.held && (s.serving e.link).isNone) = true := by
    rw [← Bool.not_eq_false]
    exact mt (s.passesOver_iff e).mp he
  rw [State.nextEntry, h, List.find?_append, List.find?_eq_none.mpr fun o ho =>
    Bool.eq_false_iff.mp ((s.passesOver_iff o).mpr (hover o ho))]
  exact List.find?_cons_of_pos (p := fun e : QueueEntry => !e.held && (s.serving e.link).isNone) hpass

/-! The stages that ask for slots to both units -/

/-- The context in PREPARE with its new entry (R108). -/
def Context.preparing (c : Context) (e : EntryId) (freq : Nat) : Context := { c with stage := .prepare, newEntry := some e, newFreq := freq }

theorem State.enterPrepare_eq {s : State} {k : ContextId} {l : LinkId} (h : s.contexts[k].link = l) (e : EntryId) : s.enterPrepare k e =
    State.askBoth { s with contexts := put s.contexts k (s.contexts[k].preparing e s.plan.carriers[e].freq) } k
      s.links[l].rack s.links[l].portable ([0x01] ++ u32 s.plan.carriers[e].freq ++ u8 s.plan.carriers[e].cls.code) false := by
  have hlink : (put s.contexts k (s.contexts[k].preparing e s.plan.carriers[e].freq))[k].link = l := by
    rw [put_eq]
    exact h
  exact State.askContext_both (s := { s with contexts := put s.contexts k (s.contexts[k].preparing e s.plan.carriers[e].freq) }) hlink _ _

theorem State.enterSwitch_eq {s : State} {k : ContextId} {l : LinkId} (h : s.contexts[k].link = l) : s.enterSwitch k =
    State.askBoth { s with contexts := put s.contexts k { s.contexts[k] with stage := .switch, completions := 0 } } k
      s.links[l].rack s.links[l].portable [0x02, 0, 0] true := by
  have hlink : (put s.contexts k { s.contexts[k] with stage := .switch, completions := 0 })[k].link = l := by
    rw [put_eq]
    exact h
  exact State.askContext_both (s := { s with contexts := put s.contexts k { s.contexts[k] with stage := .switch, completions := 0 } })
    hlink _ _

/-! Taking an entry (R106, R107) -/

/-- The context that has taken an entry. -/
def State.takenContext (s : State) (e : QueueEntry) (st : Stage) (target : Target) : Context :=
  { stage := st, link := e.link, target, reason := e.reason, force := e.force, prior := s.links[e.link].state
    oldEntry := s.links[e.link].active }

/-- The state that a link takes at the start of a retune. -/
def State.movingState (s : State) (l : LinkId) : LinkState := if s.links[l].state = .idle then .assigning else .retuning

theorem State.movingState_ne (s : State) (l : LinkId) : s.movingState l ≠ .idle := by
  unfold State.movingState
  split <;> decide

/-- The state with an entry out of the retune queue, its context begun and its link moving. -/
def State.taking (s : State) (k : ContextId) (e : QueueEntry) (target : Target) : State := { s with
  retuneQueue := s.retuneQueue.erase e
  contexts := put s.contexts k (s.takenContext e .coordinate target)
  links := put s.links e.link { s.links[e.link] with state := s.movingState e.link } }

/-- The first stage of a retune by its target and its link's STANDBY (R107). -/
def State.begun (s : State) (k : ContextId) (e : QueueEntry) (target : Target) : State := match target, s.links[e.link].standby with
  | .backup, some b => ((s.taking k e target).changeEntry b .reserved).enterPrepare k b
  | _, _ => ((s.taking k e target).modContext k fun c => { c with coordinating := true }).placeCoord
      { kind := .admitCarrier, filer := .context k, link := some e.link, target, cls := s.links[e.link].cls }

theorem State.takeEntry_eq {s : State} {k : ContextId} {e : QueueEntry} {target : Target}
    (h : (if e.target = .backup ∧ s.links[e.link].standby = none then .nextCandidate else e.target) = target) :
    s.takeEntry k e = s.begun k e target := by
  have hmove : (({ s with retuneQueue := s.retuneQueue.erase e } : State).setContext k (s.takenContext e .coordinate target)).setLinkState
      e.link (s.movingState e.link) = s.taking k e target := State.setLinkState_of_moved (s.movingState_ne e.link) _ _
  unfold State.begun
  rw [← hmove]
  subst h
  rfl

theorem State.takeEntry_of_coordinate {s : State} {k : ContextId} {e : QueueEntry} {target : Target}
    (h : (if e.target = .backup ∧ s.links[e.link].standby = none then .nextCandidate else e.target) = target) (ht : target ≠ .backup) :
    s.takeEntry k e = { s with
      retuneQueue := s.retuneQueue.erase e
      contexts := put s.contexts k { s.takenContext e .coordinate target with coordinating := true }
      links := put s.links e.link { s.links[e.link] with state := s.movingState e.link }
      engine := { s.engine with queue := s.engine.queue ++
        [{ kind := .admitCarrier, filer := .context k, link := some e.link, target, cls := s.links[e.link].cls }] } } := by
  have hmod : ((s.taking k e target).modContext k fun c => { c with coordinating := true }) = { s with
      retuneQueue := s.retuneQueue.erase e
      contexts := put s.contexts k { s.takenContext e .coordinate target with coordinating := true }
      links := put s.links e.link { s.links[e.link] with state := s.movingState e.link } } := by
    have hget : (s.taking k e target).contexts[k] = s.takenContext e .coordinate target := put_eq _ _ _
    have hput : put (s.taking k e target).contexts k { s.takenContext e .coordinate target with coordinating := true }
        = put s.contexts k { s.takenContext e .coordinate target with coordinating := true } := put_put _ _ _ _
    rw [State.modContext, State.setContext, hget, hput]
    rfl
  rw [State.takeEntry_eq h]
  unfold State.begun
  cases target with
  | backup => exact absurd rfl ht
  | explicit f =>
    dsimp only
    rw [hmod]
    rfl
  | nextCandidate =>
    dsimp only
    rw [hmod]
    rfl

/-- A BACKUP takes the link's STANDBY entry as its new one (R107). -/
theorem State.takeEntry_of_backup {s : State} {k : ContextId} {e : QueueEntry} {b : EntryId} (ht : e.target = .backup)
    (hb : s.links[e.link].standby = some b) (hactive : s.links[e.link].active ≠ some b) (hlink : s.plan.carriers[b].link = some e.link) :
    s.takeEntry k e = State.askBoth { s with
      retuneQueue := s.retuneQueue.erase e
      contexts := put s.contexts k ((s.takenContext e .coordinate .backup).preparing b s.plan.carriers[b].freq)
      links := put s.links e.link { s.links[e.link] with state := s.movingState e.link, standby := none }
      plan := { s.plan with carriers := put s.plan.carriers b { s.plan.carriers[b] with state := .reserved } } } k
      s.links[e.link].rack s.links[e.link].portable ([0x01] ++ u32 s.plan.carriers[b].freq ++ u8 s.plan.carriers[b].cls.code) false := by
  have htarget : (if e.target = .backup ∧ s.links[e.link].standby = none then .nextCandidate else e.target) = Target.backup := by
    rw [if_neg fun hh => by rw [hb] at hh; exact Option.some_ne_none b hh.2, ht]
  have hforget : ({ s.links[e.link] with state := s.movingState e.link } : Link).forget b
      = { s.links[e.link] with state := s.movingState e.link, standby := none } := by
    simp only [Link.forget, hb, hactive, if_true, if_false]
  have hchange : (s.taking k e .backup).changeEntry b .reserved = { s.taking k e .backup with
      links := put s.links e.link { s.links[e.link] with state := s.movingState e.link, standby := none }
      plan := { s.plan with carriers := put s.plan.carriers b { s.plan.carriers[b] with state := .reserved } } } := by
    have hget : (s.taking k e .backup).links[e.link] = { s.links[e.link] with state := s.movingState e.link } := put_eq _ _ _
    have hput : put (s.taking k e .backup).links e.link ((s.taking k e .backup).links[e.link].forget b)
        = put s.links e.link { s.links[e.link] with state := s.movingState e.link, standby := none } := by
      rw [hget, hforget]
      exact put_put _ _ _ _
    have hcarrier : (s.taking k e .backup).plan.carriers[b].link = some e.link := hlink
    have hsteps : (s.taking k e .backup).changeEntry b .reserved = { s.taking k e .backup with
        links := put (s.taking k e .backup).links e.link ((s.taking k e .backup).links[e.link].forget b)
        plan := { s.plan with carriers := put s.plan.carriers b { s.plan.carriers[b] with state := .reserved } } } := by
      unfold State.changeEntry
      dsimp only
      split
      next hnone => exact absurd (hnone.symm.trans hcarrier) nofun
      next l hl =>
        cases hl.symm.trans hcarrier
        rfl
    rw [hsteps, hput]
  rw [State.takeEntry_eq htarget]
  unfold State.begun
  rw [hb]
  dsimp only
  rw [hchange]
  have hlinkOf : ({ s.taking k e .backup with
      links := put s.links e.link { s.links[e.link] with state := s.movingState e.link, standby := none }
      plan := { s.plan with carriers := put s.plan.carriers b { s.plan.carriers[b] with state := .reserved } } } : State).contexts[k].link
      = e.link := by
    show (put s.contexts k (s.takenContext e .coordinate .backup))[k].link = e.link
    rw [put_eq]
    rfl
  have hcontext : (put s.contexts k (s.takenContext e .coordinate .backup))[k] = s.takenContext e .coordinate .backup := put_eq _ _ _
  have hnew : (put s.plan.carriers b { s.plan.carriers[b] with state := .reserved })[b] = { s.plan.carriers[b] with state := .reserved } :=
    put_eq _ _ _
  have hr : (put s.links e.link { s.links[e.link] with state := s.movingState e.link, standby := none })[e.link]
      = { s.links[e.link] with state := s.movingState e.link, standby := none } := put_eq _ _ _
  rw [State.enterPrepare_eq hlinkOf]
  simp only [State.taking, hcontext, hnew, hr, put_put]

end Sys2Proof.Machine
end

section

/-! ### The coordination outcome, the slots of a context, and the statement of O43 (R107 to R109) -/

namespace Sys2Proof.Machine

/-- The state with another context. -/
abbrev State.withContext (s : State) (k : ContextId) (c : Context) : State := { s with contexts := put s.contexts k c }

theorem State.withContext_get (s : State) (k : ContextId) (c : Context) : (s.withContext k c).contexts[k] = c := put_eq _ _ _

theorem State.withContext_twice (s : State) (k : ContextId) (c d : Context) : (s.withContext k c).withContext k d = s.withContext k d :=
  congrArg (fun v => { s with contexts := v }) (put_put _ _ _ _)

/-- The end of a context's coordination request, by its stage and its outcome (R107, R109). -/
theorem State.coordEnded_of_passed {s : State} {k : ContextId} {e : EntryId} (h : s.contexts[k].stage = .coordinate) (m : CoordSummary) :
    s.coordEnded k .pass (some e) m =
      (s.withContext k { s.contexts[k] with coordinating := false, summary := some m }).enterPrepare k e := by
  have hfirst : s.modContext k (fun c => { c with coordinating := false }) = s.withContext k { s.contexts[k] with coordinating := false } := rfl
  have hget : (s.withContext k { s.contexts[k] with coordinating := false }).contexts[k] = { s.contexts[k] with coordinating := false } :=
    put_eq _ _ _
  have hstage : (s.withContext k { s.contexts[k] with coordinating := false }).contexts[k].stage = .coordinate := by rw [hget]; exact h
  have hsecond : (s.withContext k { s.contexts[k] with coordinating := false }).modContext k (fun c => { c with summary := some m })
      = s.withContext k { s.contexts[k] with coordinating := false, summary := some m } := by
    rw [State.modContext, hget]
    exact State.withContext_twice _ _ _ _
  rw [State.coordEnded, hfirst]
  dsimp only
  rw [if_pos hstage, hsecond]

theorem State.coordEnded_of_failed {s : State} {k : ContextId} {res : Result} (h : s.contexts[k].stage = .coordinate) (hres : res ≠ .pass)
    (entry : Option EntryId) (m : CoordSummary) : s.coordEnded k res entry m =
      (((s.withContext k { s.contexts[k] with coordinating := false, summary := some m }).settleEarly k .failed .coordinate).raise
        .retuneFailed (linkByte s.contexts[k].link) (summaryBytes (some m))).closeEarly k := by
  have hfirst : s.modContext k (fun c => { c with coordinating := false }) = s.withContext k { s.contexts[k] with coordinating := false } := rfl
  have hget : (s.withContext k { s.contexts[k] with coordinating := false }).contexts[k] = { s.contexts[k] with coordinating := false } :=
    put_eq _ _ _
  have hstage : (s.withContext k { s.contexts[k] with coordinating := false }).contexts[k].stage = .coordinate := by rw [hget]; exact h
  have hsecond : (s.withContext k { s.contexts[k] with coordinating := false }).modContext k (fun c => { c with summary := some m })
      = s.withContext k { s.contexts[k] with coordinating := false, summary := some m } := by
    rw [State.modContext, hget]
    exact State.withContext_twice _ _ _ _
  have hlink : ((s.withContext k { s.contexts[k] with coordinating := false, summary := some m }).settleEarly k .failed .coordinate).contexts[k].link
      = s.contexts[k].link := by
    rw [State.settleEarly_parts]
    dsimp only
    rw [put_eq]
  rw [State.coordEnded, hfirst]
  dsimp only
  rw [if_pos hstage, hsecond, hlink]
  cases res <;> first | exact absurd rfl hres | rfl

theorem State.coordEnded_of_closing {s : State} {k : ContextId} (h : s.contexts[k].stage = .closing) (res : Result)
    (entry : Option EntryId) (m : CoordSummary) : s.coordEnded k res entry m =
      ((s.withContext k { s.contexts[k] with coordinating := false }).releaseOpt entry).freeIfDone k := by
  have hget : (s.withContext k { s.contexts[k] with coordinating := false }).contexts[k] = { s.contexts[k] with coordinating := false } :=
    put_eq _ _ _
  have hstage : ¬ (s.withContext k { s.contexts[k] with coordinating := false }).contexts[k].stage = .coordinate := by
    rw [hget]
    exact fun hh => absurd (h.symm.trans hh) (by decide)
  exact if_neg hstage

/-- A PRELOAD that fails ends the retune (R108). -/
theorem State.failPrepare_eq {s : State} {k : ContextId} {c : Context} (h : s.contexts[k] = c) : s.failPrepare k =
    ((s.settleEarly k .failed .prepare).raise .retuneFailed (linkByte c.link)
      (u8 2 ++ u8 1 ++ u8 (conditionCode c.rack) ++ u8 (conditionCode c.portable) ++ u8 c.cause.code)).closeEarly k := by
  have hcontext : (s.settleEarly k .failed .prepare).contexts[k] = c := by rw [State.settleEarly_parts]; exact h
  rw [State.failPrepare, State.raiseFailed, hcontext]
  rfl

/-- What the end of a slot leaves a context to hold. -/
theorem State.heard_holdsSlot_iff (s : State) (i : SlotId) (k : ContextId) (c : Context) : (s.heard i k c).holdsSlot k = true ↔
    (∃ (j : SlotId) (d : Side), j ≠ i ∧ s.unit.slots[j].owner = some (.context k d)) ∨ ∃ q ∈ s.unit.waiting, ∃ d : Side, q.owner = .context k d := by
  rw [State.holdsSlot_iff]
  refine or_congr ⟨fun ⟨j, d, hj⟩ => ?_, fun ⟨j, d, hne, hj⟩ => ⟨j, d, ?_⟩⟩ Iff.rfl
  · by_cases hne : j = i
    · subst hne
      have hfree : (s.heard j k c).unit.slots[j] = {} := put_eq _ _ _
      rw [hfree] at hj
      cases hj
    · have hkept : (s.heard i k c).unit.slots[j] = s.unit.slots[j] := put_ne _ _ hne
      exact ⟨j, d, hne, hkept ▸ hj⟩
  · have hkept : (s.heard i k c).unit.slots[j] = s.unit.slots[j] := put_ne _ _ hne
    rw [hkept]
    exact hj

/-- Settles O43. -/
theorem contextTakesOldestEntry : Obligations.ContextTakesOldestEntry := by
  refine ⟨fun s hdue => ?_, fun s k res entry m => ?_, fun s i k side cond data howner hcommand => ?_, fun s i k side cond data howner => ?_⟩
  · have hexec : exec .contextTake s = .next s.contextTake := State.settled_of_idle hdue _
    refine ⟨fun hq => hexec.trans (congrArg _ (if_neg hq)), fun hno => hexec.trans (congrArg _ ?_), fun hno => hexec.trans (congrArg _ ?_),
      fun k older younger e hq hfree hlow hqueue hover hheld hserves => ?_⟩
    · rw [State.contextTake, State.freeContext_eq_none hno]
      exact ite_self _
    · rw [State.contextTake, State.nextEntry_eq_none hno]
      cases s.freeContext <;> exact ite_self _
    · intro moving taken
      have hnext : s.nextEntry = some e := State.nextEntry_of_first hqueue (fun o ho => (hover o ho).2) fun hpass =>
        hpass.elim (fun h => Bool.false_ne_true (hheld.symm.trans h)) fun h => by rw [hserves] at h; cases h
      have htake : exec .contextTake s = .next (s.takeEntry k e) := by
        refine hexec.trans (congrArg _ ((if_pos hq).trans ?_))
        rw [(s.freeContext_eq_some_iff k).mpr ⟨hfree, hlow⟩, hnext] <;> rfl
      have herase : s.retuneQueue.erase e = older ++ younger := by
        rw [hqueue, List.erase_append_right _ fun hmem => (hover e hmem).1 rfl, List.erase_cons_head]
      refine ⟨fun hno => ?_, fun b ht hb hactive hlink => ?_⟩
      · intro target
        have htarget : (if e.target = .backup ∧ s.links[e.link].standby = none then .nextCandidate else e.target) = target := by
          by_cases ht : e.target = .backup
          · exact (if_pos ⟨ht, hno ht⟩).trans (if_pos ht).symm
          · exact (if_neg fun hh => ht hh.1).trans (if_neg ht).symm
        have hmoves : target ≠ .backup := by
          by_cases ht : e.target = .backup
          · rw [show target = .nextCandidate from if_pos ht]
            exact nofun
          · rw [show target = e.target from if_neg ht]
            exact ht
        rw [htake, State.takeEntry_of_coordinate htarget hmoves, herase]
        rfl
      · intro c t ask
        rw [htake, State.takeEntry_of_backup ht hb hactive hlink, herase]
        rfl
  · intro c l t
    have hl : l = s.contexts[k].link := rfl
    refine ⟨fun e hst hres hentry => ?_, fun hst hres => State.coordEnded_of_failed hst hres entry m, fun hst hheld => ?_,
      fun hst hdone => ?_⟩
    · intro x ask
      subst hres hentry
      have hget := State.withContext_get s k { s.contexts[k] with coordinating := false, summary := some m }
      have hlink : (s.withContext k { s.contexts[k] with coordinating := false, summary := some m }).contexts[k].link = l := by rw [hget]
      have hput (d : Context) : put (s.withContext k { s.contexts[k] with coordinating := false, summary := some m }).contexts k d
          = put s.contexts k d := put_put _ _ _ _
      rw [State.coordEnded_of_passed hst, State.enterPrepare_eq hlink, hget, hput]
      rfl
    · refine (State.coordEnded_of_closing hst res entry m).trans (State.freeIfDone_of_held (.inl ?_))
      refine (State.holdsSlot_congr (s := s) ?_ k).trans hheld
      rw [State.releaseOpt_parts]
    · have hparts := State.releaseOpt_parts (s.withContext k { s.contexts[k] with coordinating := false }) entry
      have hget := State.withContext_get s k { s.contexts[k] with coordinating := false }
      have hcontexts : ((s.withContext k { s.contexts[k] with coordinating := false }).releaseOpt entry).contexts
          = (s.withContext k { s.contexts[k] with coordinating := false }).contexts := by rw [hparts]
      have hcontext : ((s.withContext k { s.contexts[k] with coordinating := false }).releaseOpt entry).contexts[k]
          = { s.contexts[k] with coordinating := false } := by
        rw [hparts]
        exact hget
      have hput : put ((s.withContext k { s.contexts[k] with coordinating := false }).releaseOpt entry).contexts k {}
          = put s.contexts k ({} : Context) := by
        rw [hcontexts]
        exact put_put _ _ _ _
      have hunit : ((s.withContext k { s.contexts[k] with coordinating := false }).releaseOpt entry).unit = s.unit := by rw [hparts]
      refine (State.coordEnded_of_closing hst res entry m).trans ?_
      rw [State.freeIfDone_of_done (by rw [hcontext]; exact hst) ((State.holdsSlot_congr hunit k).trans hdone) (by rw [hcontext]),
        State.setContext, hput]
  · intro c answered t
    have hnoted : s.contexts[k].noted side cond = c := by cases side <;> rfl
    have hanswered : c.preloaded side s.unit.slots[i].unit = answered := by
      rw [← hnoted]
      cases side <;> rfl
    have hstage : s.contexts[k].stage = c.stage := by rw [← hnoted, (Context.noted_kept _ _ _).1]
    have hlinks : answered.link = c.link := by rw [← hanswered, Context.preloaded_kept]
    have hend := State.endSlot_by_stage howner cond data
    rw [hnoted, hanswered, if_pos hcommand] at hend
    refine ⟨fun hst hcond hone => ?_, fun hst hcond hrack hportable => ?_, fun hst hcond => ?_, fun hst hcond => ?_⟩
    · rw [hstage.trans hst] at hend
      refine hend.trans ((if_pos hcond).trans (if_neg fun hboth => ?_))
      exact hone.elim hboth.1 hboth.2
    · intro ask
      rw [hstage.trans hst] at hend
      have hget := State.heard_context s i k answered
      have hlink : (s.heard i k answered).contexts[k].link = c.link := by rw [hget, hlinks]
      have hput : put (s.heard i k answered).contexts k { answered with stage := .switch, completions := 0 }
          = put s.contexts k { answered with stage := .switch, completions := 0 } := put_put _ _ _ _
      refine hend.trans ((if_pos hcond).trans ((if_pos ⟨hrack, hportable⟩).trans ?_))
      rw [State.enterSwitch_eq hlink, hget, hput]
      rfl
    · rw [hstage.trans hst] at hend
      exact hend.trans ((if_neg hcond).trans (State.failPrepare_eq (State.heard_context s i k c)))
    · rw [hstage.trans hst] at hend
      refine hend.trans ((congrArg (fun u => State.freeIfDone u k) (if_pos ⟨hcommand, hcond⟩)).trans ?_)
      exact State.freeIfDone_of_held (.inl (State.holdsSlot_of_claims (State.claims_asked _ (side := side) rfl)))
  · intro c t others
    have hnoted : s.contexts[k].noted side cond = c := by cases side <;> rfl
    have hstage : s.contexts[k].stage = c.stage := by rw [← hnoted, (Context.noted_kept _ _ _).1]
    have hend := State.endSlot_by_stage howner cond data
    rw [hnoted] at hend
    have hothers : others ↔ (s.heard i k c).holdsSlot k = true := (s.heard_holdsSlot_iff i k c).symm
    have hget := State.heard_context s i k c
    refine ⟨fun hst hno => ?_, fun hst => ?_⟩
    · rw [hstage.trans hst] at hend
      have hplain : s.endSlot i cond data = (s.heard i k c).freeIfDone k :=
        hend.trans (congrArg (fun u => State.freeIfDone u k) (if_neg fun hh => hno.elim (· hh.1) (· hh.2)))
      refine ⟨fun hheld => hplain.trans (State.freeIfDone_of_held (hheld.imp hothers.mp fun hc => ?_)), fun hnone hc => hplain.trans ?_⟩
      · rw [hget]
        exact hc
      · have hfree : (s.heard i k c).holdsSlot k = false := Bool.eq_false_iff.mpr (mt hothers.mpr hnone)
        rw [State.freeIfDone_of_done (by rw [hget]; exact hst) hfree (by rw [hget]; exact hc)]
        exact congrArg State.testDrain (congrArg (fun v => { s.heard i k c with contexts := v }) (put_put _ _ _ _))
    · rcases hst with hst | hst | ⟨hst, hasked⟩
      · rw [hstage.trans hst] at hend
        exact hend
      · rw [hstage.trans hst] at hend
        exact hend
      · rw [hstage.trans hst] at hend
        exact hend.trans (State.askRevert_of_asked (by rw [hget]; exact hasked))

end Sys2Proof.Machine
end

section

/-! ### The scan list and the scan operations (R140 to R144, R150) -/

namespace Sys2Proof.Machine

/-! Asking for a slot beside other changes -/

/-- The allocation reads and changes the unit channel alone. -/
theorem State.grantOne_congr {s t : State} (h : t.unit = s.unit) : t.grantOne.unit = s.grantOne.unit := by
  have hfind : t.grantable t.unit.waiting = s.grantable s.unit.waiting := by
    rw [State.grantable_congr (congrArg UnitChannel.slots h), h]
  have hgranted (i : SlotId) (q : SlotRequest) (left : List SlotRequest) : (t.granted i q left).unit = (s.granted i q left).unit := by
    have hmate : t.mateFor i q = s.mateFor i q := by
      rw [State.mateFor, State.mateFor, State.mateOf, State.mateOf, h]
    simp only [State.granted, State.slotsGranted, hmate, h]
  cases hs : s.grantable s.unit.waiting with
  | none => rw [State.grantOne_of_none hs, State.grantOne_of_none (hfind.trans hs), h]
  | some found => rw [State.grantOne_of_some hs, State.grantOne_of_some (hfind.trans hs), h, hgranted]

theorem State.grantAll_congr (n : Nat) {s t : State} (h : t.unit = s.unit) : (State.grantAll n t).unit = (State.grantAll n s).unit := by
  induction n generalizing s t with
  | zero => exact h
  | succ n ih => exact ih (State.grantOne_congr h)

theorem State.askSlot_congr {s t : State} (h : t.unit = s.unit) (q : SlotRequest) : (t.askSlot q).unit = (s.askSlot q).unit := by
  have hwith : (t.withWaiting q).unit = (s.withWaiting q).unit := by rw [State.withWaiting, State.withWaiting, h]
  rw [State.askSlot_eq, State.askSlot_eq, h]
  exact State.grantAll_congr _ hwith

/-- The state with another scan engine. -/
def State.withScan (s : State) (c : Scan) : State := { s with scan := c }

/-- A slot is asked for before or after the scan engine changes. -/
theorem State.askSlot_withScan (s : State) (c : Scan) (q : SlotRequest) : (s.withScan c).askSlot q = (s.askSlot q).withScan c := by
  have hunit : ((s.withScan c).askSlot q).unit = (s.askSlot q).unit := State.askSlot_congr (s := s) (t := s.withScan c) rfl q
  rw [State.askSlot_parts, hunit, s.askSlot_parts q]
  rfl

/-! The plan of a scan (R142) -/

theorem flagByte_single (b : Bool) : flagByte [b] = u8 b.toNat := by cases b <;> rfl

theorem Segment.bytes_eq (g : Segment) : g.bytes = u32 g.start ++ u32 g.stop ++ u32 g.step ++ u8 g.enabled.toNat := by
  rw [Segment.bytes, flagByte_single]

theorem Segment.ok_iff (g : Segment) : g.ok = true ↔
    30000 ≤ g.start ∧ g.start ≤ g.stop ∧ g.stop ≤ 7125000 ∧ (g.stop - g.start) / g.step + 1 ≤ 65536 := by
  simp only [Segment.ok, Bool.and_eq_true, freqOk_iff, decide_eq_true_iff]
  rw [Segment.points]
  generalize (g.stop - g.start) / g.step = n
  omega

theorem takeWhile_eq_nil_iff_head {α : Type} {p : α → Bool} (x : α) (xs : List α) : (x :: xs).takeWhile p = [] ↔ ¬ p x = true := by
  rw [List.takeWhile_cons]
  split <;> simp [*]

theorem State.enabledRun_eq (s : State) (lo hi : Nat) : s.enabledRun lo hi =
    ((List.finRange 16).filter fun i => decide (lo ≤ i.val ∧ i.val < hi)).takeWhile fun i => s.scan.segments[i].enabled := by
  rw [State.enabledRun]
  simp only [Bool.decide_and]

theorem State.enabledRun_all (s : State) : s.enabledRun 0 16 = (List.finRange 16).takeWhile fun i => s.scan.segments[i].enabled := by
  have hall : (List.finRange 16).filter (fun i => decide (0 ≤ i.val) && decide (i.val < 16)) = List.finRange 16 := by decide
  rw [State.enabledRun, hall]

/-- A half of the list has segments where its first one is enabled. -/
theorem State.enabledRun_eq_nil_iff (s : State) {lo hi : Nat} {g : Fin 16} {rest : List (Fin 16)}
    (h : (List.finRange 16).filter (fun i => decide (lo ≤ i.val) && decide (i.val < hi)) = g :: rest) :
    s.enabledRun lo hi = [] ↔ ¬ s.scan.segments[g].enabled = true := by
  rw [State.enabledRun, h]
  exact takeWhile_eq_nil_iff_head g rest

theorem State.sweepHalf_a (s : State) : s.sweepHalf .a =
    if s.scan.settings.recvA = 0 then [] else if s.scan.settings.parallel = true then s.enabledRun 0 8 else s.enabledRun 0 16 := by
  unfold State.sweepHalf State.recvAddress
  cases s.scan.settings.parallel <;> rfl

theorem State.sweepHalf_b (s : State) : s.sweepHalf .b =
    if s.scan.settings.recvB = 0 then [] else if s.scan.settings.parallel = true then s.enabledRun 8 16 else [] := by
  unfold State.sweepHalf State.recvAddress
  cases s.scan.settings.parallel <;> rfl

/-- Has a scan segments to sweep (R142)? -/
abbrev State.sweeps (s : State) : Prop :=
  s.scan.settings.recvA ≠ 0 ∧ s.scan.segments[(0 : Fin 16)].enabled = true
    ∨ s.scan.settings.parallel = true ∧ s.scan.settings.recvB ≠ 0 ∧ s.scan.segments[(8 : Fin 16)].enabled = true

theorem State.hasSegments_iff (s : State) : s.hasSegments = true ↔ s.sweeps := by
  have hlow (hi : Nat) (h : hi = 8 ∨ hi = 16) : s.enabledRun 0 hi = [] ↔ ¬ s.scan.segments[(0 : Fin 16)].enabled = true := by
    rcases h with rfl | rfl
    · exact s.enabledRun_eq_nil_iff (rest := [1, 2, 3, 4, 5, 6, 7]) (by decide)
    · exact s.enabledRun_eq_nil_iff (rest := [1, 2, 3, 4, 5, 6, 7, 8, 9, 10, 11, 12, 13, 14, 15]) (by decide)
  have hhigh : s.enabledRun 8 16 = [] ↔ ¬ s.scan.segments[(8 : Fin 16)].enabled = true :=
    s.enabledRun_eq_nil_iff (rest := [9, 10, 11, 12, 13, 14, 15]) (by decide)
  have ha : s.sweepHalf .a ≠ [] ↔ s.scan.settings.recvA ≠ 0 ∧ s.scan.segments[(0 : Fin 16)].enabled = true := by
    rw [State.sweepHalf_a]
    split
    next h => exact ⟨fun hh => absurd rfl hh, fun hh => absurd h hh.1⟩
    next h =>
      split
      · rw [ne_eq, hlow 8 (.inl rfl), not_not]
        exact (and_iff_right h).symm
      · rw [ne_eq, hlow 16 (.inr rfl), not_not]
        exact (and_iff_right h).symm
  have hb : s.sweepHalf .b ≠ [] ↔ s.scan.settings.parallel = true ∧ s.scan.settings.recvB ≠ 0
      ∧ s.scan.segments[(8 : Fin 16)].enabled = true := by
    rw [State.sweepHalf_b]
    split
    next h => exact ⟨fun hh => absurd rfl hh, fun hh => absurd h hh.2.1⟩
    next h =>
      split
      next hp =>
        rw [ne_eq, hhigh, not_not]
        exact ⟨fun hh => ⟨hp, h, hh⟩, fun hh => hh.2.2⟩
      next hp => exact ⟨fun hh => absurd rfl hh, fun hh => absurd hh.1 hp⟩
  rw [State.hasSegments, Bool.or_eq_true, Bool.not_eq_true', Bool.not_eq_true', List.isEmpty_eq_false_iff, List.isEmpty_eq_false_iff]
  exact or_congr ha hb

/-! The beginning of a scan (R142 to R144) -/

/-- A scan that begins, its number raised and its counts at 0. -/
def Scan.begun (c : Scan) (a b : Sweeper) : Scan :=
  { c with number := c.number + 1, state := .scanning, failedRanges := [], done := 0, failed := 0, inserted := 0, removed := 0
           recvA := a, recvB := b }

/-- A receiver's request for a slot for a segment. -/
def State.segmentRequest (s : State) (rc : Receiver) (g : Fin 16) : SlotRequest :=
  { owner := .scan rc, unit := s.recvAddress rc, command := sweepCommand s.scan.segments[g] }

theorem State.beginScan_eq (s : State) : s.beginScan =
    ((s.withScan (s.scan.begun { todo := s.sweepHalf .a } { todo := s.sweepHalf .b })).startSegment .a).startSegment .b := rfl

theorem State.startSegment_of_none {s : State} {rc : Receiver} (h : (s.sweeper rc).todo = []) :
    s.startSegment rc = s.setSweeper rc {} := by rw [State.startSegment, h]

theorem State.startSegment_of_some {s : State} {rc : Receiver} {g : Fin 16} {rest : List (Fin 16)} (h : (s.sweeper rc).todo = g :: rest) :
    s.startSegment rc = (s.setSweeper rc { current := some g, todo := rest, results := [] }).askSlot (s.segmentRequest rc g) := by
  unfold State.startSegment
  rw [h]
  cases rc <;> rfl

theorem State.startSegment_parts (s : State) (rc : Receiver) : s.startSegment rc = { s with
    scan := (s.startSegment rc).scan, unit := (s.startSegment rc).unit } := by
  cases h : (s.sweeper rc).todo with
  | nil =>
    rw [State.startSegment_of_none h]
    cases rc <;> rfl
  | cons g rest =>
    rw [State.startSegment_of_some h, State.askSlot_parts]
    cases rc <;> rfl

theorem State.beginScan_parts (s : State) : s.beginScan = { s with scan := s.beginScan.scan, unit := s.beginScan.unit } := by
  rw [State.beginScan_eq, State.startSegment_parts, State.startSegment_parts]
  rfl

/-- A receiver that sweeps, once its first segment is asked for. -/
def sweeping (g : Fin 16) (rest : List (Fin 16)) : Sweeper := { current := some g, todo := rest, results := [] }

/-- Both receivers begin. -/
theorem State.beginScan_of_both {s : State} {g h : Fin 16} {todoA todoB : List (Fin 16)} (ha : s.sweepHalf .a = g :: todoA)
    (hb : s.sweepHalf .b = h :: todoB) : s.beginScan =
      ((s.withScan (s.scan.begun (sweeping g todoA) (sweeping h todoB))).askSlot (s.segmentRequest .a g)).askSlot (s.segmentRequest .b h) := by
  have hfirst : (s.withScan (s.scan.begun { todo := g :: todoA } { todo := h :: todoB })).startSegment .a =
      (s.withScan (s.scan.begun (sweeping g todoA) { todo := h :: todoB })).askSlot (s.segmentRequest .a g) := rfl
  have hsecond : ((s.askSlot (s.segmentRequest .a g)).withScan (s.scan.begun (sweeping g todoA) { todo := h :: todoB })).startSegment .b
      = ((s.askSlot (s.segmentRequest .a g)).withScan (s.scan.begun (sweeping g todoA) (sweeping h todoB))).askSlot
        (s.segmentRequest .b h) := rfl
  rw [State.beginScan_eq, ha, hb, hfirst, State.askSlot_withScan, hsecond, State.askSlot_withScan, State.askSlot_withScan, State.askSlot_withScan]

/-- Receiver A begins alone. -/
theorem State.beginScan_of_a {s : State} {g : Fin 16} {todo : List (Fin 16)} (ha : s.sweepHalf .a = g :: todo) (hb : s.sweepHalf .b = []) :
    s.beginScan = (s.withScan (s.scan.begun (sweeping g todo) {})).askSlot (s.segmentRequest .a g) := by
  have hfirst : (s.withScan (s.scan.begun { todo := g :: todo } { todo := [] })).startSegment .a =
      (s.withScan (s.scan.begun (sweeping g todo) {})).askSlot (s.segmentRequest .a g) := rfl
  rw [State.beginScan_eq, ha, hb, hfirst, State.askSlot_withScan]
  rfl

/-- Receiver B begins alone. -/
theorem State.beginScan_of_b {s : State} {h : Fin 16} {todo : List (Fin 16)} (ha : s.sweepHalf .a = []) (hb : s.sweepHalf .b = h :: todo) :
    s.beginScan = (s.withScan (s.scan.begun {} (sweeping h todo))).askSlot (s.segmentRequest .b h) := by
  rw [State.beginScan_eq, ha, hb]
  rfl

theorem State.sweepHalf_of_zero {s : State} {rc : Receiver} (h : s.recvAddress rc = 0) : s.sweepHalf rc = [] := if_pos h

/-! The withdrawal of a stopped scan (R150) -/

/-- Is the owner a sweep receiver? -/
def Owner.isScan : Owner → Bool
  | .scan _ => true
  | .context _ _ | .tally _ | .relay _ => false

theorem Owner.isScan_iff (o : Owner) : o.isScan = true ↔ o = .scan .a ∨ o = .scan .b := by
  cases o with
  | scan rc => cases rc <;> simp [Owner.isScan]
  | context k side => simp [Owner.isScan]
  | tally l => simp [Owner.isScan]
  | relay id => simp [Owner.isScan]

/-- The state once a scan is stopped, before the drain test. -/
def State.scanLeft (s : State) : State := { s with
  unit := { s.unit with
    waiting := s.unit.waiting.filter fun q => !q.owner.isScan
    slots := mapTable s.unit.slots fun _ x => if x.owner.any Owner.isScan then { x with discard := true } else x }
  scan := { s.scan with state := .stopped, recvA := {}, recvB := {} } }

theorem State.stopScan_of_scanning {s : State} (h : s.scan.state = .scanning) : s.stopScan = s.scanLeft.testDrain := if_pos h

theorem State.mem_scanLeft_waiting (s : State) (q : SlotRequest) :
    q ∈ s.scanLeft.unit.waiting ↔ q ∈ s.unit.waiting ∧ q.owner ≠ .scan .a ∧ q.owner ≠ .scan .b := by
  refine List.mem_filter.trans (and_congr_right fun _ => ?_)
  rw [Bool.not_eq_true', ← Bool.not_eq_true, Owner.isScan_iff, not_or]

theorem State.scanLeft_slot (s : State) (i : SlotId) : s.scanLeft.unit.slots[i] =
    if s.unit.slots[i].owner = some (.scan .a) ∨ s.unit.slots[i].owner = some (.scan .b) then
      { s.unit.slots[i] with discard := true } else s.unit.slots[i] := by
  have hslot (x : Slot) : x.owner.any Owner.isScan = true ↔ x.owner = some (.scan .a) ∨ x.owner = some (.scan .b) := by
    cases x.owner <;> simp [Owner.isScan_iff]
  have hget : s.scanLeft.unit.slots[i] = if s.unit.slots[i].owner.any Owner.isScan then
      { s.unit.slots[i] with discard := true } else s.unit.slots[i] := by
    simp [State.scanLeft, mapTable]
  rw [hget]
  exact ite_congr (propext (hslot _)) (fun _ => rfl) fun _ => rfl

end Sys2Proof.Machine
end

section

/-! ### The end of a segment and of a scan (R144, R146 to R148) -/

namespace Sys2Proof.Machine

/-! The sweep stays as it is while detections are applied -/

theorem State.raise_scan (s : State) (n : Notice) (object : Byte) (detail : List Byte) : (s.raise n object detail).scan = s.scan := by
  rw [State.raise_eq]

theorem State.autoPick_scan (s : State) (l : LinkId) (raised : Bool) : (s.autoPick l raised).scan = s.scan := by
  unfold State.autoPick
  split
  · rfl
  · split
    · rfl
    · split
      · rfl
      · exact s.raise_scan _ _ _

theorem State.fileRetune_parts (s : State) (l : LinkId) (target : Target) (reason : Reason) (force : Bool) :
    (s.fileRetune l target reason force).1 = { s with retuneQueue := (s.fileRetune l target reason force).1.retuneQueue } := by
  unfold State.fileRetune
  dsimp only
  split
  · rfl
  · split <;> rfl

theorem State.autoFile_scan (s : State) (l : LinkId) (target : Target) (reason : Reason) : (s.autoFile l target reason).1.scan = s.scan := by
  have hfiled : (s.fileRetune l target reason false).1.scan = s.scan := by rw [s.fileRetune_parts l target reason false]
  unfold State.autoFile
  split
  · rfl
  · generalize s.fileRetune l target reason false = filed at hfiled
    obtain ⟨t, f⟩ := filed
    cases f with
    | full => exact (t.raise_scan _ _ _).trans hfiled
    | added held p => exact hfiled
    | replaced held p => exact hfiled

theorem State.conflictWith_scan (s : State) (x : Foreign) (update : Bool) (e : EntryId) : (s.conflictWith x update e).scan = s.scan := by
  have htold : (s.raiseOnCarrier e x).scan = s.scan := s.raise_scan _ _ _
  have hsuspect : ((s.setSuspect e).raiseOnCarrier e x).scan = s.scan := (State.raise_scan _ _ _ _).trans rfl
  have hreleased : (s.releaseEntry e).scan = s.scan := by rw [s.releaseEntry_parts e]
  unfold State.conflictWith
  dsimp only
  split
  · split
    · have hlost (l : LinkId) : ((s.releaseEntry e).raiseBackupLost l (some e) 1 0).scan = s.scan := (State.raise_scan _ _ _ _).trans hreleased
      split
      · exact (State.autoPick_scan _ _ _).trans (hlost _)
      · exact hlost _
    · exact hreleased
  · split
    · rfl
    · split
      · split
        · exact (State.autoFile_scan _ _ _ _).trans hsuspect
        · exact hsuspect
      · exact hsuspect
  · split
    · rfl
    · exact htold
  · split
    · rfl
    · exact htold
  · rfl
  · rfl

theorem State.foreignConflict_scan (s : State) (x : Foreign) (update : Bool) : (s.foreignConflict x update).scan = s.scan := by
  have along (es : List EntryId) (t : State) : (es.foldl (fun u e => State.conflictWith u x update e) t).scan = t.scan := by
    induction es generalizing t with
    | nil => rfl
    | cons e es ih => exact (ih _).trans (t.conflictWith_scan x update e)
  exact along _ s

/-- The scan engine is as it was but for the foreign list and its counts. -/
def Scan.sweepsAs (c d : Scan) : Prop := c = { d with foreign := c.foreign, inserted := c.inserted, removed := c.removed }

theorem Scan.sweepsAs.trans {a b c : Scan} (h : a.sweepsAs b) (k : b.sweepsAs c) : a.sweepsAs c := by
  rw [Scan.sweepsAs] at h k ⊢
  rw [h, k]

theorem State.insertForeign_sweeps (s : State) (d : Detection) : (s.insertForeign d).scan.sweepsAs s.scan := by
  rw [State.insertForeign]
  dsimp only
  rw [State.foreignConflict_scan, State.raise_scan]
  rfl

theorem State.removeForeign_sweeps (s : State) (p : Nat) (x : Foreign) (cause : Nat) : (s.removeForeign p x cause).scan.sweepsAs s.scan := by
  rw [State.removeForeign, State.raiseGone, State.raise_scan]
  rfl

theorem State.applyDetection_sweeps (s : State) (d : Detection) : (s.applyDetection d).scan.sweepsAs s.scan := by
  unfold State.applyDetection
  split
  · rfl
  · split
    · split
      · rw [State.foreignConflict_scan]
        rfl
      · rfl
    · split
      · exact s.insertForeign_sweeps d
      · split
        · split
          · split
            · exact (State.insertForeign_sweeps _ d).trans (s.removeForeign_sweeps _ _ _)
            · rfl
          · rfl
        · rfl

theorem State.applyDetections_sweep (ds : List Detection) (s : State) : (ds.foldl State.applyDetection s).scan.sweepsAs s.scan := by
  induction ds generalizing s with
  | nil => rfl
  | cons d ds ih => exact (ih _).trans (s.applyDetection_sweeps d)

/-! Detections in ascending frequency (R146) -/

/-- The order of detections. -/
def Detection.upTo (a b : Detection) : Prop := a.freq ≤ b.freq

theorem insertDetection_perm (d : Detection) (ds : List Detection) : (insertDetection d ds).Perm (d :: ds) := by
  induction ds with
  | nil => exact List.Perm.refl _
  | cons x xs ih =>
    rw [insertDetection]
    split
    · exact List.Perm.refl _
    · exact (ih.cons x).trans (List.Perm.swap d x xs)

theorem insertDetection_sorted (d : Detection) {ds : List Detection} (h : ds.Pairwise Detection.upTo) :
    (insertDetection d ds).Pairwise Detection.upTo := by
  induction ds with
  | nil => exact List.pairwise_singleton _ _
  | cons x xs ih =>
    obtain ⟨hx, hxs⟩ := List.pairwise_cons.mp h
    rw [insertDetection]
    split
    next hle => exact List.pairwise_cons.mpr ⟨List.forall_mem_cons.mpr ⟨hle, fun y hy => Nat.le_trans hle (hx y hy)⟩, h⟩
    next hgt =>
      refine List.pairwise_cons.mpr ⟨fun y hy => ?_, ih hxs⟩
      rcases List.mem_cons.mp ((insertDetection_perm d xs).mem_iff.mp hy) with rfl | hy
      · exact Nat.le_of_not_le hgt
      · exact hx y hy

theorem sortDetections_perm (ds : List Detection) : (sortDetections ds).Perm ds := by
  induction ds with
  | nil => exact List.Perm.refl _
  | cons d ds ih => exact (insertDetection_perm d _).trans (ih.cons d)

theorem sortDetections_sorted (ds : List Detection) : (sortDetections ds).Pairwise fun a b => a.freq ≤ b.freq := by
  induction ds with
  | nil => exact List.Pairwise.nil
  | cons d ds ih => exact insertDetection_sorted d ih

/-! The end of a segment -/

/-- The state once a segment has ended, before its receiver goes on (R146, R147). -/
def State.segmentClosed (s : State) (rc : Receiver) (g : Fin 16) (cond : Condition) : State :=
  if cond = .done then s.segmentDone rc else s.segmentFailed rc g cond

theorem State.segmentEnded_of_current {s : State} {rc : Receiver} {g : Fin 16} (h : (s.sweeper rc).current = some g) (cond : Condition) :
    s.segmentEnded rc cond =
      let t := (s.segmentClosed rc g cond).startSegment rc
      if t.scan.state = .scanning ∧ t.scanOver = true then t.endScan else t := by
  rw [State.segmentEnded, h]
  rfl

/-- What a segment's end leaves of the sweep: the receiver's results are gone. -/
def Scan.emptied (c : Scan) : Receiver → Scan
  | .a => { c with recvA := { c.recvA with results := [] } }
  | .b => { c with recvB := { c.recvB with results := [] } }

theorem State.setAside_scan (s : State) (rc : Receiver) : (s.setAside rc).scan = s.scan.emptied rc := by cases rc <;> rfl

/-- The parts of the sweep by which its receivers go on. -/
def Scan.goesOnAs (c d : Scan) : Prop := c.segments = d.segments ∧ c.settings = d.settings ∧ c.state = d.state
  ∧ c.recvA.current = d.recvA.current ∧ c.recvA.todo = d.recvA.todo ∧ c.recvB.current = d.recvB.current ∧ c.recvB.todo = d.recvB.todo

theorem Scan.goesOnAs_of_sweeps {c d : Scan} (h : c.sweepsAs d) : c.goesOnAs d := by
  rw [Scan.sweepsAs] at h
  rw [h]
  exact ⟨rfl, rfl, rfl, rfl, rfl, rfl, rfl⟩

theorem Scan.goesOnAs_emptied {c d : Scan} (h : c.goesOnAs d) (rc : Receiver) : (c.emptied rc).goesOnAs d := by
  cases rc <;> exact h

theorem State.segmentDone_eq (s : State) (rc : Receiver) : s.segmentDone rc =
    let t := ((sortDetections (s.sweeper rc).results).foldl State.applyDetection s).setAside rc
    { t with scan := { t.scan with done := s.scan.done + 1 } } := by
  have hswept := State.applyDetections_sweep (sortDetections (s.sweeper rc).results) s
  have hdone : (((sortDetections (s.sweeper rc).results).foldl State.applyDetection s).setAside rc).scan.done = s.scan.done := by
    rw [Scan.sweepsAs] at hswept
    rw [State.setAside_scan, hswept]
    cases rc <;> rfl
  rw [← hdone]
  rfl

theorem State.segmentFailed_eq (s : State) (rc : Receiver) (g : Fin 16) (cond : Condition) : s.segmentFailed rc g cond =
    let t := (s.setAside rc).raise .scanSegmentFailed (BitVec.ofNat 8 g.val) (u8 rc.code ++ u8 cond.code ++ half s.scan.number)
    { t with scan := { t.scan with
      failedRanges := s.scan.failedRanges ++ [(s.scan.segments[g].start, s.scan.segments[g].stop)], failed := s.scan.failed + 1 } } := by
  have hscan (object : Byte) (detail : List Byte) : ((s.setAside rc).raise .scanSegmentFailed object detail).scan = s.scan.emptied rc :=
    (State.raise_scan _ _ _ _).trans (s.setAside_scan rc)
  have hparts : (s.scan.emptied rc).failedRanges = s.scan.failedRanges ∧ (s.scan.emptied rc).failed = s.scan.failed
      ∧ (s.scan.emptied rc).segments = s.scan.segments := by cases rc <;> exact ⟨rfl, rfl, rfl⟩
  have hobject : byteAt (u8 g.val) 0 = BitVec.ofNat 8 g.val := rfl
  rw [State.segmentFailed, hobject]
  dsimp only
  rw [hscan, hparts.1, hparts.2.1, hparts.2.2]

theorem State.segmentClosed_goesOn (s : State) (rc : Receiver) (g : Fin 16) (cond : Condition) :
    (s.segmentClosed rc g cond).scan.goesOnAs s.scan := by
  unfold State.segmentClosed
  split
  · have hswept := Scan.goesOnAs_of_sweeps (State.applyDetections_sweep (sortDetections (s.sweeper rc).results) s)
    have hempty := Scan.goesOnAs_emptied hswept rc
    rw [← State.setAside_scan] at hempty
    rw [State.segmentDone_eq]
    exact hempty
  · have hraised : ((s.setAside rc).raise .scanSegmentFailed (BitVec.ofNat 8 g.val) (u8 rc.code ++ u8 cond.code
        ++ half s.scan.number)).scan.goesOnAs s.scan := by
      rw [State.raise_scan, State.setAside_scan]
      cases rc <;> exact ⟨rfl, rfl, rfl, rfl, rfl, rfl, rfl⟩
    rw [State.segmentFailed_eq]
    exact hraised

end Sys2Proof.Machine
end

section

/-! ### The aging of a scan's end, and the statement of O48 (R144, R147, R148) -/

namespace Sys2Proof.Machine

/-! Aging -/

/-- The entries that a scan's end removes, and those it keeps (R148). -/
def State.expired (s : State) (xs : List Foreign) : List Foreign := xs.filter fun x => decide (s.scan.settings.ageLimit ≤ x.misses)
def State.staying (s : State) (xs : List Foreign) : List Foreign := xs.filter fun x => decide (x.misses < s.scan.settings.ageLimit)

theorem State.expired_cons_of_old {s : State} {x : Foreign} (h : s.scan.settings.ageLimit ≤ x.misses) (xs : List Foreign) :
    s.expired (x :: xs) = x :: s.expired xs ∧ s.staying (x :: xs) = s.staying xs :=
  ⟨List.filter_cons_of_pos (decide_eq_true h), List.filter_cons_of_neg (by simpa using h)⟩

theorem State.expired_cons_of_young {s : State} {x : Foreign} (h : ¬ s.scan.settings.ageLimit ≤ x.misses) (xs : List Foreign) :
    s.expired (x :: xs) = s.expired xs ∧ s.staying (x :: xs) = x :: s.staying xs :=
  ⟨List.filter_cons_of_neg (by simpa using h), List.filter_cons_of_pos (by simpa using h)⟩

/-- What the removals of a scan's end leave: the foreign list, the counts, the generation, and else the notices' parts alone. -/
structure State.AgedFrom (s : State) (kept xs : List Foreign) (t : State) : Prop where
  scan : t.scan = { s.scan with foreign := kept ++ s.staying xs, removed := s.scan.removed + (s.expired xs).length }
  plan : t.plan = { s.plan with gen := s.plan.gen + BitVec.ofNat 16 (s.expired xs).length }
  rest : t = { s with scan := t.scan, plan := t.plan, agent := t.agent, uport := t.uport }
  flags : t.agent = { s.agent with flags := t.agent.flags }

theorem State.removeAged_spec {s : State} (kept xs : List Foreign) (h : s.scan.foreign = kept ++ xs) :
    s.AgedFrom kept xs (s.removeAged kept.length xs) := by
  induction xs generalizing s kept with
  | nil =>
    have hscan : s.scan = { s.scan with foreign := kept ++ s.staying [], removed := s.scan.removed + (s.expired []).length } := by
      have hlist : s.scan.foreign = kept ++ s.staying [] := h
      rw [← hlist]
      rfl
    have hplan : s.plan = { s.plan with gen := s.plan.gen + BitVec.ofNat 16 (s.expired []).length } := by
      have hgen : s.plan.gen + BitVec.ofNat 16 (s.expired []).length = s.plan.gen := BitVec.add_zero _
      rw [hgen]
    exact ⟨hscan, hplan, rfl, rfl⟩
  | cons x xs ih =>
    unfold State.removeAged
    by_cases hold : s.scan.settings.ageLimit ≤ x.misses
    · obtain ⟨hexpired, hstaying⟩ := State.expired_cons_of_old hold xs
      have hgone := State.removeForeign_eq h 1
      have hscan : (s.removeForeign kept.length x 1).scan = { s.scan with foreign := kept ++ xs, removed := s.scan.removed + 1 } := by
        rw [hgone, State.raise_scan]
      have hplan : (s.removeForeign kept.length x 1).plan = { s.plan with gen := s.plan.gen + 1 } := by rw [hgone, State.raise_eq]
      have hrest : s.removeForeign kept.length x 1 = { s with
          scan := (s.removeForeign kept.length x 1).scan, plan := (s.removeForeign kept.length x 1).plan
          agent := (s.removeForeign kept.length x 1).agent, uport := (s.removeForeign kept.length x 1).uport } := by
        rw [hgone, State.raise_eq]
      have hflags : (s.removeForeign kept.length x 1).agent = { s.agent with flags := (s.removeForeign kept.length x 1).agent.flags } := by
        rw [hgone, State.raise_eq]
      rw [if_pos hold]
      generalize s.removeForeign kept.length x 1 = u at hscan hplan hrest hflags
      have hlist : u.scan.foreign = kept ++ xs := by rw [hscan]
      have hage : u.scan.settings = s.scan.settings := by rw [hscan]
      have hstay : u.staying xs = s.staying xs := by rw [State.staying, State.staying, hage]
      have hexp : u.expired xs = s.expired xs := by rw [State.expired, State.expired, hage]
      obtain ⟨hs, hp, hr, hf⟩ := ih kept hlist
      refine ⟨?_, ?_, ?_, ?_⟩
      · rw [hs, hstay, hexp, hscan, hstaying, hexpired, List.length_cons, Nat.add_assoc, Nat.add_comm 1]
      · have hgen : s.plan.gen + 1 + BitVec.ofNat 16 (s.expired xs).length = s.plan.gen + BitVec.ofNat 16 ((s.expired xs).length + 1) := by
          rw [BitVec.add_assoc, BitVec.add_comm 1, BitVec.ofNat_add]
          rfl
        rw [hp, hexp, hplan, hexpired, List.length_cons, hgen]
      · rw [hr, hrest]
      · rw [hf, hflags]
    · obtain ⟨hexpired, hstaying⟩ := State.expired_cons_of_young hold xs
      have hlen : kept.length + 1 = (kept ++ [x]).length := by rw [List.length_append]; rfl
      rw [if_neg hold, hlen]
      obtain ⟨hs, hp, hr, hf⟩ := ih (kept ++ [x]) (by rw [h, List.append_assoc]; rfl)
      refine ⟨?_, ?_, hr, hf⟩
      · rw [hs, hexpired, hstaying, List.append_assoc]
        rfl
      · rw [hp, hexpired]

/-- Entries that are not removed are passed. -/
theorem State.removeAged_of_young {s : State} {xs : List Foreign} (h : s.expired xs = []) (p : Nat) (ys : List Foreign) :
    s.removeAged p (xs ++ ys) = s.removeAged (p + xs.length) ys := by
  induction xs generalizing p with
  | nil => rfl
  | cons x xs ih =>
    have hyoung : ¬ s.scan.settings.ageLimit ≤ x.misses := by
      simpa using List.filter_eq_nil_iff.mp h x List.mem_cons_self
    rw [(State.expired_cons_of_young hyoung xs).1] at h
    rw [List.cons_append, State.removeAged, if_neg hyoung, ih h, List.length_cons, Nat.add_assoc, Nat.add_comm 1]

theorem State.removeAged_of_one {s : State} {before after : List Foreign} {x : Foreign} (hlist : s.scan.foreign = before ++ x :: after)
    (hbefore : s.expired before = []) (hafter : s.expired after = []) (hx : s.scan.settings.ageLimit ≤ x.misses) :
    s.removeAged 0 (before ++ x :: after) = s.removeForeign before.length x 1 := by
  have hsettings : (s.removeForeign before.length x 1).scan.settings = s.scan.settings := by
    rw [State.removeForeign_eq hlist, State.raise_scan]
  have hrest : (s.removeForeign before.length x 1).expired after = [] := by rw [State.expired, hsettings]; exact hafter
  have hend := State.removeAged_of_young hrest before.length []
  rw [List.append_nil] at hend
  rw [State.removeAged_of_young hbefore, Nat.zero_add, State.removeAged, if_pos hx, hend]
  rfl

/-- Where one entry alone is removed, those before and after it stay. -/
theorem State.expired_of_one {s : State} {before after : List Foreign} {x : Foreign} (h : s.expired (before ++ x :: after) = [x])
    (hx : s.scan.settings.ageLimit ≤ x.misses) : s.expired before = [] ∧ s.expired after = [] := by
  have hsplit : s.expired before ++ x :: s.expired after = [x] := by
    rw [← h, ← (State.expired_cons_of_old hx after).1]
    exact (List.filter_append _ _).symm
  have hlen := congrArg List.length hsplit
  rw [List.length_append, List.length_cons, List.length_singleton] at hlen
  exact ⟨List.length_eq_zero_iff.mp (by omega), List.length_eq_zero_iff.mp (by omega)⟩

theorem State.setForeign_left (s : State) (xs : List Foreign) : s.setForeign xs = { s with
    scan := { s.scan with foreign := xs, removed := s.scan.removed + ([] : List Foreign).length }
    plan := { s.plan with gen := s.plan.gen + BitVec.ofNat 16 ([] : List Foreign).length } } := by
  have hgen : s.plan.gen + BitVec.ofNat 16 ([] : List Foreign).length = s.plan.gen := BitVec.add_zero _
  rw [hgen]
  rfl

theorem Scan.aged_eq (c : Scan) : c.aged = c.foreign.map fun x =>
    if x.lastSeen ≠ c.number ∧ ¬ ∃ r ∈ c.failedRanges, r.1 ≤ x.freq ∧ x.freq ≤ r.2 then { x with misses := x.misses + 1 } else x := by
  rw [Scan.aged]
  refine List.map_congr_left fun x _ => ite_congr (propext (and_congr_right fun _ => not_congr ?_)) (fun _ => rfl) fun _ => rfl
  simp

theorem State.ageForeign_spec (s : State) : (s.setForeign s.scan.aged).AgedFrom [] s.scan.aged s.ageForeign :=
  State.removeAged_spec [] s.scan.aged rfl

/-! The end of a scan -/

/-- The state once a scan is ended and told, IDLE. -/
def State.scanIdle (u : State) : State := { u with scan := { u.scan with state := .idle } }

theorem State.endScan_eq (s : State) : s.endScan =
    if s.ageForeign.raiseScanDone.scanIdle.loops = true then s.ageForeign.raiseScanDone.scanIdle.beginScan
    else s.ageForeign.raiseScanDone.scanIdle.testDrain := rfl

theorem scanCountByte_of_lt {n : Nat} (h : n < 256) : [scanCountByte n] = u8 n := by
  rw [scanCountByte, if_pos h]
  rfl

/-- The end of a slot of the scan engine whose discard mark is clear. -/
theorem State.endSlot_of_scan {s : State} {i : SlotId} {rc : Receiver} (howner : s.unit.slots[i].owner = some (.scan rc))
    (hdiscard : s.unit.slots[i].discard = false) (cond : Condition) (data : List Byte) :
    s.endSlot i cond data = (s.freed i).segmentEnded rc cond := by
  have hx : (s.unit.slots[i].ended cond).owner = some (.scan rc) := howner
  rw [State.endSlot_eq, State.handOver, hx]
  exact if_neg (Bool.eq_false_iff.mp hdiscard)

theorem State.scanOver_setSweeper (s : State) (rc : Receiver) (x : Sweeper) : (s.setSweeper rc x).scanOver = true ↔
    x.current = none ∧ ∀ r : Receiver, r ≠ rc → (s.sweeper r).current = none := by
  have hboth (a b : Option (Fin 16)) : (a.isNone && b.isNone) = true ↔ a = none ∧ b = none := by
    rw [Bool.and_eq_true, Option.isNone_iff_eq_none, Option.isNone_iff_eq_none]
  cases rc with
  | a =>
    refine (hboth x.current s.scan.recvB.current).trans (and_congr_right fun _ => ⟨fun h r hr => ?_, fun h => h .b (by decide)⟩)
    cases r with
    | a => exact absurd rfl hr
    | b => exact h
  | b =>
    refine (hboth s.scan.recvA.current x.current).trans (and_comm.trans (and_congr_right fun _ => ⟨fun h r hr => ?_, fun h => h .a (by decide)⟩))
    cases r with
    | a => exact h
    | b => exact absurd rfl hr

theorem State.setSweeper_state (s : State) (rc : Receiver) (x : Sweeper) : (s.setSweeper rc x).scan.state = s.scan.state := by cases rc <;> rfl

theorem State.sweeper_goesOn {s t : State} (h : t.scan.goesOnAs s.scan) (rc : Receiver) : (t.sweeper rc).current = (s.sweeper rc).current
    ∧ (t.sweeper rc).todo = (s.sweeper rc).todo ∧ t.recvAddress rc = s.recvAddress rc := by
  obtain ⟨-, hsettings, -, hac, hat, hbc, hbt⟩ := h
  cases rc with
  | a => exact ⟨hac, hat, congrArg ScanSettings.recvA hsettings⟩
  | b => exact ⟨hbc, hbt, congrArg ScanSettings.recvB hsettings⟩

/-- A receiver that goes on asks for a slot for its next segment; with its half done it is done, and the scan with both (R144). -/
theorem State.segmentEnded_of_more {s : State} {rc : Receiver} {g h : Fin 16} {todo : List (Fin 16)} (hg : (s.sweeper rc).current = some g)
    (hmore : (s.sweeper rc).todo = h :: todo) (cond : Condition) : s.segmentEnded rc cond =
      ((s.segmentClosed rc g cond).setSweeper rc (sweeping h todo)).askSlot (s.segmentRequest rc h) := by
  have hgoes := s.segmentClosed_goesOn rc g cond
  obtain ⟨-, htodo, haddress⟩ := State.sweeper_goesOn hgoes rc
  have hrequest : (s.segmentClosed rc g cond).segmentRequest rc h = s.segmentRequest rc h := by
    rw [State.segmentRequest, State.segmentRequest, haddress, hgoes.1]
  have hstart : (s.segmentClosed rc g cond).startSegment rc =
      ((s.segmentClosed rc g cond).setSweeper rc (sweeping h todo)).askSlot (s.segmentRequest rc h) := by
    rw [State.startSegment_of_some (htodo.trans hmore), hrequest]
    rfl
  rw [State.segmentEnded_of_current hg, hstart]
  refine if_neg fun ⟨_, hover⟩ => ?_
  rw [State.askSlot_parts] at hover
  exact absurd ((State.scanOver_setSweeper _ rc (sweeping h todo)).mp hover).1 nofun

theorem State.segmentEnded_of_last {s : State} {rc : Receiver} {g : Fin 16} (hg : (s.sweeper rc).current = some g)
    (hlast : (s.sweeper rc).todo = []) (cond : Condition) :
    (s.scan.state = .scanning → (∀ r : Receiver, r ≠ rc → (s.sweeper r).current = none) →
      s.segmentEnded rc cond = ((s.segmentClosed rc g cond).setSweeper rc {}).endScan)
    ∧ ((s.scan.state ≠ .scanning ∨ ¬ ∀ r : Receiver, r ≠ rc → (s.sweeper r).current = none) →
      s.segmentEnded rc cond = (s.segmentClosed rc g cond).setSweeper rc {}) := by
  have hgoes := s.segmentClosed_goesOn rc g cond
  obtain ⟨-, -, hstate, -⟩ := hgoes
  have hcurrent (r : Receiver) := (State.sweeper_goesOn (s.segmentClosed_goesOn rc g cond) r).1
  have hstart : (s.segmentClosed rc g cond).startSegment rc = (s.segmentClosed rc g cond).setSweeper rc {} :=
    State.startSegment_of_none ((State.sweeper_goesOn (s.segmentClosed_goesOn rc g cond) rc).2.1.trans hlast)
  have hiff : (((s.segmentClosed rc g cond).setSweeper rc {}).scan.state = .scanning
        ∧ ((s.segmentClosed rc g cond).setSweeper rc {}).scanOver = true)
      ↔ s.scan.state = .scanning ∧ ∀ r : Receiver, r ≠ rc → (s.sweeper r).current = none := by
    rw [State.setSweeper_state, hstate, State.scanOver_setSweeper]
    simp only [hcurrent, true_and]
  rw [State.segmentEnded_of_current hg, hstart]
  exact ⟨fun hscanning hover => if_pos (hiff.mpr ⟨hscanning, hover⟩),
    fun hno => if_neg fun hh => hno.elim (· (hiff.mp hh).1) (· (hiff.mp hh).2)⟩

theorem State.sweepHalf_of_sequential {s : State} (hp : s.scan.settings.parallel = false) (ha : s.scan.settings.recvA ≠ 0) :
    s.sweepHalf .a = ((List.finRange 16).takeWhile fun i => s.scan.segments[i].enabled) ∧ s.sweepHalf .b = [] := by
  have hno : ¬ s.scan.settings.parallel = true := Bool.eq_false_iff.mp hp
  rw [State.sweepHalf_a, if_neg ha, if_neg hno, State.enabledRun_all, State.sweepHalf_b, if_neg hno, ite_self]
  exact ⟨rfl, rfl⟩

theorem State.hasSegments_of_a {s : State} {g : Fin 16} {rest : List (Fin 16)} (h : s.sweepHalf .a = g :: rest) : s.hasSegments = true := by
  rw [State.hasSegments, h]
  rfl

theorem State.hasSegments_congr {s t : State} (hsegments : t.scan.segments = s.scan.segments) (hsettings : t.scan.settings = s.scan.settings) :
    t.hasSegments = s.hasSegments := by
  rw [Bool.eq_iff_iff, State.hasSegments_iff, State.hasSegments_iff, State.sweeps, State.sweeps, hsegments, hsettings]

theorem State.scanTrigger_of_idle {s : State} (h : s.scan.state = .idle) :
    s.scanTrigger = if s.hasSegments = true ∧ s.agent.quiesce = .running then s.beginScan else s := by
  rw [State.scanTrigger, h]

theorem State.raiseScanDone_eq {t : State} (hi : t.scan.inserted < 256) (hr : t.scan.removed < 256) : t.raiseScanDone =
    t.raise .scanDone 0 (half t.scan.number ++ u8 t.scan.done ++ u8 t.scan.failed ++ u8 t.scan.foreign.length ++ u8 t.scan.inserted
      ++ u8 t.scan.removed) := by
  rw [State.raiseScanDone, ← scanCountByte_of_lt hi, ← scanCountByte_of_lt hr, List.append_assoc _ [_] [_]]
  rfl

/-! The rows -/

section
variable {s : State} {r : Request} (h : s.Takes r)
include h

theorem exec_scanListRead (hcode : r.code = 0x1C) (hlen : 1 ≤ r.args.length) :
    (16 ≤ u8At r.args 0 → exec .scanListRead s = .next (s.answer r .badIndex []))
    ∧ (∀ i : Fin 16, u8At r.args 0 = i.val → exec .scanListRead s = .next (s.answer r .ok s.scan.segments[i].bytes)) := by
  have hrow : hasCode 0x1C r = true := hasCode_of_args r 0x1C 1 hcode (by decide) rfl hlen
  refine ⟨fun hi => exec_answer (f := State.scanListRead) h rfl hrow ?_ rfl,
    fun i hi => exec_answer (f := State.scanListRead) h rfl hrow ?_ rfl⟩
  · rw [State.scanListRead, indexOf?_of_le hi]
  · rw [State.scanListRead, indexOf?_of_eq hi]

theorem exec_scanListWrite_of_index (hcode : r.code = 0x1D) (hlen : 14 ≤ r.args.length) (hi : 16 ≤ u8At r.args 0) :
    exec .scanListWrite s = .next (s.answer r .badIndex []) := by
  have hrow : hasCode 0x1D r = true := hasCode_of_args r 0x1D 14 hcode (by decide) rfl hlen
  refine exec_answer (f := State.scanListWrite) h rfl hrow ?_ rfl
  rw [State.scanListWrite, indexOf?_of_le hi]

theorem exec_scanListWrite (hcode : r.code = 0x1D) (hlen : 14 ≤ r.args.length) {i : Fin 16} (hi : u8At r.args 0 = i.val) {g : Segment}
    (hg : segmentOf r.args = g) : exec .scanListWrite s = .next
      (if s.scan.state = .scanning then s.answer r .busy []
      else if g.enabled = true ∧ g.ok = false then s.answer r .badValue []
      else State.answer { s with scan := { s.scan with segments := put s.scan.segments i g } } r .ok g.bytes) := by
  have hrow : hasCode 0x1D r = true := hasCode_of_args r 0x1D 14 hcode (by decide) rfl hlen
  have hf : s.scanListWrite r = if s.scan.state = .scanning then s.answer r .busy []
      else if g.enabled = true ∧ g.ok = false then s.answer r .badValue []
      else State.answer { s with scan := { s.scan with segments := put s.scan.segments i g } } r .ok g.bytes := by
    rw [State.scanListWrite, indexOf?_of_eq hi, hg]
    simp only [Bool.not_eq_true']
  by_cases hscanning : s.scan.state = .scanning
  · rw [if_pos hscanning] at hf ⊢
    exact exec_answer (f := State.scanListWrite) h rfl hrow hf rfl
  · rw [if_neg hscanning] at hf ⊢
    by_cases hbad : g.enabled = true ∧ g.ok = false
    · rw [if_pos hbad] at hf ⊢
      exact exec_answer (f := State.scanListWrite) h rfl hrow hf rfl
    · rw [if_neg hbad] at hf ⊢
      exact exec_answer (f := State.scanListWrite) h rfl hrow hf rfl

theorem exec_scanStart_of_idle (hcode : r.code = 0x40) (hidle : s.scan.state = .idle) :
    (s.agent.quiesce = .running → s.hasSegments = true → exec .scanStart s = .next (s.beginScan.answer r .ok []))
    ∧ (¬ (s.agent.quiesce = .running ∧ s.hasSegments = true) → exec .scanStart s = .next (s.answer r .badState [])) := by
  have hrow : hasCode 0x40 r = true := hasCode_of_args r 0x40 0 hcode (by decide) rfl (Nat.zero_le _)
  have hrequests : s.beginScan.agent.requests = s.agent.requests := by rw [State.beginScan_parts]
  exact ⟨fun hrun hseg => exec_answer (f := State.scanStart) h rfl hrow ((if_pos hidle).trans (if_pos ⟨hrun, hseg⟩)) hrequests,
    fun hno => exec_answer (f := State.scanStart) h rfl hrow ((if_pos hidle).trans (if_neg hno)) rfl⟩

theorem exec_scanStart_of_busy (hcode : r.code = 0x40) (hbusy : s.scan.state ≠ .idle) : exec .scanStart s = .next
    ((s.raise .startIgnored 0 (u8 s.scan.state.code ++ u8 1)).answer r .ok []) := by
  have hrow : hasCode 0x40 r = true := hasCode_of_args r 0x40 0 hcode (by decide) rfl (Nat.zero_le _)
  exact exec_answer (f := State.scanStart) h rfl hrow (if_neg hbusy) (State.raise_requests _ _ _ _)

theorem exec_scanStop (hcode : r.code = 0x41) :
    (s.scan.state ≠ .scanning → exec .scanStop s = .next (State.answer { s with scan := { s.scan with state := .stopped } } r .ok []))
    ∧ (s.scan.state = .scanning → exec .scanStop s = .next (s.scanLeft.testDrain.answer r .ok [])) := by
  have hrow : hasCode 0x41 r = true := hasCode_of_args r 0x41 0 hcode (by decide) rfl (Nat.zero_le _)
  refine ⟨fun hno => exec_answer (f := State.scanStop) h rfl hrow ?_ rfl,
    fun hscanning => exec_answer (f := State.scanStop) h rfl hrow ?_ (State.testDrain_requests _)⟩
  · exact congrArg (fun u : State => u.answer r .ok []) (if_neg hno)
  · exact congrArg (fun u : State => u.answer r .ok []) (State.stopScan_of_scanning hscanning)

theorem exec_scanRelease (hcode : r.code = 0x42) :
    (s.scan.state = .stopped → exec .scanRelease s = .next (State.answer { s with scan := { s.scan with state := .idle } } r .ok []))
    ∧ (s.scan.state ≠ .stopped → exec .scanRelease s = .next (s.answer r .badState [])) := by
  have hrow : hasCode 0x42 r = true := hasCode_of_args r 0x42 0 hcode (by decide) rfl (Nat.zero_le _)
  exact ⟨fun hst => exec_answer (f := State.scanRelease) h rfl hrow (if_pos hst) rfl,
    fun hst => exec_answer (f := State.scanRelease) h rfl hrow (if_neg hst) rfl⟩

end

/-- The trigger takes its step of the due list. -/
theorem exec_scanTrigger {s t : State} (hdue : .scanTrigger ∈ s.due) (ht : { s with due := s.due.erase .scanTrigger } = t) :
    exec .scanTrigger s = .next t.scanTrigger := by
  subst ht
  exact congrArg Host.Outcome.next (State.dueStep_of_mem hdue)

theorem State.scanTrigger_of_busy {s : State} : (s.scan.state = .scanning → s.scanTrigger = s.raise .startIgnored 0 (u8 1 ++ u8 2))
    ∧ (s.scan.state = .stopped → s.scanTrigger = s) := by
  refine ⟨fun h => ?_, fun h => ?_⟩
  · rw [State.scanTrigger, h, State.raiseStartIgnored, h]
    rfl
  · rw [State.scanTrigger, h]

/-- A SEQUENTIAL scan begins with receiver A's first segment. -/
theorem State.beginScan_of_sequential {s : State} {g : Fin 16} {rest : List (Fin 16)} (hp : s.scan.settings.parallel = false)
    (ha : s.scan.settings.recvA ≠ 0) (hlist : ((List.finRange 16).takeWhile fun i => s.scan.segments[i].enabled) = g :: rest) :
    s.hasSegments = true ∧ s.beginScan = (s.withScan (s.scan.begun (sweeping g rest) {})).askSlot (s.segmentRequest .a g) := by
  obtain ⟨hhalf, hnone⟩ := State.sweepHalf_of_sequential hp ha
  exact ⟨State.hasSegments_of_a (hhalf.trans hlist), State.beginScan_of_a (hhalf.trans hlist) hnone⟩

theorem State.scanLeft_rest (s : State) : s.scanLeft = { s with
    unit := { s.unit with waiting := s.scanLeft.unit.waiting, slots := s.scanLeft.unit.slots }
    scan := { s.scan with state := .stopped, recvA := {}, recvB := {} } } := rfl

/-- A segment's end closes it, by its condition. -/
theorem State.segmentClosed_eq (s : State) (rc : Receiver) (g : Fin 16) (cond : Condition) : s.segmentClosed rc g cond =
    if cond = .done then
      let t := ((sortDetections (s.sweeper rc).results).foldl State.applyDetection s).setAside rc
      { t with scan := { t.scan with done := s.scan.done + 1 } }
    else
      let t := (s.setAside rc).raise .scanSegmentFailed (BitVec.ofNat 8 g.val) (u8 rc.code ++ u8 cond.code ++ half s.scan.number)
      { t with scan := { t.scan with
        failedRanges := s.scan.failedRanges ++ [(s.scan.segments[g].start, s.scan.segments[g].stop)], failed := s.scan.failed + 1 } } := by
  rw [State.segmentClosed, State.segmentDone_eq, State.segmentFailed_eq]

/-- Settles O48. -/
theorem scanListAndStates : Obligations.ScanListAndStates := by
  refine ⟨fun s r h => ?_, ⟨fun s => s.hasSegments_iff, fun s r h hcode => ?_, fun s hdue => ?_⟩, fun s r h => ?_, fun s hparallel => ?_,
    fun s i rc g cond data howner hdiscard hcurrent => ?_, fun s => ?_⟩
  · intro fields
    have hfields (g : Segment) : fields g = g.bytes := g.bytes_eq.symm
    refine ⟨fun hcode hlen => (exec_scanListRead h hcode hlen).1, fun hcode hlen => exec_scanListWrite_of_index h hcode hlen,
      fun i hcode hlen hi => ?_, fun i hcode hlen hi => ?_⟩
    · rw [hfields]
      exact (exec_scanListRead h hcode hlen).2 i hi
    · intro g fits
      have hfits : fits ↔ g.ok = true := g.ok_iff.symm
      rw [hfields, exec_scanListWrite h hcode hlen hi (g := g) rfl]
      refine ⟨fun hscanning => congrArg _ (if_pos hscanning), fun hidle henabled hno => congrArg _ ?_, fun hidle hok => congrArg _ ?_⟩
      · exact (if_neg hidle).trans (if_pos ⟨henabled, Bool.eq_false_iff.mpr (mt hfits.mpr hno)⟩)
      · exact (if_neg hidle).trans (if_neg fun ⟨henabled, hbad⟩ => Bool.eq_false_iff.mp hbad (hfits.mp (hok henabled)))
  · refine ⟨fun g rest hidle hrun hp ha hlist => ?_,
      fun hidle hrun hsweeps => (exec_scanStart_of_idle h hcode hidle).1 hrun (s.hasSegments_iff.mpr hsweeps),
      fun hidle hno => (exec_scanStart_of_idle h hcode hidle).2 fun hh => hno.elim (· hh.1) (· (s.hasSegments_iff.mp hh.2)),
      exec_scanStart_of_busy h hcode⟩
    obtain ⟨hseg, hbegun⟩ := State.beginScan_of_sequential hp ha hlist
    rw [(exec_scanStart_of_idle h hcode hidle).1 hrun hseg, hbegun]
    rfl
  · intro t
    have hrow : exec .scanTrigger s = .next t.scanTrigger := exec_scanTrigger hdue rfl
    rw [hrow]
    refine ⟨fun g rest hidle hrun hp ha hlist => ?_, fun hidle hrun hsweeps => congrArg _ ?_, fun hidle hno => congrArg _ ?_,
      fun hscanning => congrArg _ (State.scanTrigger_of_busy.1 hscanning), fun hstopped => congrArg _ (State.scanTrigger_of_busy.2 hstopped)⟩
    · obtain ⟨hseg, hbegun⟩ := State.beginScan_of_sequential (s := t) hp ha hlist
      rw [State.scanTrigger_of_idle (s := t) hidle, if_pos ⟨hseg, hrun⟩, hbegun]
      rfl
    · exact (State.scanTrigger_of_idle (s := t) hidle).trans (if_pos ⟨s.hasSegments_iff.mpr hsweeps, hrun⟩)
    · exact (State.scanTrigger_of_idle (s := t) hidle).trans
        (if_neg fun hh => hno.elim (· hh.2) (· (s.hasSegments_iff.mp hh.1)))
  · refine ⟨fun hcode => (exec_scanStop h hcode).1, fun hcode hscanning => ⟨s.scanLeft, (exec_scanStop h hcode).2 hscanning, rfl,
      s.mem_scanLeft_waiting, s.scanLeft_slot, ?_⟩, fun hcode => (exec_scanRelease h hcode).1, fun hcode => (exec_scanRelease h hcode).2⟩
    rw [s.scanLeft_rest]
    exact ⟨rfl, rfl, rfl, rfl, rfl, rfl, rfl, rfl, rfl, rfl⟩
  · intro half sweep ask begun unitA unitB idleA idleB
    have hhalf (lo hi : Nat) : half lo hi = s.enabledRun lo hi := (s.enabledRun_eq lo hi).symm
    have ha : s.sweepHalf .a = if unitA = 0 then [] else half 0 8 := by rw [State.sweepHalf_a, if_pos hparallel, hhalf]
    have hb : s.sweepHalf .b = if unitB = 0 then [] else half 8 16 := by rw [State.sweepHalf_b, if_pos hparallel, hhalf]
    have hidleA (h : idleA) : s.sweepHalf .a = [] := by
      rw [ha]
      rcases h with h | h
      · exact if_pos h
      · rw [h, ite_self]
    have hidleB (h : idleB) : s.sweepHalf .b = [] := by
      rw [hb]
      rcases h with h | h
      · exact if_pos h
      · rw [h, ite_self]
    exact ⟨fun g h todoA todoB hA hB hga hgb => State.beginScan_of_both (ha.trans ((if_neg hA).trans hga)) (hb.trans ((if_neg hB).trans hgb)),
      fun g todo hA hga hidle => State.beginScan_of_a (ha.trans ((if_neg hA).trans hga)) (hidleB hidle),
      fun h todo hidle hB hgb => State.beginScan_of_b (hidleA hidle) (hb.trans ((if_neg hB).trans hgb))⟩
  · intro freed emptied
    have hcurrent' : ((s.freed i).sweeper rc).current = some g := by cases rc <;> exact hcurrent
    have hsweeper (r : Receiver) : (s.freed i).sweeper r = s.sweeper r := by cases r <;> rfl
    have hend : s.endSlot i cond data = (s.freed i).segmentEnded rc cond := State.endSlot_of_scan howner hdiscard cond data
    refine ⟨sortDetections (s.sweeper rc).results, (s.freed i).segmentClosed rc g cond, sortDetections_perm _, sortDetections_sorted _, ?_,
      fun h todo hmore => ?_, fun hlast => ?_⟩
    · rw [State.segmentClosed_eq, hsweeper]
      rfl
    · rw [hend, State.segmentEnded_of_more hcurrent' ((congrArg Sweeper.todo (hsweeper rc)).trans hmore)]
      rfl
    · intro last
      obtain ⟨hover, hgoes⟩ := State.segmentEnded_of_last hcurrent' ((congrArg Sweeper.todo (hsweeper rc)).trans hlast) cond
      have hlast' : (∀ r : Receiver, r ≠ rc → ((s.freed i).sweeper r).current = none) ↔ last :=
        forall₂_congr fun r _ => by rw [hsweeper]
      exact ⟨fun hscanning hl => hend.trans (hover hscanning (hlast'.mpr hl)),
        fun hno => hend.trans (hgoes (hno.imp id (mt hlast'.mp)))⟩
  · intro aged old left t
    have haged : s.scan.aged = aged := Scan.aged_eq s.scan
    have hspec : (s.setForeign aged).AgedFrom [] aged t := by rw [← haged]; exact s.ageForeign_spec
    have ht : t = (s.setForeign aged).removeAged 0 aged := by rw [← haged]; rfl
    have hscan : t.scan = (left (aged.filter fun x => x.misses < s.scan.settings.ageLimit)).scan := hspec.scan
    have hleft (f : List Foreign) : left f = { s with
        scan := { s.scan with foreign := f, removed := s.scan.removed + old.length }
        plan := { s.plan with gen := s.plan.gen + BitVec.ofNat 16 old.length } } := rfl
    have hrest : t = { s with scan := t.scan, plan := t.plan, agent := t.agent, uport := t.uport } := hspec.rest
    have hframe : t.links = s.links ∧ t.engine = s.engine ∧ t.retuneQueue = s.retuneQueue ∧ t.unit = s.unit ∧ t.contexts = s.contexts
        ∧ t.timing = s.timing ∧ t.tally = s.tally ∧ t.mixer = s.mixer ∧ t.monitors = s.monitors ∧ t.dport = s.dport := by
      rw [hrest]
      exact ⟨rfl, rfl, rfl, rfl, rfl, rfl, rfl, rfl, rfl, rfl⟩
    obtain ⟨h1, h2, h3, h4, h5, h6, h7, h8, h9, h10⟩ := hframe
    refine ⟨hscan, hspec.plan, h1, h2, h3, h4, h5, h6, h7, h8, h9, h10, fun hnone => ?_, fun before after x hlist hone hx => ?_,
      fun hi hr => ?_⟩
    · have hpass := State.removeAged_of_young (s := s.setForeign aged) hnone 0 []
      rw [List.append_nil] at hpass
      rw [ht, hpass, hleft, hnone]
      exact State.setForeign_left s aged
    · have hone' : (s.setForeign aged).expired (before ++ x :: after) = [x] := by rw [← hlist]; exact hone
      obtain ⟨hbefore, hafter⟩ := State.expired_of_one hone' hx
      have hgone := State.removeAged_of_one (s := s.setForeign aged) hlist hbefore hafter hx
      rw [ht, hleft, hone]
      rw [← hlist, State.removeForeign_eq (s := s.setForeign aged) hlist] at hgone
      exact hgone
    · intro u idle
      have hsettings : t.scan.settings = s.scan.settings := by rw [hscan]
      have hsegments : t.scan.segments = s.scan.segments := by rw [hscan]
      have hdone : t.raiseScanDone = u := by
        rw [State.raiseScanDone_eq hi hr]
        have hnumber : t.scan.number = s.scan.number := by rw [hscan]
        have hcount : t.scan.done = s.scan.done := by rw [hscan]
        have hfailed : t.scan.failed = s.scan.failed := by rw [hscan]
        rw [hnumber, hcount, hfailed]
      have huscan : u.scan = t.scan := State.raise_scan _ _ _ _
      have hquiesce : idle.agent.quiesce = s.agent.quiesce := by
        have hu : u.agent.quiesce = t.agent.quiesce := by
          show (State.raise t _ _ _).agent.quiesce = _
          rw [State.raise_eq]
        have hagent : t.agent.quiesce = s.agent.quiesce := by rw [hspec.flags]; rfl
        exact hu.trans hagent
      have hmode : idle.scan.settings = s.scan.settings := (congrArg Scan.settings huscan).trans hsettings
      have hseg : idle.hasSegments = s.hasSegments :=
        State.hasSegments_congr ((congrArg Scan.segments huscan).trans hsegments) hmode
      have hidle : s.ageForeign.raiseScanDone.scanIdle = idle := congrArg State.scanIdle hdone
      have hend : s.endScan = if idle.loops = true then idle.beginScan else idle.testDrain := by rw [State.endScan_eq, hidle]
      have hloops : idle.loops = true ↔ s.scan.settings.mode = .loop ∧ s.agent.quiesce = .running ∧ s.hasSegments = true := by
        rw [State.loops, hmode, hquiesce, hseg, Bool.and_eq_true, Bool.and_eq_true, beq_iff_eq, beq_iff_eq, and_assoc]
      have hkept (hq : s.agent.quiesce ≠ .quiescing) : idle.testDrain = idle := if_neg fun hh => hq (hquiesce.symm.trans hh.1)
      refine ⟨fun hl hq hs => hend.trans (if_pos (hloops.mpr ⟨hl, hq, hs⟩)), fun hl hq hs => ?_, fun hl hq => ?_, fun hq => ?_, fun hq => ?_⟩
      · refine (hend.trans (if_neg fun hh => ?_)).trans (hkept (by rw [hq]; decide))
        exact Bool.false_ne_true (hs.symm.trans (hloops.mp hh).2.2)
      · exact (hend.trans (if_neg fun hh => hl (hloops.mp hh).1)).trans (hkept hq)
      · refine (hend.trans (if_neg fun hh => ?_)).trans (hkept (by rw [hq]; decide))
        exact absurd (hq.symm.trans (hloops.mp hh).2.1) (by decide)
      · exact hend.trans (if_neg fun hh => absurd (hq.symm.trans (hloops.mp hh).2.1) (by decide))

end Sys2Proof.Machine
end

section

/-! ### Live flags and displays (R157 to R161, R164, R165) -/

namespace Sys2Proof.Machine

/-! What a live change leaves of the tally processor and of the links' live flags -/

/-- What the tally processor reads of a link is as it was. -/
def Link.LiveAs (a b : Link) : Prop := a.live = b.live ∧ a.always = b.always ∧ a.flags = b.flags

/-- The tally processor, and what it reads of the links, is as it was. -/
def State.LiveAs (t s : State) : Prop := t.tally = s.tally ∧ ∀ l : LinkId, t.links[l].LiveAs s.links[l]

theorem State.LiveAs.refl (s : State) : s.LiveAs s := ⟨rfl, fun _ => ⟨rfl, rfl, rfl⟩⟩

theorem State.LiveAs.trans {a b c : State} (h : a.LiveAs b) (k : b.LiveAs c) : a.LiveAs c :=
  ⟨h.1.trans k.1, fun l => ⟨(h.2 l).1.trans (k.2 l).1, (h.2 l).2.1.trans (k.2 l).2.1, (h.2 l).2.2.trans (k.2 l).2.2⟩⟩

theorem State.LiveAs.of_eq {s t : State} (htally : t.tally = s.tally) (hlinks : t.links = s.links) : t.LiveAs s := by
  refine ⟨htally, fun l => ?_⟩
  rw [hlinks]
  exact ⟨rfl, rfl, rfl⟩

theorem State.modLink_other (s : State) {l m : LinkId} (h : m ≠ l) (f : Link → Link) : (s.modLink l f).links[m] = s.links[m] :=
  put_ne s.links _ h

theorem State.modLink_liveAs (s : State) (l : LinkId) {f : Link → Link} (hf : ∀ r, (f r).LiveAs r) : (s.modLink l f).LiveAs s := by
  refine ⟨rfl, fun m => ?_⟩
  by_cases hm : m = l
  · subst hm
    rw [State.modLink_get]
    exact hf _
  · rw [State.modLink_other s hm]
    exact ⟨rfl, rfl, rfl⟩

theorem State.raise_liveAs (s : State) (n : Notice) (object : Byte) (detail : List Byte) : (s.raise n object detail).LiveAs s := by
  rw [State.raise_eq]
  exact .of_eq rfl rfl

theorem State.releaseEntry_liveAs (s : State) (e : EntryId) : (s.releaseEntry e).LiveAs s := by
  refine ⟨by rw [s.releaseEntry_parts e], fun l => ?_⟩
  obtain ⟨active, standby, hlink⟩ := s.releaseEntry_link e l
  rw [hlink]
  exact ⟨rfl, rfl, rfl⟩

theorem State.releaseOpt_liveAs (s : State) (e : Option EntryId) : (s.releaseOpt e).LiveAs s := by
  cases e with
  | none => exact .refl s
  | some e => exact s.releaseEntry_liveAs e

theorem State.noteEntered_liveAs (s : State) (e : EntryId) (l : LinkId) (st : CarrierState) : (s.noteEntered e l st).LiveAs s := by
  unfold State.noteEntered
  split
  · exact s.modLink_liveAs l fun r => ⟨rfl, rfl, rfl⟩
  · split
    · exact s.modLink_liveAs l fun r => ⟨rfl, rfl, rfl⟩
    · exact s.releaseEntry_liveAs e
  all_goals exact .refl s

theorem State.changeEntry_liveAs (s : State) (e : EntryId) (st : CarrierState) : (s.changeEntry e st).LiveAs s := by
  unfold State.changeEntry
  dsimp only
  split
  · exact .of_eq rfl rfl
  · refine (State.noteEntered_liveAs _ _ _ _).trans ?_
    refine .trans (State.modLink_liveAs _ _ ?_) (.of_eq rfl rfl)
    exact fun r => ⟨rfl, rfl, rfl⟩

theorem State.changeOpt_liveAs (s : State) (e : Option EntryId) (st : CarrierState) : (s.changeOpt e st).LiveAs s := by
  cases e with
  | none => exact .refl s
  | some e => exact s.changeEntry_liveAs e st

theorem State.settleEarly_liveAs (s : State) (k : ContextId) (ending : Ending) (stage : RetuneStage) :
    (s.settleEarly k ending stage).LiveAs s := by
  have hgiven : (s.entryGivenUp k).LiveAs s := by
    unfold State.entryGivenUp
    split
    · exact s.changeOpt_liveAs _ _
    · exact s.releaseOpt_liveAs _
  by_cases h : s.contexts[k].prior = .idle
  · rw [State.settleEarly_of_idle h]
    refine .trans (State.modLink_liveAs _ _ ?_) (.trans (State.releaseOpt_liveAs _ _) (.trans (State.modLink_liveAs _ _ ?_) hgiven))
    · exact fun r => ⟨rfl, rfl, rfl⟩
    · exact fun r => ⟨rfl, rfl, rfl⟩
  · rw [State.settleEarly_of_moved h]
    refine .trans (State.modLink_liveAs _ _ ?_) hgiven
    exact fun r => ⟨rfl, rfl, rfl⟩

theorem State.testDrain_liveAs (s : State) : s.testDrain.LiveAs s := by
  unfold State.testDrain
  split
  · exact (State.raise_liveAs _ _ _ _).trans (.of_eq rfl rfl)
  · exact .refl s

theorem State.freeIfDone_liveAs (s : State) (k : ContextId) : (s.freeIfDone k).LiveAs s := by
  unfold State.freeIfDone
  split
  · exact (State.testDrain_liveAs _).trans (.of_eq rfl rfl)
  · exact .refl s

theorem State.closeEarly_liveAs (s : State) (k : ContextId) : (s.closeEarly k).LiveAs s := by
  have hcancelled : (s.cancelled k).LiveAs s := by
    rw [State.cancelled, State.askCancelOf_parts, State.askCancelOf_parts, State.closingEarly, State.withdrawContext_parts]
    exact .of_eq rfl rfl
  rw [State.closeEarly_eq]
  exact (State.freeIfDone_liveAs _ _).trans hcancelled

theorem State.giveBack_liveAs (s : State) (k : ContextId) : (s.giveBack k).LiveAs s := by
  have hsettled := s.settleEarly_liveAs k .returned s.contexts[k].stage.named
  by_cases hq : (s.settleEarly k .returned s.contexts[k].stage.named).queued s.contexts[k].link = true
  · rw [State.giveBack_of_merged rfl rfl hq]
    exact (State.closeEarly_liveAs _ _).trans hsettled
  · by_cases hroom : (s.settleEarly k .returned s.contexts[k].stage.named).retuneQueue.length < 16
    · rw [State.giveBack_of_returned rfl rfl hq hroom]
      refine (State.closeEarly_liveAs _ _).trans ((State.raise_liveAs _ _ _ _).trans (.trans ?_ hsettled))
      exact .of_eq rfl rfl
    · rw [State.giveBack_of_dropped rfl rfl hq (Nat.not_lt.mp hroom)]
      exact (State.closeEarly_liveAs _ _).trans ((State.raise_liveAs _ _ _ _).trans hsettled)

theorem State.liveChange_liveAs (s : State) (k : ContextId) : (s.liveChange k).LiveAs s := by
  unfold State.liveChange
  dsimp only
  split
  · exact s.giveBack_liveAs k
  · exact s.giveBack_liveAs k
  · split
    · exact .refl s
    · exact s.giveBack_liveAs k
  all_goals exact .refl s

/-! One link's live flag (R158) -/

/-- The live flag as it is worked out now. -/
def State.liveNow (s : State) (l : LinkId) : Bool := s.tally.liveByTally l || s.links[l].always

/-- The state with a link's live flag changed and its queue entry told. -/
def State.liveTold (s : State) (l : LinkId) (live : Bool) : State := { s with
  links := put s.links l { s.links[l] with live }
  retuneQueue := s.retuneQueue.map fun e => if e.link = l then
    { e with held := live && !e.force && !(e.reason == .fade && s.links[l].flags.switchWhenLive) } else e }

theorem State.reevaluate_live (s : State) (l : LinkId) (live : Bool) : (s.modLink l fun r => { r with live }).reevaluate l = s.liveTold l live := by
  rw [State.reevaluate, State.modLink_get]
  rfl

theorem State.workLive_of_same {s : State} {l : LinkId} (h : s.liveNow l = s.links[l].live) : s.workLive l = s := if_pos h

theorem State.workLive_of_changed {s : State} {l : LinkId} (h : s.liveNow l ≠ s.links[l].live) : s.workLive l =
    match s.serving l with
    | some k => if s.liveNow l = true ∧ ¬ (s.liveTold l (s.liveNow l)).exempt k = true then (s.liveTold l (s.liveNow l)).liveChange k
      else s.liveTold l (s.liveNow l)
    | none => s.liveTold l (s.liveNow l) := by
  refine (if_neg h).trans ?_
  have hlive : (s.tally.liveByTally l || s.links[l].always) = s.liveNow l := rfl
  rw [State.reevaluate_live, hlive]
  rfl

theorem State.liveTold_link (s : State) (l m : LinkId) (live : Bool) : (s.liveTold l live).links[m].flags = s.links[m].flags
    ∧ (s.liveTold l live).links[m].always = s.links[m].always
    ∧ (s.liveTold l live).links[m].live = if m = l then live else s.links[m].live := by
  by_cases hm : m = l
  · subst hm
    have hget : (s.liveTold m live).links[m] = { s.links[m] with live } := put_eq _ _ _
    rw [hget, if_pos rfl]
    exact ⟨rfl, rfl, rfl⟩
  · have hget : (s.liveTold l live).links[m] = s.links[m] := put_ne _ _ hm
    rw [hget, if_neg hm]
    exact ⟨rfl, rfl, rfl⟩

theorem State.exempt_liveTold (s : State) (l : LinkId) (live : Bool) (k : ContextId) : (s.liveTold l live).exempt k = s.exempt k := by
  have hflags := (s.liveTold_link l s.contexts[k].link live).1
  exact congrArg (fun f : LinkFlags => s.contexts[k].force || (s.contexts[k].reason == .fade && f.switchWhenLive)) hflags

theorem State.workLive_link (s : State) (l : LinkId) : (s.workLive l).tally = s.tally ∧ ∀ m : LinkId,
    (s.workLive l).links[m].flags = s.links[m].flags ∧ (s.workLive l).links[m].always = s.links[m].always
      ∧ (s.workLive l).links[m].live = if m = l then s.liveNow l else s.links[m].live := by
  by_cases h : s.liveNow l = s.links[l].live
  · rw [State.workLive_of_same h]
    refine ⟨rfl, fun m => ⟨rfl, rfl, ?_⟩⟩
    split
    next hm => rw [hm, h]
    next => rfl
  · have htold : (s.liveTold l (s.liveNow l)).tally = s.tally := rfl
    have hafter (t : State) (ht : t.LiveAs (s.liveTold l (s.liveNow l))) : t.tally = s.tally ∧ ∀ m : LinkId,
        t.links[m].flags = s.links[m].flags ∧ t.links[m].always = s.links[m].always
          ∧ t.links[m].live = if m = l then s.liveNow l else s.links[m].live := by
      refine ⟨ht.1.trans htold, fun m => ?_⟩
      obtain ⟨hflags, halways, hlive⟩ := s.liveTold_link l m (s.liveNow l)
      obtain ⟨h1, h2, h3⟩ := ht.2 m
      exact ⟨h3.trans hflags, h2.trans halways, h1.trans hlive⟩
    rw [State.workLive_of_changed h]
    split
    · split
      · exact hafter _ (State.liveChange_liveAs _ _)
      · exact hafter _ (.refl _)
    · exact hafter _ (.refl _)

theorem State.workLives_link (ls : List LinkId) (s : State) : (ls.foldl State.workLive s).tally = s.tally ∧ ∀ m : LinkId,
    (ls.foldl State.workLive s).links[m].always = s.links[m].always
      ∧ (ls.foldl State.workLive s).links[m].live = if m ∈ ls then s.liveNow m else s.links[m].live := by
  induction ls generalizing s with
  | nil => exact ⟨rfl, fun m => ⟨rfl, (if_neg List.not_mem_nil).symm⟩⟩
  | cons l ls ih =>
    obtain ⟨htally, hlinks⟩ := s.workLive_link l
    obtain ⟨htally', hlinks'⟩ := ih (s.workLive l)
    refine ⟨htally'.trans htally, fun m => ⟨(hlinks' m).1.trans (hlinks m).2.1, (hlinks' m).2.trans ?_⟩⟩
    have hnow : (s.workLive l).liveNow m = s.liveNow m := by rw [State.liveNow, State.liveNow, htally, (hlinks m).2.1]
    rw [hnow, (hlinks m).2.2]
    by_cases hin : m ∈ ls
    · rw [if_pos hin, if_pos (List.mem_cons_of_mem l hin)]
    · rw [if_neg hin]
      by_cases hm : m = l
      · rw [if_pos hm, if_pos (hm ▸ List.mem_cons_self), hm]
      · rw [if_neg hm, if_neg fun hmem => (List.mem_cons.mp hmem).elim hm hin]

/-! The displays (R161) -/

/-- A display changes the camera's record and the unit channel alone. -/
theorem State.startTally_parts (s : State) (l : LinkId) (d : Display) : s.startTally l d =
    { s.setCamera l { s.tally.cameras[l] with busy := true, sent := d } with unit := (s.startTally l d).unit } := by
  exact State.askSlot_parts _ _

theorem State.setCamera_get (s : State) (l : LinkId) (x : Camera) : (s.setCamera l x).tally.cameras[l] = x := put_eq _ _ _

theorem State.setCamera_setCamera (s : State) (l : LinkId) (x y : Camera) : (s.setCamera l x).setCamera l y = s.setCamera l y :=
  congrArg (fun v => { s with tally := { s.tally with cameras := v } }) (put_put _ _ _ _)

theorem State.setWanted_eq (s : State) (l : LinkId) (d : Display) : ∃ (x : Camera) (unit : UnitChannel), x.wanted = d
    ∧ s.setWanted l d = { s.setCamera l x with unit } := by
  unfold State.setWanted
  dsimp only
  split
  · exact ⟨_, s.unit, rfl, rfl⟩
  · split
    · exact ⟨_, s.unit, rfl, rfl⟩
    · rw [State.startTally_parts, State.setCamera_setCamera]
      refine ⟨_, _, ?_, rfl⟩
      rw [State.setCamera_get]

/-- The state once some links' cameras have their wanted displays. -/
def State.displayedFor (s : State) (d : LinkId → Display) (ls : List LinkId) : State :=
  ls.foldl (fun s l => if s.cameraInUse l then s.setWanted l (d l) else s) s

theorem State.displayedFor_cons (s : State) (d : LinkId → Display) (l : LinkId) (ls : List LinkId) :
    s.displayedFor d (l :: ls) = (if s.cameraInUse l then s.setWanted l (d l) else s).displayedFor d ls := rfl

/-- What the displays leave: the wanted displays of the records in use, and every other part but the unit channel. -/
theorem State.setDisplays_spec (ls : List LinkId) (s : State) (d : LinkId → Display) :
    (∃ (cameras : Vector Camera 80) (unit : UnitChannel), s.displayedFor d ls = { s with tally := { s.tally with cameras }, unit })
      ∧ (∀ m : LinkId, m ∉ ls → (s.displayedFor d ls).tally.cameras[m] = s.tally.cameras[m])
      ∧ ∀ m : LinkId, s.cameraInUse m = true → m ∈ ls → (s.displayedFor d ls).tally.cameras[m].wanted = d m := by
  induction ls generalizing s with
  | nil => exact ⟨⟨s.tally.cameras, s.unit, rfl⟩, fun _ _ => rfl, fun m _ hm => absurd hm List.not_mem_nil⟩
  | cons l ls ih =>
    have hstep : ∃ (x : Camera) (unit : UnitChannel), (s.cameraInUse l = true → x.wanted = d l)
        ∧ (if s.cameraInUse l then s.setWanted l (d l) else s) = { s.setCamera l x with unit } := by
      split
      · obtain ⟨x, unit, hx, heq⟩ := s.setWanted_eq l (d l)
        exact ⟨x, unit, fun _ => hx, heq⟩
      next h =>
        have hsame : put s.tally.cameras l s.tally.cameras[l] = s.tally.cameras := put_same _ _
        refine ⟨s.tally.cameras[l], s.unit, fun hh => absurd hh h, ?_⟩
        rw [State.setCamera, hsame]
    obtain ⟨x, unit, hx, heq⟩ := hstep
    obtain ⟨⟨cameras, unit', hrest⟩, hkept, hall⟩ := ih { s.setCamera l x with unit }
    rw [State.displayedFor_cons, heq]
    refine ⟨⟨cameras, unit', hrest⟩, fun m hm => ?_, fun m hm hmem => ?_⟩
    · obtain ⟨hml, hin⟩ := not_or.mp (mt List.mem_cons.mpr hm)
      exact (hkept m hin).trans (put_ne _ _ hml)
    · by_cases hin : m ∈ ls
      · exact hall m hm hin
      · have hml : m = l := (List.mem_cons.mp hmem).resolve_right hin
        subst hml
        exact (congrArg Camera.wanted ((hkept m hin).trans (put_eq _ _ _))).trans (hx hm)

end Sys2Proof.Machine
end

section

/-! ### TALLY cells, camera records, and the statement of O49 (R153, R157, R161 to R165) -/

namespace Sys2Proof.Machine

/-! The entries of a TALLY cell (R153) -/

/-- The first entries of a TALLY cell taken, of the `n` it has. -/
def entriesTaken (data : List Byte) (n m : Nat) (base : Vector TallyState 64) : Vector TallyState 64 :=
  (List.range m).foldl (fun set j => match sourceOf? (u8At data (1 + j)) with
    | some i => put set i (tallyEntryState data n j)
    | none => set) base

theorem TallyState.code_ofCode (n : Nat) : (TallyState.ofCode n).code = n % 4 := by
  have hlt := Nat.mod_lt n (show 0 < 4 by decide)
  unfold TallyState.ofCode
  generalize n % 4 = m at hlt
  interval_cases m <;> rfl

theorem sourceOf?_eq_some {n : Nat} {i : Fin 64} (h : sourceOf? n = some i) : n = i.val + 1 := by
  by_cases hout : n = 0 ∨ 64 < n
  · rw [sourceOf?_of_outside hout] at h
    cases h
  · have hin : sourceOf? n = some ⟨n - 1, by omega⟩ := sourceOf?_of_eq (by show n = n - 1 + 1; omega)
    rw [hin] at h
    cases h
    show n = n - 1 + 1
    omega

theorem entriesTaken_succ (data : List Byte) (n m : Nat) (base : Vector TallyState 64) : entriesTaken data n (m + 1) base =
    match sourceOf? (u8At data (1 + m)) with
    | some i => put (entriesTaken data n m base) i (tallyEntryState data n m)
    | none => entriesTaken data n m base := by
  rw [entriesTaken, List.range_succ, List.foldl_append]
  rfl

theorem entriesTaken_other {data : List Byte} {n m : Nat} {base : Vector TallyState 64} {i : Fin 64}
    (h : u8At data (1 + m) ≠ i.val + 1) : (entriesTaken data n (m + 1) base)[i] = (entriesTaken data n m base)[i] := by
  rw [entriesTaken_succ]
  split
  next k hk => exact put_ne _ _ fun hik => h (hik ▸ sourceOf?_eq_some hk)
  next => rfl

theorem entriesTaken_unnamed {data : List Byte} {n m : Nat} {base : Vector TallyState 64} {i : Fin 64}
    (h : ∀ j : Nat, j < m → u8At data (1 + j) ≠ i.val + 1) : (entriesTaken data n m base)[i] = base[i] := by
  induction m with
  | zero => rfl
  | succ m ih => exact (entriesTaken_other (h m (Nat.lt_succ_self m))).trans (ih fun j hj => h j (Nat.lt_succ_of_lt hj))

theorem entriesTaken_last {data : List Byte} {n m j : Nat} {base : Vector TallyState 64} {i : Fin 64} (hj : j < m)
    (hsource : u8At data (1 + j) = i.val + 1) (h : ∀ k : Nat, j < k → k < m → u8At data (1 + k) ≠ i.val + 1) :
    (entriesTaken data n m base)[i] = tallyEntryState data n j := by
  induction m with
  | zero => exact absurd hj (Nat.not_lt_zero j)
  | succ m ih =>
    by_cases hjm : j = m
    · subst hjm
      rw [entriesTaken_succ, sourceOf?_of_eq hsource]
      exact put_eq _ _ _
    · have hlt : j < m := by omega
      exact (entriesTaken_other (h m hlt (Nat.lt_succ_self m))).trans (ih hlt fun k hk hkm => h k hk (Nat.lt_succ_of_lt hkm))

/-! TALLY_CELL -/

/-- The pending set that a TALLY cell leaves. -/
def Tally.afterCell (t : Tally) (data : List Byte) : Vector TallyState 64 :=
  takeTallyEntries data (u8At data 0 % 32) (if flagAt data 0 7 then t.pendingSet else Vector.replicate 64 TallyState.off)

theorem State.takeTally_of_fresh {s : State} (h : s.tally.stale = false) (data : List Byte) :
    s.takeTally data = { s with tally := { s.tally with pendingSet := s.tally.afterCell data, count := 0 } } :=
  if_neg (Bool.eq_false_iff.mp h)

theorem State.takeTally_of_stale {s : State} (h : s.tally.stale = true) (hframes : s.tally.staleFrames < 65536) (data : List Byte) :
    s.takeTally data = State.raise { s with tally := { s.tally with pendingSet := s.tally.afterCell data, count := 0, stale := false } }
      .tallyResumed 0 (u16 s.tally.staleFrames) := by
  have hfield : half (staleFramesField s.tally.staleFrames) = u16 s.tally.staleFrames := by
    rw [staleFramesField, if_pos hframes, half, BitVec.toNat_ofNat, Nat.mod_eq_of_lt hframes]
  refine (if_pos h).trans ?_
  rw [← hfield]
  rfl

theorem exec_tallyCell {s : State} {c : Cell} (hdue : s.due = []) (hreset : s.pins.reset = false) (hgood : integral c = true)
    (hkind : c.kind = 2) (hformat : tallyFormat (cellData c) = true) : exec (.tallyCell c) s = .next (s.takeTally (cellData c)) := by
  refine (State.settled_receive hdue hreset hgood (by simp [Instr.wf, hkind])
    fun s => s.checkFormat .u (tallyFormat (cellData c)) fun s => s.takeTally (cellData c)).trans ?_
  rw [State.checkFormat_of_ok hformat]

/-! An application and the stale action -/

theorem State.cameraInUse_congr {s t : State} (h : t.links = s.links) (l : LinkId) : t.cameraInUse l = s.cameraInUse l := by
  rw [State.cameraInUse, State.cameraInUse, h]

theorem State.shown_spec (s : State) (on : Fin 16 → Bool) (display : LinkId → Display) :
    (∃ (cameras : Vector Camera 80) (unit : UnitChannel), s.shown on display = { s with
      tally := { s.tally with lamps := mapTable s.tally.lamps fun n x => { x with on := on n }, cameras }, unit })
    ∧ ∀ m : LinkId, s.cameraInUse m = true → (s.shown on display).tally.cameras[m].wanted = display m := by
  have hshown : s.shown on display = (s.setLamps on).displayedFor display (List.finRange 80) := rfl
  obtain ⟨⟨cameras, unit, hrest⟩, -, hall⟩ := State.setDisplays_spec (List.finRange 80) (s.setLamps on) display
  rw [hshown]
  refine ⟨⟨cameras, unit, ?_⟩, fun m hm => ?_⟩
  · rw [hrest]
    rfl
  · have huse : (s.setLamps on).cameraInUse m = s.cameraInUse m := State.cameraInUse_congr (s := s) (t := s.setLamps on) rfl m
    exact hall m (huse.trans hm) (List.mem_finRange m)

theorem State.cameraInUse_iff (s : State) (l : LinkId) : s.cameraInUse l = true ↔ s.links[l].kind = .camera ∧ s.links[l].state ≠ .unused := by
  rw [State.cameraInUse, Bool.and_eq_true, beq_iff_eq, bne_iff_ne]

theorem State.liveByTally_iff (s : State) (l : LinkId) : s.tally.liveByTally l = true ↔
    ∃ i : Fin 64, (s.tally.applied[i] = .program ∨ s.tally.applied[i] = .both) ∧ l ∈ s.tally.inEffect[i].links := by
  rw [Tally.liveByTally, Tally.listed_iff]
  simp only [TallyState.onProgram_iff]

/-- What the links and the tally processor are once the sets have taken their new values. -/
theorem State.adopt_get (s : State) (l : LinkId) : s.adopt.links[l] = { s.links[l] with always := s.links[l].flags.alwaysLive } :=
  mapTable_get s.links (fun _ r => { r with always := r.flags.alwaysLive }) l.val l.isLt

theorem State.worked_spec (s : State) : ((List.finRange 80).foldl State.workLive s.adopt).tally = s.adopt.tally ∧ ∀ l : LinkId,
    ((List.finRange 80).foldl State.workLive s.adopt).links[l].always = s.links[l].flags.alwaysLive
      ∧ ((List.finRange 80).foldl State.workLive s.adopt).links[l].live = s.adopt.liveNow l := by
  obtain ⟨htally, hlinks⟩ := State.workLives_link (List.finRange 80) s.adopt
  refine ⟨htally, fun l => ⟨(hlinks l).1.trans (by rw [State.adopt_get]), (hlinks l).2.trans (if_pos (List.mem_finRange l))⟩⟩

/-! Camera records (R161 to R163) -/

theorem State.startTally_setCamera (s : State) (l : LinkId) (x : Camera) (d : Display) : (s.setCamera l x).startTally l d =
    (s.setCamera l { x with busy := true, sent := d }).askSlot
      { owner := .tally l, unit := s.links[l].portable, command := [0x05, BitVec.ofNat 8 d.code] } := by
  have hget := State.setCamera_get s l x
  rw [State.startTally, hget, State.setCamera_setCamera]
  rfl

/-- The end of a slot of the tally processor. -/
theorem State.endSlot_of_tally {s : State} {i : SlotId} {l : LinkId} (howner : s.unit.slots[i].owner = some (.tally l)) (cond : Condition)
    (data : List Byte) : s.endSlot i cond data = (s.freed i).tallySlotEnded l s.unit.slots[i].unit cond := by
  have hx : (s.unit.slots[i].ended cond).owner = some (.tally l) := howner
  rw [State.endSlot_eq, State.handOver, hx]
  rfl

section
variable {s : State} {l : LinkId} {unit : Byte}

theorem State.tallySlotEnded_of_unused (h : ¬ s.cameraInUse l = true) (cond : Condition) :
    s.tallySlotEnded l unit cond = s.setCamera l { s.tally.cameras[l] with busy := false, latched := none } :=
  if_pos (by rw [Bool.eq_false_iff.mpr h]; rfl)

theorem State.tallySlotEnded_of_other (h : s.cameraInUse l = true) (hunit : unit ≠ s.links[l].portable) (cond : Condition) :
    s.tallySlotEnded l unit cond = match s.tally.cameras[l].target with
      | some d => (s.setCamera l { s.tally.cameras[l] with busy := false, latched := none }).startTally l d
      | none => s.setCamera l { s.tally.cameras[l] with busy := false, latched := none } :=
  (if_neg (by rw [h]; decide)).trans (if_pos hunit)

theorem State.tallySlotEnded_of_own (h : s.cameraInUse l = true) (hunit : unit = s.links[l].portable) (cond : Condition) :
    s.tallySlotEnded l unit cond =
      let delivered := if cond = .done then some s.tally.cameras[l].sent else s.tally.cameras[l].delivered
      let t := s.setCamera l { s.tally.cameras[l] with busy := false, latched := none, delivered, unconfirmed := decide (cond ≠ .done) }
      let t := if cond = .done then t
        else t.raise .tallyUndelivered (linkByte l) (u8 s.tally.cameras[l].sent.code ++ u8 cond.code ++ [unit])
      match s.tally.cameras[l].latched with
      | some d => if delivered = some d then t else t.startTally l d
      | none => t :=
  (if_neg (by rw [h]; decide)).trans (if_neg (not_not.mpr hunit))

end

/-- A notice and a camera record touch different parts of the state. -/
theorem State.raise_setCamera (s : State) (l : LinkId) (x : Camera) (n : Notice) (object : Byte) (detail : List Byte) :
    (s.setCamera l x).raise n object detail = (s.raise n object detail).setCamera l x := by
  rw [State.raise_eq, State.raise_eq]
  rfl

/-- Where one element alone acts, the others pass the state on. -/
theorem foldl_of_only {α β : Type} {f : β → α → β} {P : β → Prop} {l : α} (hact : ∀ b, P b → P (f b l))
    (hkeep : ∀ b m, P b → m ≠ l → f b m = b) (xs : List α) (hnodup : xs.Nodup) (b : β) (hb : P b) :
    (l ∈ xs → xs.foldl f b = f b l) ∧ (l ∉ xs → xs.foldl f b = b) := by
  induction xs generalizing b with
  | nil => exact ⟨fun h => absurd h List.not_mem_nil, fun _ => rfl⟩
  | cons x xs ih =>
    obtain ⟨hx, hxs⟩ := List.nodup_cons.mp hnodup
    rw [List.foldl_cons]
    by_cases hl : x = l
    · subst hl
      exact ⟨fun _ => (ih hxs (f b x) (hact b hb)).2 hx, fun h => absurd List.mem_cons_self h⟩
    · rw [hkeep b x hb hl]
      refine ⟨fun h => (ih hxs b hb).1 ((List.mem_cons.mp h).resolve_left fun hh => hl hh.symm), fun h => (ih hxs b hb).2 ?_⟩
      exact fun hh => h (List.mem_cons_of_mem x hh)

/-- A START is heard by one camera (R163). -/
def State.startHeard (s : State) (unit : Byte) (l : LinkId) : State :=
  if s.cameraInUse l ∧ s.links[l].portable = unit ∧ ¬ s.tally.cameras[l].busy then
    match s.tally.cameras[l].target with
    | some d => s.startTally l d
    | none => s
  else s

theorem State.tallyUnitStart_eq (s : State) (unit : Byte) : s.tallyUnitStart unit = (List.finRange 80).foldl (fun t l => t.startHeard unit l) s :=
  rfl

theorem State.startHeard_links (s : State) (unit : Byte) (l : LinkId) : (s.startHeard unit l).links = s.links := by
  unfold State.startHeard
  split
  · split
    · rw [State.startTally_parts]
      rfl
    · rfl
  · rfl

/-- A START of a unit that is one camera's alone is heard by that camera. -/
theorem State.tallyUnitStart_of_only {s : State} {unit : Byte} {l : LinkId}
    (h : ∀ m : LinkId, m ≠ l → s.cameraInUse m = true → s.links[m].portable ≠ unit) : s.tallyUnitStart unit = s.startHeard unit l := by
  rw [State.tallyUnitStart_eq]
  refine (foldl_of_only (P := fun t : State => t.links = s.links) (fun t ht => (t.startHeard_links unit l).trans ht) (fun t m ht hm => ?_)
    (List.finRange 80) (List.nodup_finRange 80) s rfl).1 (List.mem_finRange l)
  refine if_neg fun ⟨huse, hportable, _⟩ => h m hm ((State.cameraInUse_congr ht m).symm.trans huse) ?_
  rw [← ht]
  exact hportable

theorem State.tallyUnitStart_of_none {s : State} {unit : Byte}
    (h : ∀ l : LinkId, s.cameraInUse l = true → s.links[l].portable ≠ unit) : s.tallyUnitStart unit = s := by
  rw [State.tallyUnitStart_of_only (l := 0) fun m _ hm => h m hm]
  exact if_neg fun ⟨huse, hportable, _⟩ => h 0 huse hportable

end Sys2Proof.Machine
end

section

/-! ### The statement of O49 -/

namespace Sys2Proof.Machine

/-- An application, link by link and line by line (R157 to R159). -/
theorem State.applyTally_spec (s : State) : s.applyTally.tally.applied = s.tally.pendingSet
    ∧ s.applyTally.tally.inEffect = s.tally.written ∧ s.applyTally.tally.written = s.tally.written
    ∧ (∀ l : LinkId, s.applyTally.links[l].always = s.links[l].flags.alwaysLive)
    ∧ (∀ l : LinkId, s.applyTally.links[l].live = s.adopt.liveNow l)
    ∧ ∀ n : Fin 16, s.applyTally.tally.lamps[n] = { s.adopt.tally.lamps[n] with on := s.adopt.tally.lit n } := by
  obtain ⟨htally, hlinks⟩ := s.worked_spec
  rw [State.applyTally_eq]
  generalize (List.finRange 80).foldl State.workLive s.adopt = u at htally hlinks
  obtain ⟨⟨cameras, unit, hshown⟩, -⟩ := u.shown_spec u.tally.lit u.tally.display
  rw [hshown, htally]
  refine ⟨rfl, rfl, rfl, fun l => (hlinks l).1, fun l => (hlinks l).2, fun n => ?_⟩
  exact mapTable_get s.adopt.tally.lamps (fun n x => { x with on := s.adopt.tally.lit n }) n.val n.isLt

theorem State.adopt_lamp (s : State) (n : Fin 16) :
    s.adopt.tally.lamps[n] = { s.tally.lamps[n] with inEffect := s.tally.lamps[n].written } :=
  mapTable_get s.tally.lamps (fun _ x => { x with inEffect := x.written }) n.val n.isLt

theorem State.adopt_lit_iff (s : State) (n : Fin 16) : s.adopt.tally.lit n = true ↔
    ∃ i : Fin 64, s.tally.written[i].lamps.getLsbD n.val = true ∧ match s.tally.lamps[n].written with
      | .program => s.tally.pendingSet[i] = .program ∨ s.tally.pendingSet[i] = .both
      | .preview => s.tally.pendingSet[i] = .preview ∨ s.tally.pendingSet[i] = .both
      | .either => s.tally.pendingSet[i] ≠ .off := by
  have hmode : s.adopt.tally.lamps[n].inEffect = s.tally.lamps[n].written := by rw [State.adopt_lamp]
  rw [Tally.lit_iff]
  refine exists_congr fun i => and_congr_right fun _ => ?_
  rw [hmode]
  exact LampMode.accepts_iff _ _

/-- The stale action shows the applied set, or nothing (R165). -/
theorem State.staleAction_spec (s : State) :
    (∃ (lamps : Vector Lamp 16) (cameras : Vector Camera 80) (unit : UnitChannel),
      s.staleAction = { s with tally := { s.tally with lamps, cameras }, unit })
    ∧ (∀ n : Fin 16, s.staleAction.tally.lamps[n].on = match s.tally.action with
        | .hold => s.tally.lit n
        | .dark => false)
    ∧ ∀ l : LinkId, s.cameraInUse l = true → s.staleAction.tally.cameras[l].wanted = match s.tally.action with
        | .hold => s.tally.display l
        | .dark => .off := by
  have hshown (on : Fin 16 → Bool) (display : LinkId → Display) :
      (∃ (lamps : Vector Lamp 16) (cameras : Vector Camera 80) (unit : UnitChannel),
        s.shown on display = { s with tally := { s.tally with lamps, cameras }, unit })
      ∧ (∀ n : Fin 16, (s.shown on display).tally.lamps[n].on = on n)
      ∧ ∀ l : LinkId, s.cameraInUse l = true → (s.shown on display).tally.cameras[l].wanted = display l := by
    obtain ⟨⟨cameras, unit, heq⟩, hwanted⟩ := s.shown_spec on display
    refine ⟨⟨_, cameras, unit, heq⟩, fun n => ?_, hwanted⟩
    rw [heq]
    exact congrArg Lamp.on (mapTable_get s.tally.lamps (fun n x => { x with on := on n }) n.val n.isLt)
  rw [State.staleAction_eq]
  cases s.tally.action with
  | hold =>
    dsimp only
    exact hshown s.tally.lit s.tally.display
  | dark =>
    dsimp only
    exact hshown (fun _ => false) fun _ => .off

/-- The processor becomes stale, and the stale action follows (R164, R165). -/
theorem State.tallyTimeout_spec {s : State} (hfresh : s.tally.stale = false) (hcount : s.tally.timeout ≤ s.tally.count) :
    ∃ (lamps : Vector Lamp 16) (cameras : Vector Camera 80) (unit : UnitChannel),
      s.tallyTimeout = { s.raise .tallyStale 0 (u8 s.tally.count ++ u8 s.tally.action.code) with
        tally := { s.tally with stale := true, staleFrames := 1, lamps, cameras }, unit }
      ∧ (∀ n : Fin 16, lamps[n].on = match s.tally.action with
          | .hold => s.tally.lit n
          | .dark => false)
      ∧ ∀ l : LinkId, s.cameraInUse l = true → cameras[l].wanted = match s.tally.action with
          | .hold => s.tally.display l
          | .dark => .off := by
  have hraise : State.raise { s with tally := { s.tally with stale := true, staleFrames := 1 } } .tallyStale 0
      (u8 s.tally.count ++ u8 s.tally.action.code)
      = { s.raise .tallyStale 0 (u8 s.tally.count ++ u8 s.tally.action.code) with
        tally := { s.tally with stale := true, staleFrames := 1 } } := by
    rw [State.raise_eq, State.raise_eq]
  have hstale : s.tallyTimeout = State.staleAction { s.raise .tallyStale 0 (u8 s.tally.count ++ u8 s.tally.action.code) with
      tally := { s.tally with stale := true, staleFrames := 1 } } := by
    rw [← hraise]
    exact if_pos ⟨Bool.eq_false_iff.mp hfresh, hcount⟩
  have hlinks : (s.raise .tallyStale 0 (u8 s.tally.count ++ u8 s.tally.action.code)).links = s.links := (State.raise_frame _ _ _ _).2.2.2.1
  generalize s.raise .tallyStale 0 (u8 s.tally.count ++ u8 s.tally.action.code) = u at hstale hlinks
  obtain ⟨⟨lamps, cameras, unit, heq⟩, hlamps, hwanted⟩ :=
    State.staleAction_spec { u with tally := { s.tally with stale := true, staleFrames := 1 } }
  rw [heq] at hlamps hwanted
  refine ⟨lamps, cameras, unit, hstale.trans heq, hlamps, fun l hl => hwanted l ?_⟩
  exact (State.cameraInUse_congr (s := s) (t := { u with tally := { s.tally with stale := true, staleFrames := 1 } }) hlinks l).trans hl

/-- The flag of the notice TALLY_STALE. -/
theorem State.raise_tallyStale (s : State) (detail : List Byte) :
    (s.raise .tallyStale 0 detail).agent.flags.tally = s.agent.flags.tally ||| 1 := by
  rw [State.raise_eq]
  unfold Agent.flagsAfter
  dsimp only
  split <;> rfl

end Sys2Proof.Machine
end

section

namespace Sys2Proof.Machine

/-! Camera records as the statement spells them -/

/-- The state with another camera record. -/
abbrev State.withCamera (t : State) (l : LinkId) (y : Camera) : State :=
  { t with tally := { t.tally with cameras := put t.tally.cameras l y } }

/-- A TALLY_SET transaction begun for a record. -/
abbrev State.tallyBegun (s t : State) (l : LinkId) (y : Camera) (d : Display) : State :=
  (t.withCamera l { y with busy := true, sent := d }).askSlot
    { owner := .tally l, unit := s.links[l].portable, command := [0x05, BitVec.ofNat 8 d.code] }

theorem State.startTally_begun {s t : State} (h : t.links = s.links) (l : LinkId) (x : Camera) (d : Display) :
    (t.withCamera l x).startTally l d = s.tallyBegun t l x d := by
  rw [State.tallyBegun, ← h]
  exact t.startTally_setCamera l x d

theorem State.setWanted_rows (s : State) (l : LinkId) (d : Display) :
    let c := s.tally.cameras[l]
    (c.target = some d → s.setWanted l d = s.withCamera l { c with wanted := d })
    ∧ (c.target ≠ some d → c.busy = false → s.setWanted l d = s.tallyBegun s l { c with wanted := d, target := some d } d)
    ∧ (c.target ≠ some d → c.busy = true → s.setWanted l d = s.withCamera l { c with wanted := d, target := some d, latched := some d }) := by
  refine ⟨fun h => if_pos h, fun h hfree => ?_, fun h hbusy => (if_neg h).trans (if_pos hbusy)⟩
  exact ((if_neg h).trans (if_neg (Bool.eq_false_iff.mp hfree))).trans (State.startTally_begun rfl l _ d)

/-- The end of a TALLY_SET transaction by the unit and the condition (R162). -/
theorem State.tallyEnd_rows {s : State} {i : SlotId} {l : LinkId} (howner : s.unit.slots[i].owner = some (.tally l)) (cond : Condition)
    (data : List Byte) :
    let c := s.tally.cameras[l]
    let ended : Camera := { c with busy := false, latched := none }
    let ours := s.unit.slots[i].unit = s.links[l].portable
    (¬ s.cameraInUse l = true → s.endSlot i cond data = (s.freed i).withCamera l ended)
    ∧ (s.cameraInUse l = true → ¬ ours → s.endSlot i cond data = match c.target with
        | some d => s.tallyBegun (s.freed i) l ended d
        | none => (s.freed i).withCamera l ended)
    ∧ (s.cameraInUse l = true → ours → cond = .done →
      let y : Camera := { ended with delivered := some c.sent, unconfirmed := false }
      (c.latched = none ∨ c.latched = some c.sent → s.endSlot i cond data = (s.freed i).withCamera l y)
      ∧ (∀ d : Display, c.latched = some d → d ≠ c.sent → s.endSlot i cond data = s.tallyBegun (s.freed i) l y d))
    ∧ (s.cameraInUse l = true → ours → cond ≠ .done →
      let y : Camera := { ended with unconfirmed := true }
      let t := ((s.freed i).withCamera l y).raise .tallyUndelivered (linkByte l) (u8 c.sent.code ++ u8 cond.code ++ [s.links[l].portable])
      (c.latched = none ∨ c.latched = c.delivered → s.endSlot i cond data = t)
      ∧ (∀ d : Display, c.latched = some d → c.delivered ≠ some d → s.endSlot i cond data = s.tallyBegun t l y d)) := by
  intro c ended ours
  have hend := State.endSlot_of_tally howner cond data
  have huse : (s.freed i).cameraInUse l = s.cameraInUse l := State.cameraInUse_congr rfl l
  refine ⟨fun hno => hend.trans (State.tallySlotEnded_of_unused (huse ▸ hno) cond), fun hyes hother => ?_, fun hyes hours hdone => ?_,
    fun hyes hours hfailed => ?_⟩
  · refine hend.trans ((State.tallySlotEnded_of_other (s := s.freed i) (huse.trans hyes) hother cond).trans ?_)
    show (match c.target with
      | some d => ((s.freed i).withCamera l ended).startTally l d
      | none => (s.freed i).withCamera l ended) = _
    cases c.target with
    | none => rfl
    | some d => exact State.startTally_begun rfl l ended d
  · intro y
    have hown := hend.trans (State.tallySlotEnded_of_own (s := s.freed i) (huse.trans hyes) hours cond)
    subst hdone
    have hclosed : s.endSlot i .done data = match c.latched with
        | some d => if some c.sent = some d then (s.freed i).withCamera l y else ((s.freed i).withCamera l y).startTally l d
        | none => (s.freed i).withCamera l y := hown
    refine ⟨fun hl => ?_, fun d hl hd => ?_⟩
    · rw [hclosed]
      rcases hl with hl | hl
      · rw [hl]
      · rw [hl]
        exact if_pos rfl
    · rw [hclosed, hl]
      exact (if_neg fun hh => hd (Option.some.inj hh).symm).trans (State.startTally_begun rfl l y d)
  · intro y t
    have hown := hend.trans (State.tallySlotEnded_of_own (s := s.freed i) (huse.trans hyes) hours cond)
    have hunit : s.unit.slots[i].unit = s.links[l].portable := hours
    have hclosed : s.endSlot i cond data = match c.latched with
        | some d => if c.delivered = some d then t else t.startTally l d
        | none => t := by
      rw [hown]
      simp only [if_neg hfailed, decide_eq_true hfailed, hunit]
      rfl
    have hraised : t = (State.raise (s.freed i) .tallyUndelivered (linkByte l) (u8 c.sent.code ++ u8 cond.code
        ++ [s.links[l].portable])).withCamera l y := State.raise_setCamera _ _ _ _ _ _
    have hstart (d : Display) : t.startTally l d = s.tallyBegun t l y d := by
      have hlinks : t.links = s.links := (State.raise_frame _ _ _ _).2.2.2.1
      have hsame : t.withCamera l y = t := by
        rw [hraised]
        exact State.setCamera_setCamera _ _ _ _
      rw [← State.startTally_begun hlinks, hsame]
    refine ⟨fun hl => ?_, fun d hl hd => ?_⟩
    · rw [hclosed]
      cases hlatched : c.latched with
      | none => rfl
      | some d => exact if_pos (hl.elim (fun hh => absurd (hlatched.symm.trans hh) nofun) fun hh => hh.symm.trans hlatched)
    · rw [hclosed, hl]
      exact (if_neg hd).trans (hstart d)

/-- Settles O49. -/
theorem tallyIsTakenAppliedAndStale : Obligations.TallyIsTakenAppliedAndStale := by
  refine ⟨fun s c n hdue hreset hgood hkind hn hmax hlen => ?_, ⟨fun s => ?_, fun s hdue hfresh hcount => ?_⟩,
    fun s l => ?_, fun s l => ?_, fun s u hno => State.tallyUnitStart_of_none fun l hl => hno l ((s.cameraInUse_iff l).mp hl).1 ((s.cameraInUse_iff l).mp hl).2⟩
  · intro data source
    have hdata : data.length = 1 + n + (n + 3) / 4 := (cellData_length_of_integral c hgood).trans hlen
    have hformat : tallyFormat data = true := by
      rw [tallyFormat]
      rw [← hn, Bool.and_eq_true, decide_eq_true_iff, beq_iff_eq]
      exact ⟨hmax, hdata⟩
    have hexec := exec_tallyCell hdue hreset hgood hkind hformat
    have hset : s.tally.afterCell data = entriesTaken data n n
        (if flagAt data 0 7 then s.tally.pendingSet else Vector.replicate 64 TallyState.off) := by
      rw [Tally.afterCell, ← hn]
      rfl
    refine ⟨s.tally.afterCell data, fun i hi => ?_, fun i j hj hsource hlast => ?_, fun hfresh => ?_, fun hstale hframes => ?_⟩
    · rw [hset, entriesTaken_unnamed hi]
      cases flagAt data 0 7 with
      | true => rfl
      | false => exact Vector.getElem_replicate i.isLt
    · rw [hset, entriesTaken_last hj hsource hlast, tallyEntryState, TallyState.code_ofCode]
    · rw [hexec, State.takeTally_of_fresh hfresh]
    · rw [hexec, State.takeTally_of_stale hstale hframes]
  · obtain ⟨happlied, heffect, hwritten, halways, hlive, hlamps⟩ := s.applyTally_spec
    refine ⟨happlied, heffect, hwritten, halways, fun l => ?_, fun n => ?_⟩
    · have hnow : s.adopt.liveNow l = (s.adopt.tally.liveByTally l || s.links[l].flags.alwaysLive) := by
        rw [State.liveNow, State.adopt_get]
      rw [hlive l, hnow, Bool.or_eq_true, State.liveByTally_iff]
      exact or_comm
    · rw [hlamps n, State.adopt_lamp]
      exact ⟨rfl, rfl, s.adopt_lit_iff n⟩
  · obtain ⟨lamps, cameras, unit, heq, hlamps, hwanted⟩ :=
      State.tallyTimeout_spec (s := { s with due := s.due.erase .tallyTimeout }) hfresh hcount
    have hflag := State.raise_tallyStale { s with due := s.due.erase .tallyTimeout }
      (u8 s.tally.count ++ u8 s.tally.action.code)
    obtain ⟨-, -, -, hlinks, -⟩ := State.raise_frame { s with due := s.due.erase .tallyTimeout } .tallyStale 0
      (u8 s.tally.count ++ u8 s.tally.action.code)
    have hexec : exec .tallyTimeout s = .next _ := congrArg Host.Outcome.next ((State.dueStep_of_mem hdue).trans heq)
    refine ⟨_, hexec, rfl, rfl, rfl, rfl, rfl, rfl, rfl, hlinks, ?_, ?_, hflag,
      hlamps, fun l hkind hstate => hwanted l ((State.cameraInUse_iff _ l).mpr ⟨hkind, hstate⟩)⟩
    · rw [State.raise_eq]
    · rw [State.raise_eq]
  · intro live told
    refine ⟨s.liveByTally_iff l, State.workLive_of_same, fun hne hnone => ?_, fun k hne hk => ?_⟩
    · rw [State.workLive_of_changed hne, hnone] <;> rfl
    · rw [State.workLive_of_changed hne, hk]
      dsimp only
      refine if_congr (and_congr_right fun _ => ?_) rfl rfl
      rw [State.exempt_liveTold, Bool.not_eq_true] <;> rfl
  · intro c camera start known inUse
    have huse : s.cameraInUse l = true ↔ inUse := s.cameraInUse_iff l
    refine ⟨fun d => s.setWanted_rows l d, fun i cond data howner => ?_, fun hyes honly => ?_⟩
    · obtain ⟨hunused, hother, hdone, hfailed⟩ := State.tallyEnd_rows howner cond data
      exact ⟨fun hno => hunused (mt huse.mp hno), fun hyes => hother (huse.mpr hyes), fun hyes => hdone (huse.mpr hyes),
        fun hyes => hfailed (huse.mpr hyes)⟩
    · have hheard : s.tallyUnitStart s.links[l].portable = s.startHeard s.links[l].portable l :=
        State.tallyUnitStart_of_only fun m hm hin => honly m hm ((s.cameraInUse_iff m).mp hin).1 ((s.cameraInUse_iff m).mp hin).2
      refine ⟨fun hbusy => hheard.trans (if_neg fun ⟨_, _, hfree⟩ => hfree hbusy), fun hfree => hheard.trans ((if_pos
        ⟨huse.mpr hyes, rfl, Bool.eq_false_iff.mp hfree⟩).trans ?_)⟩
      show (match c.target with
        | some d => s.startTally l d
        | none => s) = _
      cases c.target with
      | none => rfl
      | some d => rfl

end Sys2Proof.Machine
end

section

/-! ### The link monitor: what a sample leaves, and the filters (R128 to R138) -/

namespace Sys2Proof.Machine

/-! What a sample leaves of the links' flags -/

theorem State.setMonitor_liveAs (s : State) (l : LinkId) (m : Monitor) : (s.setMonitor l m).LiveAs s := .of_eq rfl rfl

theorem State.setLinkState_liveAs (s : State) (l : LinkId) (st : LinkState) : (s.setLinkState l st).LiveAs s := by
  have hmod : (s.modLink l fun r => { r with state := st }).LiveAs s := s.modLink_liveAs l fun r => ⟨rfl, rfl, rfl⟩
  unfold State.setLinkState
  dsimp only
  split
  · exact (State.releaseOpt_liveAs _ _).trans hmod
  · exact hmod

theorem State.autoFile_liveAs (s : State) (l : LinkId) (target : Target) (reason : Reason) : (s.autoFile l target reason).1.LiveAs s := by
  have hfiled : (s.fileRetune l target reason false).1.LiveAs s := by
    rw [s.fileRetune_parts l target reason false]
    exact .of_eq rfl rfl
  unfold State.autoFile
  split
  · exact .refl s
  · generalize s.fileRetune l target reason false = filed at hfiled
    obtain ⟨t, f⟩ := filed
    cases f with
    | full => exact (t.raise_liveAs _ _ _).trans hfiled
    | added held p => exact hfiled
    | replaced held p => exact hfiled

theorem State.batteryTest_liveAs (s : State) (l : LinkId) (p : Profile) (x : Sample) : (s.batteryTest l p x).LiveAs s := by
  unfold State.batteryTest
  dsimp only
  split
  · exact .refl s
  · split
    · split
      · exact .refl s
      · exact (State.raise_liveAs _ _ _ _).trans (s.setMonitor_liveAs l _)
    · exact s.setMonitor_liveAs l _

theorem State.batteryTestOf_liveAs (s : State) (l : LinkId) (x : Sample) : (s.batteryTestOf l x).LiveAs s := by
  unfold State.batteryTestOf
  split
  · exact s.batteryTest_liveAs l _ x
  · exact .refl s

theorem State.lockTest_liveAs (s : State) (l : LinkId) (p : Profile) (x : Sample) : (s.lockTest l p x).LiveAs s := by
  unfold State.lockTest
  dsimp only
  split
  · exact (State.raise_liveAs _ _ _ _).trans (s.setMonitor_liveAs l _)
  · exact s.setMonitor_liveAs l _

theorem State.crossLow_liveAs (s : State) (l : LinkId) (p : Profile) (x : Sample) (rising : Bool) : (s.crossLow l p x rising).LiveAs s := by
  unfold State.crossLow
  dsimp only
  split
  · exact (State.raise_liveAs _ _ _ _).trans (s.setMonitor_liveAs l _)
  · exact s.setMonitor_liveAs l _

theorem State.crossHigh_liveAs (s : State) (l : LinkId) (p : Profile) (x : Sample) (rising : Bool) : (s.crossHigh l p x rising).LiveAs s := by
  unfold State.crossHigh
  dsimp only
  split
  · exact (State.raise_liveAs _ _ _ _).trans (s.setMonitor_liveAs l _)
  · exact s.setMonitor_liveAs l _

theorem State.overload_liveAs (s : State) (l : LinkId) (x : Sample) : (s.overload l x).LiveAs s := s.raise_liveAs _ _ _

theorem State.crossings_liveAs (s : State) (l : LinkId) (p : Profile) (x : Sample) (before after : LevelSide) :
    (s.crossings l p x before after).LiveAs s := by
  unfold State.crossings
  split
  · exact s.crossLow_liveAs l p x false
  · exact s.crossLow_liveAs l p x true
  · exact (State.overload_liveAs _ l x).trans (s.crossHigh_liveAs l p x true)
  · exact s.crossHigh_liveAs l p x false
  · exact (State.overload_liveAs _ l x).trans ((State.crossHigh_liveAs _ l p x true).trans (s.crossLow_liveAs l p x true))
  · exact (State.crossLow_liveAs _ l p x false).trans (s.crossHigh_liveAs l p x false)
  all_goals exact .refl s

theorem State.interference_liveAs (s : State) (l : LinkId) (x : Sample) : (s.interference l x).LiveAs s := by
  have hrest (t : State) (ht : t.LiveAs s) (detail : List Byte) :
      (if (t.raise .interference (linkByte l) detail).links[l].flags.autoAvoid = true then
        ((t.raise .interference (linkByte l) detail).autoFile l .nextCandidate .interference).1
        else t.raise .interference (linkByte l) detail).LiveAs s := by
    have hraised := (t.raise_liveAs .interference (linkByte l) detail).trans ht
    split
    · exact (State.autoFile_liveAs _ _ _ _).trans hraised
    · exact hraised
  unfold State.interference
  dsimp only
  split
  · exact hrest (s.setSuspect _) (.of_eq rfl rfl) _
  · exact hrest s (.refl s) _

theorem State.fade_liveAs (s : State) (l : LinkId) (x : Sample) : (s.fade l x).LiveAs s := by
  unfold State.fade
  dsimp only
  generalize u8 ((if s.monitors[l].side = .low then 1 else 0) + if s.monitors[l].lockLost = true then 2 else 0) ++ s8 x.corrected
    ++ u8 x.quality = detail
  have hraised := (State.raise_liveAs (s.setLinkState l .faded) .fade (linkByte l) detail).trans (s.setLinkState_liveAs l .faded)
  generalize (s.setLinkState l .faded).raise .fade (linkByte l) detail = t at hraised ⊢
  split
  · have hfiled := (t.autoFile_liveAs l .backup .fade).trans hraised
    generalize t.autoFile l .backup .fade = filed at hfiled ⊢
    obtain ⟨u, f⟩ := filed
    cases f with
    | none => exact hfiled
    | some f =>
      dsimp only
      split
      · exact (State.raise_liveAs _ _ _ _).trans hfiled
      · exact hfiled
  · exact hraised

theorem State.recover_liveAs (s : State) (l : LinkId) (x : Sample) (cause : Nat) : (s.recover l x cause).LiveAs s := by
  refine .trans (b := (s.setLinkState l .up).raise .recover (linkByte l) (u8 cause ++ s8 x.corrected)) (.of_eq rfl rfl) ?_
  exact (State.raise_liveAs _ _ _ _).trans (s.setLinkState_liveAs l .up)

theorem State.fadeOrRecover_liveAs (s : State) (l : LinkId) (x : Sample) : (s.fadeOrRecover l x).LiveAs s := by
  unfold State.fadeOrRecover
  dsimp only
  split
  · exact s.fade_liveAs l x
  · split
    · exact s.recover_liveAs l x 1
    · exact .refl s

theorem State.filterSample_liveAs (s : State) (l : LinkId) (p : Profile) (x : Sample) : (s.filterSample l p x).LiveAs s := by
  unfold State.filterSample
  dsimp only
  refine (State.fadeOrRecover_liveAs _ l x).trans ?_
  have hcrossed (t : State) (ht : t.LiveAs s) (b a : LevelSide) : (t.crossings l p x b a).LiveAs s :=
    (t.crossings_liveAs l p x b a).trans ht
  have htested : (((s.setMonitor l (s.monitors[l].levelFilter p (p.sideOf x.corrected))).lockTest l p x).setMonitor l
      (((s.setMonitor l (s.monitors[l].levelFilter p (p.sideOf x.corrected))).lockTest l p x).monitors[l].qualityFilter p x)).LiveAs s :=
    (State.setMonitor_liveAs _ l _).trans ((State.lockTest_liveAs _ l p x).trans (s.setMonitor_liveAs l _))
  have hbattery := (State.batteryTest_liveAs _ l p x).trans htested
  split
  · exact (State.interference_liveAs _ l x).trans (hcrossed _ hbattery _ _)
  · exact hcrossed _ hbattery _ _

theorem State.close_liveAs (s : State) (k : ContextId) : (s.close k).LiveAs s := by
  rw [State.close_eq]
  split
  · exact .of_eq rfl rfl
  · exact (State.testDrain_liveAs _).trans (.of_eq rfl rfl)

theorem State.endFailed_liveAs (s : State) (k : ContextId) {st : LinkState} (h : st ≠ .idle) (stage : RetuneStage) (cause : FailCause) :
    (s.endFailed k st stage cause).LiveAs s := by
  rw [State.endFailed_eq h]
  refine (State.close_liveAs _ k).trans ((State.raise_liveAs _ _ _ _).trans ?_)
  exact s.modLink_liveAs _ fun r => ⟨rfl, rfl, rfl⟩

theorem State.autoPick_liveAs (s : State) (l : LinkId) (raised : Bool) : (s.autoPick l raised).LiveAs s := by
  unfold State.autoPick
  split
  · exact .refl s
  · split
    · exact .of_eq rfl rfl
    · split
      · exact .refl s
      · exact s.raise_liveAs _ _ _

theorem State.confirmMove_liveAs (s : State) (k : ContextId) : (s.confirmMove k).LiveAs s := by
  rw [State.confirmMove_eq]
  have hmoved : (s.moved k).LiveAs s := by
    refine (State.raise_liveAs _ _ _ _).trans (.trans (State.modLink_liveAs _ _ ?_) (s.releaseOpt_liveAs _))
    exact fun r => ⟨rfl, rfl, rfl⟩
  refine (State.close_liveAs _ k).trans ?_
  split
  · exact (State.autoPick_liveAs _ _ _).trans hmoved
  · exact hmoved

theorem State.sampleConfirm_liveAs (s : State) (l : LinkId) (k : ContextId) (x : Sample) : (s.sampleConfirm l k x).LiveAs s := by
  unfold State.sampleConfirm
  generalize s.confirmFreqs k = freqs
  obtain ⟨wanted, other⟩ := freqs
  dsimp only
  split
  · split
    · unfold State.confirm
      split
      · exact s.confirmMove_liveAs k
      · exact s.endFailed_liveAs k (st := .up) (by decide) _ _
    · exact .refl s
  · split
    · exact .refl s
    · unfold State.mistune
      have hraised (n : Nat) : (s.raiseMistuned l x.freq n).LiveAs s := s.raise_liveAs _ _ _
      split
      · exact (State.endFailed_liveAs _ k (st := .lost) (by decide) _ _).trans ((State.releaseOpt_liveAs _ _).trans (hraised _))
      · exact (State.endFailed_liveAs _ k (st := .lost) (by decide) _ _).trans (hraised _)

theorem State.handleSample_liveAs (s : State) (l : LinkId) (x : Sample) : (s.handleSample l x).LiveAs s := by
  have hup : (s.sampleUp l x).LiveAs s := by
    unfold State.sampleUp
    split
    · exact (State.batteryTestOf_liveAs _ l x).trans ((State.setLinkState_liveAs _ l .lost).trans (s.raise_liveAs _ _ _))
    · split
      · exact s.filterSample_liveAs l _ x
      · split
        · exact s.recover_liveAs l x 1
        · exact .refl s
  have hlost : (s.sampleLost l x).LiveAs s := by
    unfold State.sampleLost
    split
    · have hback : ((s.restartMonitor l).recover l x 2).LiveAs s := (State.recover_liveAs _ l x 2).trans (s.setMonitor_liveAs l _)
      dsimp only
      split
      · exact (State.filterSample_liveAs _ l _ x).trans hback
      · exact hback
    · exact s.batteryTestOf_liveAs l x
  have hmoving : (s.sampleMoving l x).LiveAs s := by
    unfold State.sampleMoving
    dsimp only
    split
    · split
      · exact (State.sampleConfirm_liveAs _ l _ x).trans (s.batteryTestOf_liveAs l x)
      · exact s.batteryTestOf_liveAs l x
    · exact s.batteryTestOf_liveAs l x
  unfold State.handleSample
  split
  · exact hup
  · exact hup
  · exact hlost
  · exact hmoving
  · exact hmoving
  · exact s.batteryTestOf_liveAs l x
  · exact s.batteryTestOf_liveAs l x

/-! The filters of a monitor (R129 to R131) -/

section
variable (m : Monitor) (p : Profile) (side : LevelSide)

theorem Monitor.levelFilter_of_same (h : 1 ≤ p.levelCount) : m.levelFilter p m.side = { m with runSide := m.side, run := 0 } := by
  unfold Monitor.levelFilter
  rw [if_pos rfl]
  exact if_neg (by show ¬ p.levelCount ≤ 0; omega)

/-- A sample on another side than the recognized one goes on with its run, or starts it. -/
theorem Monitor.levelFilter_of_other (hside : side ≠ m.side) :
    m.levelFilter p side =
      let n := if side = m.runSide ∧ 0 < m.run then min 8 (m.run + 1) else 1
      if p.levelCount ≤ n then { m with side, runSide := side, run := 0 } else { m with runSide := side, run := n } := by
  unfold Monitor.levelFilter
  rw [if_neg hside]
  dsimp only
  split
  next h =>
    obtain ⟨rfl, -⟩ := h
    rfl
  next => rfl

/-- The run after a number of consecutive samples on another side, fewer than the profile asks for. -/
theorem Monitor.levelFilter_run (hside : side ≠ m.side) (hrun : m.run = 0) (hcount : p.levelCount ≤ 8) (n : Nat) (hn : n < p.levelCount) :
    (List.replicate n side).foldl (fun u d => Monitor.levelFilter u p d) m
      = { m with runSide := if n = 0 then m.runSide else side, run := n } := by
  induction n with
  | zero => exact congrArg (fun r => { m with run := r }) hrun
  | succ n ih =>
    rw [List.replicate_succ', List.foldl_append, ih (by omega), List.foldl_cons, List.foldl_nil, if_neg (Nat.succ_ne_zero n)]
    refine (Monitor.levelFilter_of_other { m with runSide := if n = 0 then m.runSide else side, run := n } p side hside).trans ?_
    dsimp only
    have hnext : (if side = (if n = 0 then m.runSide else side) ∧ 0 < n then min 8 (n + 1) else 1) = n + 1 := by
      by_cases hzero : n = 0
      · rw [if_neg (by omega), hzero]
      · rw [if_neg hzero, if_pos ⟨rfl, by omega⟩]
        omega
    rw [hnext, if_neg (Nat.not_le.mpr hn)]

theorem Monitor.levelFilter_moves (hside : side ≠ m.side) (hrun : m.run = 0) (hcount : p.levelCount ≤ 8) (hpos : 0 < p.levelCount) :
    (List.replicate p.levelCount side).foldl (fun u d => Monitor.levelFilter u p d) m = { m with side, runSide := side, run := 0 } := by
  obtain ⟨n, hn⟩ : ∃ n, p.levelCount = n + 1 := ⟨p.levelCount - 1, by omega⟩
  rw [hn, List.replicate_succ', List.foldl_append, Monitor.levelFilter_run m p side hside hrun hcount n (by omega), List.foldl_cons,
    List.foldl_nil]
  refine (Monitor.levelFilter_of_other { m with runSide := if n = 0 then m.runSide else side, run := n } p side hside).trans ?_
  dsimp only
  have hnext : p.levelCount ≤ if side = (if n = 0 then m.runSide else side) ∧ 0 < n then min 8 (n + 1) else 1 := by
    by_cases hzero : n = 0
    · rw [if_neg (by omega)]
      omega
    · rw [if_neg hzero, if_pos ⟨rfl, by omega⟩]
      omega
  exact if_pos hnext

end

end Sys2Proof.Machine
end

section

/-! ### A sample of a link, step by step (R126, R127, R132 to R138) -/

namespace Sys2Proof.Machine

/-! The battery test and the crossings -/

theorem State.batteryTest_spelled (t : State) (l : LinkId) (p : Profile) (x : Sample) : t.batteryTest l p x =
    if x.battery = 255 then t
    else if p.battery ≤ x.battery then t.setMonitor l { t.monitors[l] with batteryLow := false }
    else if t.monitors[l].batteryLow then t
    else (t.setMonitor l { t.monitors[l] with batteryLow := true }).raise .batteryLow (linkByte l) (u8 x.battery ++ u8 p.battery) := by
  refine if_congr Iff.rfl rfl ?_
  by_cases h : p.battery ≤ x.battery
  · rw [if_neg (Nat.not_lt.mpr h), if_pos h]
  · rw [if_pos (Nat.not_le.mp h), if_neg h]

theorem Direction.includes_iff (d : Direction) (rising : Bool) :
    d.includes rising = true ↔ d = .both ∨ d = if rising = true then .rise else .fall := by
  cases d <;> cases rising <;> decide

theorem State.crossLow_spelled (t : State) (l : LinkId) (p : Profile) (x : Sample) (rising : Bool) : t.crossLow l p x rising =
    if p.lowDir = .both ∨ p.lowDir = (if rising = true then .rise else .fall) then
      (t.setMonitor l { t.monitors[l] with lowCrossed := true }).raise .lowLimit (linkByte l) (u8 rising.toNat ++ s8 x.corrected ++ s8 p.low)
    else t.setMonitor l { t.monitors[l] with lowCrossed := true } := if_congr (p.lowDir.includes_iff rising) rfl rfl

theorem State.crossHigh_spelled (t : State) (l : LinkId) (p : Profile) (x : Sample) (rising : Bool) : t.crossHigh l p x rising =
    if p.highDir = .both ∨ p.highDir = (if rising = true then .rise else .fall) then
      (t.setMonitor l { t.monitors[l] with highCrossed := true }).raise .highLimit (linkByte l) (u8 rising.toNat ++ s8 x.corrected ++ s8 p.high)
    else t.setMonitor l { t.monitors[l] with highCrossed := true } := if_congr (p.highDir.includes_iff rising) rfl rfl

/-- The crossings by what a crossing of each limit and an overload do. -/
theorem State.crossings_spelled {l : LinkId} {p : Profile} {x : Sample} {low high : State → Bool → State} {overload : State → State}
    (hlow : ∀ t rising, low t rising = t.crossLow l p x rising) (hhigh : ∀ t rising, high t rising = t.crossHigh l p x rising)
    (hoverload : ∀ t, overload t = t.overload l x) (t : State) (before after : LevelSide) :
    (match before, after with
      | .normal, .low => low t false
      | .low, .normal => low t true
      | .normal, .high => overload (high t true)
      | .high, .normal => high t false
      | .low, .high => overload (high (low t true) true)
      | .high, .low => low (high t false) false
      | _, _ => t) = t.crossings l p x before after := by
  cases before <;> cases after <;> simp only [hlow, hhigh, hoverload] <;> rfl

/-! Requests that the monitor files (R80, R82) -/

/-- The outcome of a filing, as the monitor reads it. -/
def State.autoFiled (t : State) (l : LinkId) (target : Target) (reason : Reason) : State × Option Nat :=
  ((t.autoFile l target reason).1, (t.autoFile l target reason).2.bind Filed.heldAt)

theorem State.autoFiled_spelled {t : State} {l : LinkId} {target : Target} (hunused : t.links[l].state ≠ .unused)
    (hidle : t.links[l].state ≠ .idle) (hfreq : target.freq = 0) (reason : Reason) :
    (match t.retuneQueue.findIdx? (·.link = l) with
      | some n => ({ t with retuneQueue := t.retuneQueue.set n (t.entryOf l target reason false) },
          if (t.entryOf l target reason false).held then some n else none)
      | none =>
        if t.retuneQueue.length < 16 then
          ({ t with retuneQueue := t.retuneQueue ++ [t.entryOf l target reason false] },
            if (t.entryOf l target reason false).held then some t.retuneQueue.length else none)
        else (t.raise .retuneDropped (linkByte l) (u8 reason.code ++ u8 target.code ++ u32 0), none))
      = t.autoFiled l target reason := by
  have hauto : t.autoFile l target reason = match t.fileRetune l target reason false with
      | (s, .full) => (s.raiseDropped l target reason, some .full)
      | (s, f) => (s, some f) := if_neg (not_or.mpr ⟨hunused, hidle⟩)
  have hheld : t.links[l].holds reason false = (t.entryOf l target reason false).held := rfl
  have hentry : ({ link := l, target, reason, force := false, held := (t.entryOf l target reason false).held } : QueueEntry)
      = t.entryOf l target reason false := rfl
  have hat (b : Bool) (n : Nat) : Filed.heldAt (.replaced b n) = (if b = true then some n else none)
      ∧ Filed.heldAt (.added b n) = if b = true then some n else none := by
    cases b <;> exact ⟨rfl, rfl⟩
  rw [State.autoFiled, hauto]
  unfold State.fileRetune
  dsimp only
  rw [hheld, hentry]
  generalize (t.entryOf l target reason false).held = held
  generalize t.retuneQueue.findIdx? (fun e => decide (e.link = l)) = found
  cases found with
  | some n => exact congrArg (Prod.mk _) (hat held n).1.symm
  | none =>
    dsimp only
    by_cases hroom : t.retuneQueue.length < 16
    · have hcap : t.retuneQueue.length < Config.retuneCap := hroom
      rw [if_pos hroom, if_pos hcap]
      exact congrArg (Prod.mk _) (hat held _).2.symm
    · have hcap : ¬ t.retuneQueue.length < Config.retuneCap := hroom
      rw [if_neg hroom, if_neg hcap, ← hfreq] <;> rfl

/-! The events (R133, R134, R136) -/

/-- A link that the monitor can file for: neither UNUSED nor IDLE. -/
def State.inUse (t : State) (l : LinkId) : Prop := t.links[l].state ≠ .unused ∧ t.links[l].state ≠ .idle

/-- The state with a carrier marked suspect, where there is one. -/
def State.suspected (t : State) (e : Option EntryId) : State :=
  match e with
  | some e => { t with plan := { t.plan with carriers := put t.plan.carriers e { t.plan.carriers[e] with suspect := true } } }
  | none => t

section
variable {l : LinkId} {x : Sample} {file : State → Target → Reason → State × Option Nat}
  (hfile : ∀ (t : State) (target : Target) (reason : Reason), t.inUse l → target.freq = 0 → file t target reason = t.autoFiled l target reason)
include hfile

theorem State.interference_spelled {t : State} (huse : t.inUse l) :
    (let t := t.suspected t.links[l].active
      let t := t.raise .interference (linkByte l) ([indexByte t.links[l].active] ++ u8 x.quality ++ s8 x.corrected)
      if t.links[l].flags.autoAvoid then (file t .nextCandidate .interference).1 else t) = t.interference l x := by
  have hmodel : t.interference l x =
      (let t := (t.suspected t.links[l].active).raise .interference (linkByte l) ([indexByte t.links[l].active] ++ u8 x.quality ++ s8 x.corrected)
      if t.links[l].flags.autoAvoid then (t.autoFile l .nextCandidate .interference).1 else t) := rfl
  have hlinks : (t.suspected t.links[l].active).links = t.links := by
    cases t.links[l].active <;> rfl
  rw [hmodel]
  dsimp only
  rw [hlinks]
  generalize t.suspected t.links[l].active = u at hlinks ⊢
  have hraise := (u.raise_frame .interference (linkByte l) ([indexByte t.links[l].active] ++ u8 x.quality ++ s8 x.corrected)).2.2.2.1
  generalize u.raise .interference (linkByte l) ([indexByte t.links[l].active] ++ u8 x.quality ++ s8 x.corrected) = v at hraise ⊢
  refine if_congr Iff.rfl (congrArg Prod.fst (hfile v _ _ ?_ rfl)) rfl
  rw [State.inUse, hraise, hlinks]
  exact huse

theorem State.fade_spelled {t : State} (hunused : t.inUse l) :
    (let cause := (if t.monitors[l].side = .low then 1 else 0) + (if t.monitors[l].lockLost then 2 else 0)
      let t := (t.modLink l fun r => { r with state := .faded }).raise .fade (linkByte l) (u8 cause ++ s8 x.corrected ++ u8 x.quality)
      if t.links[l].flags.autoSwitchover ∧ t.links[l].standby ≠ none then
        match file t .backup .fade with
        | (u, some n) => u.raise .fadeLive (linkByte l) ([indexByte t.links[l].standby] ++ u8 n)
        | (u, none) => u
      else t) = t.fade l x := by
  unfold State.fade
  dsimp only
  have hmoved : t.setLinkState l .faded = t.modLink l fun r => { r with state := .faded } := State.setLinkState_of_moved (by decide) t l
  rw [hmoved]
  generalize u8 ((if t.monitors[l].side = .low then 1 else 0) + if t.monitors[l].lockLost = true then 2 else 0) ++ s8 x.corrected
    ++ u8 x.quality = detail
  have hlinks := ((t.modLink l fun r => { r with state := .faded }).raise_frame .fade (linkByte l) detail).2.2.2.1
  have hget : ((t.modLink l fun r => { r with state := .faded }).raise .fade (linkByte l) detail).links[l].state = .faded := by
    rw [hlinks, State.modLink_get]
  generalize (t.modLink l fun r => { r with state := .faded }).raise .fade (linkByte l) detail = u at hget
  have huse : u.inUse l := by
    rw [State.inUse, hget]
    exact ⟨by decide, by decide⟩
  refine if_congr (and_congr_right fun _ => by rw [← Option.isSome_iff_ne_none]) ?_ rfl
  rw [hfile u .backup .fade huse rfl, State.autoFiled]
  have hkept : (u.autoFile l .backup .fade).1.links = u.links := by
    have hfiled : (u.fileRetune l .backup .fade false).1.links = u.links := by rw [u.fileRetune_parts l .backup .fade false]
    unfold State.autoFile
    rw [if_neg (not_or.mpr huse)]
    generalize u.fileRetune l .backup .fade false = filed at hfiled ⊢
    obtain ⟨v, f⟩ := filed
    cases f with
    | full => exact (v.raise_frame _ _ _).2.2.2.1.trans hfiled
    | added held p => exact hfiled
    | replaced held p => exact hfiled
  generalize u.autoFile l .backup .fade = filed at hkept ⊢
  obtain ⟨v, f⟩ := filed
  have hstandby : v.links[l].standby = u.links[l].standby := by rw [show v.links = u.links from hkept]
  cases f with
  | none => rfl
  | some f =>
    dsimp only [Option.bind]
    cases f.heldAt with
    | none => rfl
    | some n =>
      dsimp only
      rw [hstandby, index]

end

theorem State.recover_spelled (t : State) (l : LinkId) (x : Sample) (cause : Nat) :
    { (t.modLink l fun r => { r with state := .up }).raise .recover (linkByte l) (u8 cause ++ s8 x.corrected) with
      retuneQueue := ((t.modLink l fun r => { r with state := .up }).raise .recover (linkByte l)
        (u8 cause ++ s8 x.corrected)).retuneQueue.filter fun e => ¬ (e.link = l ∧ e.reason = .fade) } = t.recover l x cause := by
  have hmoved : t.setLinkState l .up = t.modLink l fun r => { r with state := .up } := State.setLinkState_of_moved (by decide) t l
  rw [State.recover, State.removeFade, hmoved]
  dsimp only
  have hfilter (q : List QueueEntry) : (q.filter fun e => decide (¬ (e.link = l ∧ e.reason = .fade)))
      = q.filter fun e => !(decide (e.link = l) && decide (e.reason = .fade)) :=
    List.filter_congr fun e _ => by rw [decide_not, Bool.decide_and]
  rw [hfilter]

/-! A sample through the filters (R126) -/

/-- What a monitor's filters recognize is as it was. -/
def Monitor.SameFilters (m n : Monitor) : Prop := m.side = n.side ∧ m.poor = n.poor ∧ m.lockLost = n.lockLost

/-- The links are as they were, and so is what the filters of one link recognize. -/
def State.SameFilters (t s : State) (l : LinkId) : Prop := t.links = s.links ∧ t.monitors[l].SameFilters s.monitors[l]

theorem State.SameFilters.refl (s : State) (l : LinkId) : s.SameFilters s l := ⟨rfl, rfl, rfl, rfl⟩

theorem State.SameFilters.trans {a b c : State} {l : LinkId} (h : a.SameFilters b l) (k : b.SameFilters c l) : a.SameFilters c l :=
  ⟨h.1.trans k.1, h.2.1.trans k.2.1, h.2.2.1.trans k.2.2.1, h.2.2.2.trans k.2.2.2⟩

theorem State.raise_sameFilters (s : State) (l : LinkId) (n : Notice) (object : Byte) (detail : List Byte) :
    (s.raise n object detail).SameFilters s l := by
  rw [State.raise_eq]
  exact .refl s l

theorem State.setMonitor_get (s : State) (l : LinkId) (m : Monitor) : (s.setMonitor l m).monitors[l] = m := put_eq _ _ _

theorem State.setMonitor_sameFilters {s : State} {l : LinkId} {m : Monitor} (h : m.SameFilters s.monitors[l]) :
    (s.setMonitor l m).SameFilters s l := by
  refine ⟨rfl, ?_⟩
  rw [State.setMonitor_get]
  exact h

theorem State.batteryTest_sameFilters (s : State) (l : LinkId) (p : Profile) (x : Sample) : (s.batteryTest l p x).SameFilters s l := by
  have hset (b : Bool) : (s.setMonitor l { s.monitors[l] with batteryLow := b }).SameFilters s l :=
    State.setMonitor_sameFilters ⟨rfl, rfl, rfl⟩
  unfold State.batteryTest
  dsimp only
  split
  · exact .refl s l
  · split
    · split
      · exact .refl s l
      · exact (State.raise_sameFilters _ l _ _ _).trans (hset true)
    · exact hset false

theorem State.crossLow_sameFilters (s : State) (l : LinkId) (p : Profile) (x : Sample) (rising : Bool) :
    (s.crossLow l p x rising).SameFilters s l := by
  have hset : (s.setMonitor l { s.monitors[l] with lowCrossed := true }).SameFilters s l := State.setMonitor_sameFilters ⟨rfl, rfl, rfl⟩
  unfold State.crossLow
  dsimp only
  split
  · exact (State.raise_sameFilters _ l _ _ _).trans hset
  · exact hset

theorem State.crossHigh_sameFilters (s : State) (l : LinkId) (p : Profile) (x : Sample) (rising : Bool) :
    (s.crossHigh l p x rising).SameFilters s l := by
  have hset : (s.setMonitor l { s.monitors[l] with highCrossed := true }).SameFilters s l := State.setMonitor_sameFilters ⟨rfl, rfl, rfl⟩
  unfold State.crossHigh
  dsimp only
  split
  · exact (State.raise_sameFilters _ l _ _ _).trans hset
  · exact hset

theorem State.crossings_sameFilters (s : State) (l : LinkId) (p : Profile) (x : Sample) (before after : LevelSide) :
    (s.crossings l p x before after).SameFilters s l := by
  have hover (t : State) : (t.overload l x).SameFilters t l := t.raise_sameFilters l _ _ _
  unfold State.crossings
  split
  · exact s.crossLow_sameFilters l p x false
  · exact s.crossLow_sameFilters l p x true
  · exact (hover _).trans (s.crossHigh_sameFilters l p x true)
  · exact s.crossHigh_sameFilters l p x false
  · exact (hover _).trans ((State.crossHigh_sameFilters _ l p x true).trans (s.crossLow_sameFilters l p x true))
  · exact (State.crossLow_sameFilters _ l p x false).trans (s.crossHigh_sameFilters l p x false)
  all_goals exact .refl s l

theorem State.interference_sameFilters (s : State) (l : LinkId) (x : Sample) : (s.interference l x).SameFilters s l := by
  have hfiled (t : State) : (t.autoFile l .nextCandidate .interference).1.SameFilters t l := by
    have hparts : (t.fileRetune l .nextCandidate .interference false).1.SameFilters t l := by
      rw [t.fileRetune_parts l .nextCandidate .interference false]
      exact .refl t l
    unfold State.autoFile
    split
    · exact .refl t l
    · generalize t.fileRetune l .nextCandidate .interference false = filed at hparts
      obtain ⟨u, f⟩ := filed
      cases f with
      | full => exact (u.raise_sameFilters l _ _ _).trans hparts
      | added held p => exact hparts
      | replaced held p => exact hparts
  have hrest (t : State) (ht : t.SameFilters s l) (detail : List Byte) :
      (if (t.raise .interference (linkByte l) detail).links[l].flags.autoAvoid = true then
        ((t.raise .interference (linkByte l) detail).autoFile l .nextCandidate .interference).1
        else t.raise .interference (linkByte l) detail).SameFilters s l := by
    have hraised := (t.raise_sameFilters l .interference (linkByte l) detail).trans ht
    split
    · exact (hfiled _).trans hraised
    · exact hraised
  unfold State.interference
  dsimp only
  split
  · exact hrest (s.setSuspect _) (.refl s l) _
  · exact hrest s (.refl s l) _

theorem State.raise_setMonitor (s : State) (l : LinkId) (m : Monitor) (n : Notice) (object : Byte) (detail : List Byte) :
    (s.raise n object detail).setMonitor l m = (s.setMonitor l m).raise n object detail := by
  rw [State.raise_eq, State.raise_eq]
  rfl

theorem State.setMonitor_setMonitor (s : State) (l : LinkId) (m n : Monitor) : (s.setMonitor l m).setMonitor l n = s.setMonitor l n :=
  congrArg (fun v => { s with monitors := v }) (put_put _ _ _ _)

/-- The lock test and the quality filter of a monitor that has just been set. -/
theorem State.lockTest_setMonitor (t : State) (l : LinkId) (p : Profile) (x : Sample) (m : Monitor) :
    ((t.setMonitor l m).lockTest l p x).monitors[l] = m.lockTest p x.lock ∧
    ∀ n : Monitor, ((t.setMonitor l m).lockTest l p x).setMonitor l n =
      if (m.lockTest p x.lock).lockLost = true ∧ m.lockLost = false then (t.setMonitor l n).raise .lockLost (linkByte l) (u32 x.freq)
      else t.setMonitor l n := by
  have hcond : ((m.lockTest p x.lock).lockLost = true ∧ ¬ m.lockLost = true)
      ↔ (m.lockTest p x.lock).lockLost = true ∧ m.lockLost = false := by rw [Bool.not_eq_true]
  have htest : (t.setMonitor l m).lockTest l p x =
      if (m.lockTest p x.lock).lockLost = true ∧ m.lockLost = false then
        (t.setMonitor l (m.lockTest p x.lock)).raise .lockLost (linkByte l) (u32 x.freq)
      else t.setMonitor l (m.lockTest p x.lock) := by
    unfold State.lockTest
    dsimp only
    rw [State.setMonitor_get, State.setMonitor_setMonitor]
    exact if_congr hcond rfl rfl
  rw [htest]
  split
  · refine ⟨by rw [State.raise_eq]; exact State.setMonitor_get _ _ _, fun n => ?_⟩
    rw [State.raise_setMonitor, State.setMonitor_setMonitor]
  · exact ⟨State.setMonitor_get _ _ _, fun n => State.setMonitor_setMonitor _ _ _ _⟩

theorem Profile.sideOf_spelled (p : Profile) (level : Int) :
    (if level < p.low then LevelSide.low else if p.high < level then .high else .normal) = p.sideOf level := by
  unfold Profile.sideOf
  by_cases h : level < p.low
  · rw [if_pos h, if_pos h]
  · rw [if_neg h, if_neg h]
    by_cases hh : p.high < level
    · rw [if_pos hh, if_neg (not_le.mpr hh)]
    · rw [if_neg hh, if_pos (not_lt.mp hh)]

theorem State.filterSample_spelled {l : LinkId} {p : Profile} {x : Sample} {tested interfered faded : State → State}
    {crossed : State → Profile → LevelSide → LevelSide → State} {recovered : State → Nat → State}
    (htested : ∀ t, tested t = t.batteryTest l p x) (hcrossed : ∀ t b a, crossed t p b a = t.crossings l p x b a)
    (hinterfered : ∀ t : State, t.inUse l → interfered t = t.interference l x) (hfaded : ∀ t : State, t.inUse l → faded t = t.fade l x)
    (hrecovered : ∀ t n, recovered t n = t.recover l x n) {t : State} (huse : t.inUse l) :
    (let m := t.monitors[l]
      let side : LevelSide := if x.corrected < p.low then .low else if p.high < x.corrected then .high else .normal
      let m1 := m.levelFilter p side
      let m2 := m1.lockTest p x.lock
      let m3 := m2.qualityFilter p x
      let t := t.setMonitor l m3
      let t := tested (if m2.lockLost = true ∧ m1.lockLost = false then t.raise .lockLost (linkByte l) (u32 x.freq) else t)
      let t := crossed t p m.side m3.side
      let t := if m3.poor = true ∧ m2.poor = false then interfered t else t
      if t.links[l].state = .up ∧ (m3.side = .low ∨ m3.lockLost = true) then faded t
      else if t.links[l].state = .faded ∧ x.lock = true ∧ m3.side ≠ .low then recovered t 1
      else t) = t.filterSample l p x := by
  dsimp only
  unfold State.filterSample State.fadeOrRecover
  dsimp only
  rw [Profile.sideOf_spelled]
  obtain ⟨hlocked, hset⟩ := t.lockTest_setMonitor l p x (t.monitors[l].levelFilter p (p.sideOf x.corrected))
  generalize t.monitors[l].levelFilter p (p.sideOf x.corrected) = m1 at hlocked hset ⊢
  rw [hlocked, hset, htested]
  generalize hm3 : (m1.lockTest p x.lock).qualityFilter p x = m3
  have hlinks : (if (m1.lockTest p x.lock).lockLost = true ∧ m1.lockLost = false then
      (t.setMonitor l m3).raise .lockLost (linkByte l) (u32 x.freq) else t.setMonitor l m3).SameFilters (t.setMonitor l m3) l := by
    split
    · exact State.raise_sameFilters _ l _ _ _
    · exact .refl _ l
  generalize (if (m1.lockTest p x.lock).lockLost = true ∧ m1.lockLost = false then
      (t.setMonitor l m3).raise .lockLost (linkByte l) (u32 x.freq) else t.setMonitor l m3) = u at hlinks ⊢
  have hbattery := (u.batteryTest_sameFilters l p x).trans hlinks
  generalize u.batteryTest l p x = u at hbattery ⊢
  have hget : (t.setMonitor l m3).monitors[l] = m3 := State.setMonitor_get _ _ _
  have hside : u.monitors[l].side = m3.side := hbattery.2.1.trans (congrArg Monitor.side hget)
  rw [hcrossed, hside]
  have hcross := (u.crossings_sameFilters l p x t.monitors[l].side m3.side).trans hbattery
  generalize u.crossings l p x t.monitors[l].side m3.side = v at hcross ⊢
  have hvuse : v.inUse l := by
    rw [State.inUse, hcross.1]
    exact huse
  have hpoor : v.monitors[l].poor = m3.poor := hcross.2.2.1.trans (congrArg Monitor.poor hget)
  rw [hinterfered v hvuse, hpoor]
  have hcond : (m3.poor = true ∧ ¬ (m1.lockTest p x.lock).poor = true) ↔ m3.poor = true ∧ (m1.lockTest p x.lock).poor = false := by
    rw [Bool.not_eq_true]
  rw [if_congr hcond rfl rfl]
  have hevent : (if m3.poor = true ∧ (m1.lockTest p x.lock).poor = false then v.interference l x else v).SameFilters (t.setMonitor l m3) l := by
    split
    · exact (v.interference_sameFilters l x).trans hcross
    · exact hcross
  generalize (if m3.poor = true ∧ (m1.lockTest p x.lock).poor = false then v.interference l x else v) = w at hevent ⊢
  have hwuse : w.inUse l := by
    rw [State.inUse, hevent.1]
    exact huse
  have hwside : w.monitors[l].side = m3.side := hevent.2.1.trans (congrArg Monitor.side hget)
  have hwlock : w.monitors[l].lockLost = m3.lockLost := hevent.2.2.2.trans (congrArg Monitor.lockLost hget)
  rw [hfaded w hwuse, hrecovered, hwside, hwlock]

end Sys2Proof.Machine
end

section

/-! ### The statement of O46 -/

namespace Sys2Proof.Machine

/-! The sample of a cell, by its link and by the link's state (R126) -/

theorem State.matchLink_of_first {s : State} {src : Byte} {chan : Nat} {l : LinkId}
    (h : s.links[l].state ≠ .unused ∧ s.links[l].rack = src ∧ s.links[l].chan = chan)
    (hfirst : ∀ m : LinkId, m < l → ¬ (s.links[m].state ≠ .unused ∧ s.links[m].rack = src ∧ s.links[m].chan = chan)) :
    s.matchLink src chan = some l := by
  have hhears (m : LinkId) : (s.links[m].state != .unused && s.links[m].rack == src && s.links[m].chan == chan) = true
      ↔ s.links[m].state ≠ .unused ∧ s.links[m].rack = src ∧ s.links[m].chan = chan := by
    rw [Bool.and_eq_true, Bool.and_eq_true, bne_iff_ne, beq_iff_eq, beq_iff_eq, and_assoc]
  rw [State.matchLink, find_finRange_iff]
  exact ⟨(hhears l).mpr h, fun m hm => Bool.eq_false_iff.mpr fun hh => hfirst m hm ((hhears m).mp hh)⟩

theorem State.matchLink_of_none {s : State} {src : Byte} {chan : Nat}
    (h : ∀ l : LinkId, ¬ (s.links[l].state ≠ .unused ∧ s.links[l].rack = src ∧ s.links[l].chan = chan)) : s.matchLink src chan = none := by
  simpa [State.matchLink, and_assoc] using h

theorem exec_telemetryCell {s : State} {c : Cell} (hdue : s.due = []) (hreset : s.pins.reset = false) (hgood : integral c = true)
    (hkind : c.kind = 4) (hdest : c.dest = 0) (hlen : c.len = 8) : exec (.telemetryCell c) s = .next (s.takeTelemetry c) := by
  have hformat : ((cellData c).length == 8) = true := by
    rw [beq_iff_eq, cellData_length_of_integral c hgood, hlen] <;> rfl
  refine (State.settled_receive hdue hreset hgood (by simp [Instr.wf, hkind, hdest])
    fun s => s.checkFormat .d ((cellData c).length == 8) fun s => s.takeTelemetry c).trans ?_
  rw [State.checkFormat_of_ok hformat]

theorem State.takeTelemetry_of_link {s : State} {c : Cell} {l : LinkId} (h : s.matchLink c.src (u8At (cellData c) 0 % 4) = some l) :
    s.takeTelemetry c =
      let x := s.sampleOf l (cellData c)
      let t := (s.storeSample l x).handleSample l x
      if s.links[l].flags.telemetryRelay then t.offerForward .u c else t := by
  have hflags : ((s.storeSample l (s.sampleOf l (cellData c))).handleSample l (s.sampleOf l (cellData c))).links[l].flags = s.links[l].flags :=
    ((State.handleSample_liveAs _ l _).2 l).2.2
  unfold State.takeTelemetry
  dsimp only
  rw [h]
  dsimp only
  rw [hflags]

theorem State.handleSample_of_up {s : State} {l : LinkId} (h : s.links[l].state = .up ∨ s.links[l].state = .faded) (x : Sample) :
    s.handleSample l x = s.sampleUp l x := by
  unfold State.handleSample
  rcases h with h | h <;> rw [h]

theorem State.handleSample_of_moving {s : State} {l : LinkId} (h : s.links[l].state = .assigning ∨ s.links[l].state = .retuning) (x : Sample) :
    s.handleSample l x = s.sampleMoving l x := by
  unfold State.handleSample
  rcases h with h | h <;> rw [h]

/-- The battery test changes the monitors and what its notice changes. -/
theorem State.batteryTestOf_parts (s : State) (l : LinkId) (x : Sample) : s.batteryTestOf l x = { s with
    monitors := (s.batteryTestOf l x).monitors, uport := (s.batteryTestOf l x).uport, agent := (s.batteryTestOf l x).agent } := by
  unfold State.batteryTestOf
  split
  · unfold State.batteryTest
    dsimp only
    split
    · rfl
    · split
      · split
        · rfl
        · rw [State.raise_eq]
          rfl
      · rfl
  · rfl

theorem State.batteryTestOf_spelled {s t : State} {l : LinkId} (hprofile : t.links[l].profile = s.links[l].profile)
    (hprofiles : t.profiles = s.profiles) (x : Sample) :
    (match s.links[l].profile with
      | none => t
      | some p => if x.battery = 255 then t
        else if s.profiles[p].battery ≤ x.battery then t.setMonitor l { t.monitors[l] with batteryLow := false }
        else if t.monitors[l].batteryLow then t
        else (t.setMonitor l { t.monitors[l] with batteryLow := true }).raise .batteryLow (linkByte l)
          (u8 x.battery ++ u8 s.profiles[p].battery)) = t.batteryTestOf l x := by
  rw [State.batteryTestOf, hprofile, hprofiles]
  cases s.links[l].profile with
  | none => rfl
  | some p => exact (t.batteryTest_spelled l s.profiles[p] x).symm

/-! A sample of a link being moved (R112, R115, R127) -/

theorem State.sampleMoving_of_other {s : State} {l : LinkId}
    (h : ∀ k : ContextId, s.serving l = some k → s.contexts[k].stage ≠ .confirm ∧ ¬ (s.contexts[k].stage = .revert ∧ s.contexts[k].reverted = true))
    (x : Sample) : s.sampleMoving l x = s.batteryTestOf l x := by
  have hcontexts : (s.batteryTestOf l x).contexts = s.contexts := by rw [s.batteryTestOf_parts l x]
  have hserving : (s.batteryTestOf l x).serving l = s.serving l := by rw [State.serving, State.serving, hcontexts]
  unfold State.sampleMoving
  dsimp only
  rw [hserving]
  cases hs : s.serving l with
  | none => rfl
  | some k =>
    refine if_neg ?_
    rw [hcontexts, Context.confirming_iff]
    exact fun hh => hh.elim (h k hs).1 (h k hs).2

theorem State.sampleMoving_of_confirming {s : State} {l : LinkId} {k : ContextId} (hs : s.serving l = some k)
    (h : s.contexts[k].confirming = true) (x : Sample) : s.sampleMoving l x = (s.batteryTestOf l x).sampleConfirm l k x := by
  have hcontexts : (s.batteryTestOf l x).contexts = s.contexts := by rw [s.batteryTestOf_parts l x]
  have hserving : (s.batteryTestOf l x).serving l = s.serving l := by rw [State.serving, State.serving, hcontexts]
  unfold State.sampleMoving
  dsimp only
  rw [hserving, hs]
  refine if_pos ?_
  rw [hcontexts]
  exact h

theorem State.confirms_iff (s : State) (l : LinkId) (x : Sample) :
    s.confirms l x = true ↔ x.lock = true ∧ ∃ p : Fin 8, s.links[l].profile = some p ∧ s.profiles[p].low ≤ x.corrected := by
  unfold State.confirms
  cases s.links[l].profile with
  | none => exact ⟨nofun, fun ⟨_, _, h, _⟩ => absurd h nofun⟩
  | some p =>
    dsimp only
    rw [Bool.and_eq_true, decide_eq_true_iff]
    exact and_congr_right fun _ => ⟨fun h => ⟨p, rfl, h⟩, fun ⟨q, hq, h⟩ => Option.some.inj hq ▸ h⟩

/-- The wanted and the other frequency of a context in a confirm stage. -/
theorem State.confirmFreqs_eq {s : State} {k : ContextId} {wanted : Nat} {other : Option Nat}
    (h : s.contexts[k].stage = .confirm ∧ wanted = s.contexts[k].newFreq ∧ other = s.contexts[k].oldEntry.map (fun e => s.plan.carriers[e].freq)
      ∨ s.contexts[k].stage = .revert ∧ s.contexts[k].reverted = true ∧ s.contexts[k].oldEntry.map (fun e => s.plan.carriers[e].freq) = some wanted
        ∧ other = some s.contexts[k].newFreq) : s.confirmFreqs k = (wanted, other) := by
  rw [State.confirmFreqs]
  rcases h with ⟨hstage, rfl, rfl⟩ | ⟨hstage, -, hold, rfl⟩
  · rw [if_pos hstage]
  · rw [hstage, hold]
    rfl

section
variable {s : State} {l : LinkId} {k : ContextId} {x : Sample} {wanted : Nat} {other : Option Nat} (h : s.confirmFreqs k = (wanted, other))
include h

theorem State.sampleConfirm_of_wanted (hfreq : x.freq = wanted) : s.sampleConfirm l k x = if s.confirms l x then s.confirm k else s := by
  unfold State.sampleConfirm
  rw [h]
  exact if_pos hfreq

theorem State.sampleConfirm_of_other (hfreq : x.freq ≠ wanted) (hother : other = some x.freq) : s.sampleConfirm l k x = s := by
  unfold State.sampleConfirm
  rw [h]
  exact (if_neg hfreq).trans (if_pos hother)

theorem State.sampleConfirm_of_mistuned (hfreq : x.freq ≠ wanted) (hother : other ≠ some x.freq) :
    s.sampleConfirm l k x = (s.raiseMistuned l x.freq wanted).mistune k := by
  unfold State.sampleConfirm
  rw [h]
  exact (if_neg hfreq).trans (if_neg hother)

end

theorem State.recover_link (s : State) (l : LinkId) (x : Sample) (cause : Nat) :
    (s.recover l x cause).links[l] = { s.links[l] with state := .up } ∧ (s.recover l x cause).profiles = s.profiles := by
  have hmoved : s.setLinkState l .up = s.modLink l fun r => { r with state := .up } := State.setLinkState_of_moved (by decide) s l
  rw [State.recover, State.removeFade, hmoved, State.raise_eq]
  exact ⟨put_eq _ _ _, rfl⟩

/-- Settles O46. -/
theorem telemetryIsMonitored : Obligations.TelemetryIsMonitored := by
  refine ⟨fun s c hdue hreset hgood hkind hdest hlen => ?_, fun m p side n hside hrun hcount => ?_, fun m p side hpos => ?_, fun m p x => ?_,
    fun s l p hdue hstate hprofile hsilence => ?_⟩
  · intro data hears passed
    have hexec := exec_telemetryCell hdue hreset hgood hkind hdest hlen
    refine ⟨fun hno => ?_, fun l hhears hfirst => ?_⟩
    · rw [hexec, State.takeTelemetry, State.matchLink_of_none hno] <;> rfl
    intro x stored relayed active watch enter tested file crossed interfered faded recovered filtered
    have htaken : exec (.telemetryCell c) s = .next (relayed (stored.handleSample l x)) :=
      hexec.trans (congrArg _ (State.takeTelemetry_of_link (State.matchLink_of_first hhears hfirst)))
    have hrow {t : State} (ht : stored.handleSample l x = t) : exec (.telemetryCell c) s = .next (relayed t) := ht ▸ htaken
    have htested (t : State) (hp : t.links[l].profile = s.links[l].profile) (hps : t.profiles = s.profiles) : tested t = t.batteryTestOf l x :=
      State.batteryTestOf_spelled hp hps x
    have hrecovered (t : State) (n : Nat) : recovered t n = t.recover l x n := t.recover_spelled l x n
    have hfile (t : State) (target : Target) (reason : Reason) (huse : t.inUse l) (hfreq : target.freq = 0) :
        file t target reason = t.autoFiled l target reason := State.autoFiled_spelled huse.1 huse.2 hfreq reason
    have hcrossed (p : Profile) (t : State) (b a : LevelSide) : crossed t p b a = t.crossings l p x b a :=
      State.crossings_spelled (fun t rising => (t.crossLow_spelled l p x rising).symm) (fun t rising => (t.crossHigh_spelled l p x rising).symm)
        (fun _ => rfl) t b a
    have hinterfered (t : State) (huse : t.inUse l) : interfered t = t.interference l x := State.interference_spelled hfile huse
    have hfaded (t : State) (huse : t.inUse l) : faded t = t.fade l x := State.fade_spelled hfile huse
    have hfiltered (t : State) (p : Fin 8) (hp : s.links[l].profile = some p) (huse : t.inUse l) :
        filtered t s.profiles[p] = t.filterSample l s.profiles[p] x := by
      have htest (t : State) : tested t = t.batteryTest l s.profiles[p] x := by
        rw [State.batteryTest_spelled]
        show (match s.links[l].profile with
          | none => t
          | some q => _) = _
        rw [hp] <;> rfl
      exact State.filterSample_spelled htest (hcrossed s.profiles[p]) hinterfered hfaded hrecovered huse
    have hactive : stored.activeFreq l = active := rfl
    have hbattery : tested stored = stored.batteryTestOf l x := htested stored rfl rfl
    refine ⟨fun hidle => hrow ?_, fun f hup ha hf => hrow ?_, fun hp ha hstate => hrow ?_, fun hp ha hstate hlock => hrow ?_,
      fun p hp ha hup => hrow ?_, fun hlost hno => hrow ?_, fun hlost hlock ha => ?_, fun hmoving hno => hrow ?_,
      fun k wanted other hmoving hserves => ?_⟩
    · rw [hbattery, State.handleSample]
      have hstate : stored.links[l].state = .idle := hidle
      rw [hstate]
    · have hmistuned : stored.activeFreq l ≠ some x.freq := by
        rw [hactive, ha]
        exact fun h => hf (Option.some.inj h).symm
      have hmoved : enter (stored.raise .mistuned (linkByte l) (u32 x.freq ++ u32 f)) .lost
          = (stored.raise .mistuned (linkByte l) (u32 x.freq ++ u32 f)).setLinkState l .lost :=
        (State.setLinkState_of_moved (by decide) _ l).symm
      have hprofile : (enter (stored.raise .mistuned (linkByte l) (u32 x.freq ++ u32 f)) .lost).links[l].profile = s.links[l].profile := by
        refine (congrArg Link.profile (put_eq _ _ _)).trans ?_
        exact congrArg (fun v : Vector Link 80 => v[l].profile) (stored.raise_frame _ _ _).2.2.2.1
      have hprofiles : (stored.raise .mistuned (linkByte l) (u32 x.freq ++ u32 f)).profiles = s.profiles := by rw [State.raise_eq]
      refine (State.handleSample_of_up (s := stored) hup x).trans ((if_pos hmistuned).trans ?_)
      rw [htested _ hprofile hprofiles, hmoved, hactive, ha] <;> rfl
    · refine (State.handleSample_of_up (s := stored) (hstate.imp_right And.left) x).trans ((if_neg (not_not.mpr ha)).trans ?_)
      have hprofile : stored.links[l].profile = none := hp
      rw [hprofile]
      exact if_neg fun ⟨hfaded, hlock⟩ => hstate.elim (fun h => absurd (h.symm.trans hfaded) nofun) fun h => absurd (h.2.symm.trans hlock) nofun
    · refine (State.handleSample_of_up (s := stored) (.inr hstate) x).trans ((if_neg (not_not.mpr ha)).trans ?_)
      have hprofile : stored.links[l].profile = none := hp
      rw [hprofile, hrecovered]
      exact if_pos ⟨hstate, hlock⟩
    · have huse : stored.inUse l := by
        have hstate : stored.links[l].state = .up ∨ stored.links[l].state = .faded := hup
        rw [State.inUse]
        rcases hstate with h | h <;> rw [h] <;> exact ⟨by decide, by decide⟩
      refine (State.handleSample_of_up (s := stored) hup x).trans ((if_neg (not_not.mpr ha)).trans ?_)
      have hprofile : stored.links[l].profile = some p := hp
      rw [hprofile, hfiltered stored p hp huse]
    · have hstate : stored.links[l].state = .lost := hlost
      rw [hbattery, State.handleSample, hstate]
      exact if_neg fun ⟨hlock, hfreq⟩ => hno.elim (fun h => absurd (h.symm.trans hlock) nofun) fun h => h hfreq
    · intro back
      have hstate : stored.links[l].state = .lost := hlost
      have hmonitor : stored.monitors[l] = { s.monitors[l] with silence := 0 } := put_eq _ _ _
      have hrestart : stored.restartMonitor l = watch stored
          ({ batteryLow := s.monitors[l].batteryLow, lowCrossed := s.monitors[l].lowCrossed, highCrossed := s.monitors[l].highCrossed } : Monitor) := by
        rw [State.restartMonitor, hmonitor] <;> rfl
      have hback : (stored.restartMonitor l).recover l x 2 = back := by rw [hrestart, ← hrecovered]
      obtain ⟨hlink, hprofiles⟩ := (stored.restartMonitor l).recover_link l x 2
      have hprofile : back.links[l].profile = s.links[l].profile := by
        rw [← hback, hlink] <;> rfl
      have huse : back.inUse l := by
        rw [State.inUse, ← hback, hlink]
        exact ⟨LinkState.noConfusion, LinkState.noConfusion⟩
      refine hrow ?_
      rw [State.handleSample, hstate]
      refine (if_pos ⟨hlock, ha⟩).trans ?_
      dsimp only
      rw [hback, hprofile]
      have hback' : back.profiles = s.profiles := by
        rw [← hback, hprofiles] <;> rfl
      cases hp : s.links[l].profile with
      | none => rfl
      | some p =>
        dsimp only
        rw [hfiltered back p hp huse, hback']
    · rw [hbattery]
      exact (State.handleSample_of_moving (s := stored) hmoving x).trans (State.sampleMoving_of_other (s := stored) hno x)
    · intro old hstage t confirms
      have hparts := stored.batteryTestOf_parts l x
      have ht : t = stored.batteryTestOf l x := hbattery
      have hcontexts : t.contexts = s.contexts := by rw [ht, hparts]
      have hplan : t.plan = s.plan := by rw [ht, hparts]
      have hlinks : t.links = s.links := by rw [ht, hparts]
      have hprofiles : t.profiles = s.profiles := by rw [ht, hparts]
      have hfreqs : t.confirmFreqs k = (wanted, other) := by
        refine State.confirmFreqs_eq ?_
        rw [hcontexts, hplan]
        exact hstage
      have hconfirms : t.confirms l x = true ↔ confirms := by
        rw [State.confirms_iff, hlinks, hprofiles]
      have hconfirming : stored.contexts[k].confirming = true :=
        (Context.confirming_iff _).mpr (hstage.imp And.left fun h => ⟨h.1, h.2.1⟩)
      have hhandled : stored.handleSample l x = t.sampleConfirm l k x := by
        rw [ht]
        exact (State.handleSample_of_moving (s := stored) hmoving x).trans (State.sampleMoving_of_confirming (s := stored) hserves hconfirming x)
      refine ⟨fun hfreq hyes => hrow (hhandled.trans ?_), fun hfreq hno => hrow (hhandled.trans ?_), fun hfreq ho => hrow (hhandled.trans ?_),
        fun hfreq ho => ?_⟩
      · rw [State.sampleConfirm_of_wanted hfreqs hfreq, if_pos (hconfirms.mpr hyes), State.confirm, hcontexts] <;> rfl
      · rw [State.sampleConfirm_of_wanted hfreqs hfreq, if_neg (mt hconfirms.mp hno)]
      · exact State.sampleConfirm_of_other hfreqs hfreq ho
      · intro u
        refine hrow (hhandled.trans ((State.sampleConfirm_of_mistuned hfreqs hfreq ho).trans ?_))
        have hu : u.contexts = s.contexts := (t.raise_frame _ _ _).2.1.trans hcontexts
        show u.mistune k = _
        rw [State.mistune, State.endLost, hu]
  · intro after
    refine ⟨fun hn => ?_, fun hn hpos => ?_⟩
    · have hafter : after = { m with runSide := if n = 0 then m.runSide else side, run := n } :=
        Monitor.levelFilter_run m p side hside hrun hcount n hn
      rw [hafter]
      exact ⟨rfl, rfl⟩
    · have hafter : after = { m with side, runSide := side, run := 0 } := by
        subst hn
        exact Monitor.levelFilter_moves m p side hside hrun hcount hpos
      rw [hafter]
      exact ⟨rfl, rfl⟩
  · intro n
    refine ⟨fun hside => hside ▸ Monitor.levelFilter_of_same m p hpos, fun hside hn => ?_, fun hside hn => ?_⟩
    · exact (Monitor.levelFilter_of_other m p side hside).trans (if_neg (Nat.not_le.mpr hn))
    · exact (Monitor.levelFilter_of_other m p side hside).trans (if_pos hn)
  · refine ⟨rfl, rfl, fun hno => ?_, fun hlock hside => ?_⟩
    · exact if_neg fun ⟨hlock, hside⟩ => hno.elim (fun h => absurd (h.symm.trans hlock) nofun) hside
    · intro n poor
      have hrow : m.qualityFilter p x = if poor = m.poor then { m with qualityRun := 0 }
          else if p.qualityCount ≤ n then { m with poor := !m.poor, qualityRun := 0 } else { m with qualityRun := n } :=
        if_pos ⟨hlock, hside⟩
      refine ⟨fun h => hrow.trans (if_pos h), fun h hn => hrow.trans ((if_neg h).trans (if_neg (Nat.not_le.mpr hn))), fun h hn => ?_⟩
      have hpoor : poor = !m.poor := Bool.eq_not_of_ne h
      rw [hrow, if_neg h, if_pos hn, hpoor]
  · have hsilent : ({ s with due := s.due.erase (.telemetryTimeout l) } : State).silent l = true := by
      rw [State.silent, Bool.and_eq_true, Bool.or_eq_true, beq_iff_eq, beq_iff_eq]
      refine ⟨hstate, ?_⟩
      have hp : ({ s with due := s.due.erase (.telemetryTimeout l) } : State).links[l].profile = some p := hprofile
      rw [hp]
      exact decide_eq_true hsilence
    have hmoved := State.setLinkState_of_moved (st := .lost) (by decide) { s with due := s.due.erase (.telemetryTimeout l) } l
    refine congrArg Host.Outcome.next ((State.dueStep_of_mem hdue).trans ((if_pos hsilent).trans ?_))
    rw [hmoved] <;> rfl

end Sys2Proof.Machine
end

section

/-! ### The warm reset, block by block (R92, R119, R139, R195), and the statement of O59 -/

namespace Sys2Proof.Machine

/-! What a context's settlement leaves -/

/-- Carrier entries and links alone have changed, and no entry joined the retune queue. -/
structure State.EntriesMoved (t s : State) : Prop where
  parts : t = { s with plan := { s.plan with carriers := t.plan.carriers, gen := t.plan.gen }, links := t.links, retuneQueue := t.retuneQueue }
  empty : s.retuneQueue = [] → t.retuneQueue = []

theorem State.EntriesMoved.refl (s : State) : s.EntriesMoved s := ⟨rfl, id⟩

theorem State.EntriesMoved.trans {a b c : State} (h : a.EntriesMoved b) (k : b.EntriesMoved c) : a.EntriesMoved c := by
  refine ⟨h.parts.trans ?_, fun hq => h.empty (k.empty hq)⟩
  rw [k.parts]

theorem State.modLink_moved (s : State) (l : LinkId) (f : Link → Link) : (s.modLink l f).EntriesMoved s := ⟨rfl, id⟩

theorem State.retargetBackup_moved (s : State) (l : LinkId) : (s.retargetBackup l).EntriesMoved s := by
  refine ⟨rfl, fun hq => ?_⟩
  show s.retuneQueue.map _ = []
  rw [hq]
  rfl

theorem State.releaseEntry_moved (s : State) (e : EntryId) : (s.releaseEntry e).EntriesMoved s := by
  unfold State.releaseEntry
  dsimp only
  split
  · exact .refl s
  · split
    · exact ⟨rfl, id⟩
    · split
      · exact (State.retargetBackup_moved _ _).trans ⟨rfl, id⟩
      · exact ⟨rfl, id⟩

theorem State.releaseOpt_moved (s : State) (e : Option EntryId) : (s.releaseOpt e).EntriesMoved s := by
  cases e with
  | none => exact .refl s
  | some e => exact s.releaseEntry_moved e

theorem State.noteEntered_moved (s : State) (e : EntryId) (l : LinkId) (st : CarrierState) : (s.noteEntered e l st).EntriesMoved s := by
  unfold State.noteEntered
  split
  · exact s.modLink_moved l _
  · split
    · exact s.modLink_moved l _
    · exact s.releaseEntry_moved e
  all_goals exact .refl s

theorem State.changeOpt_moved (s : State) (e : Option EntryId) (st : CarrierState) : (s.changeOpt e st).EntriesMoved s := by
  cases e with
  | none => exact .refl s
  | some e =>
    show (s.changeEntry e st).EntriesMoved s
    unfold State.changeEntry
    dsimp only
    split
    · exact ⟨rfl, id⟩
    · exact (State.noteEntered_moved _ _ _ _).trans ⟨rfl, id⟩

theorem State.setLinkState_moved (s : State) (l : LinkId) (st : LinkState) : (s.setLinkState l st).EntriesMoved s := by
  unfold State.setLinkState
  dsimp only
  split
  · exact (State.releaseOpt_moved _ _).trans (s.modLink_moved l _)
  · exact s.modLink_moved l _

theorem State.warmSettle_moved (s : State) (k : ContextId) : (s.warmSettle k).EntriesMoved s := by
  have hset {t : State} (ht : t.EntriesMoved s) (l : LinkId) (st : LinkState) : (t.setLinkState l st).EntriesMoved s :=
    (t.setLinkState_moved l st).trans ht
  have hearly : (if s.contexts[k].target = .backup then s.changeOpt s.contexts[k].newEntry .standby
      else s.releaseOpt s.contexts[k].newEntry).EntriesMoved s := by
    split
    · exact s.changeOpt_moved _ _
    · exact s.releaseOpt_moved _
  unfold State.warmSettle
  dsimp only
  split
  · exact .refl s
  · exact .refl s
  · exact hset (.refl s) _ _
  · exact hset hearly _ _
  · split
    · exact hset (s.releaseOpt_moved _) _ _
    · exact hset hearly _ _
  · exact hset (s.releaseOpt_moved _) _ _
  · split
    · exact hset (.refl s) _ _
    · exact hset (s.releaseOpt_moved _) _ _

/-- The settlement of some contexts in order. -/
def State.warmSettled (s : State) (ks : List ContextId) : State := ks.foldl State.warmSettle s

theorem State.warmSettled_moved (s : State) (ks : List ContextId) : (s.warmSettled ks).EntriesMoved s := by
  induction ks generalizing s with
  | nil => exact .refl s
  | cons k ks ih => exact (ih (s.warmSettle k)).trans (s.warmSettle_moved k)

theorem State.warmSettled_of_free {s : State} (h : ∀ k : ContextId, s.contexts[k].stage = .free) (ks : List ContextId) : s.warmSettled ks = s := by
  induction ks with
  | nil => rfl
  | cons k ks ih =>
    have hk : s.warmSettle k = s := by
      unfold State.warmSettle
      dsimp only
      rw [h k]
    rw [State.warmSettled, List.foldl_cons, hk]
    exact ih

/-! The warm reset as a whole -/

/-- The links with each FADED one UP. -/
def unfaded (links : Vector Link 80) : Vector Link 80 := mapTable links fun _ r => if r.state = .faded then { r with state := .up } else r

/-- The monitors with those of the links in UP monitorsRestarted. -/
def monitorsRestarted (links : Vector Link 80) (monitors : Vector Monitor 80) : Vector Monitor 80 :=
  mapTable monitors fun l m => if links[l].state = .up then m.restart else m

theorem State.warmLinks_eq (s : State) :
    s.warmLinks = { s with links := unfaded s.links, monitors := monitorsRestarted (unfaded s.links) s.monitors } := rfl

/-- A warm reset, with every block named. -/
theorem State.warmReset_eq (s : State) {u : State} (hu : s.warmDrop.warmSettled (List.finRange 4) = u) : s.warmReset =
    { u with
      contexts := Vector.replicate 4 {}, links := unfaded u.links, monitors := monitorsRestarted (unfaded u.links) u.monitors
      scan := u.scan.warm, tally := u.tally.warm, mixer := u.mixer.warm, dport := {}, uport := {}
      agent := { u.agent with requests := [], ready := [], flags := {}, quiesce := .running } } := by
  have hfold : (List.finRange 4).foldl State.warmSettle s.warmDrop = u := hu
  have hcontexts : s.warmDrop.warmContexts = { u with contexts := Vector.replicate 4 {} } := by rw [State.warmContexts, hfold]
  rw [State.warmReset, hcontexts, State.warmLinks_eq]
  rfl

end Sys2Proof.Machine
end

section

namespace Sys2Proof.Machine

/-! The settlement of a context, as the statement spells it (R119) -/

section
variable (v : State) (k : ContextId)

theorem State.warmSettle_of_stage {stage : Stage} : v.contexts[k].stage = stage → v.warmSettle k = match stage with
    | .free => v
    | .closing => v
    | .coordinate => v.setLinkState v.contexts[k].link v.contexts[k].prior
    | .prepare => (if v.contexts[k].target = Target.backup then v.changeOpt v.contexts[k].newEntry .standby
        else v.releaseOpt v.contexts[k].newEntry).setLinkState v.contexts[k].link v.contexts[k].prior
    | .switch =>
      if v.contexts[k].committed then
        (v.releaseOpt v.contexts[k].newEntry).setLinkState v.contexts[k].link (if v.contexts[k].oldEntry = none then .idle else .lost)
      else (if v.contexts[k].target = Target.backup then v.changeOpt v.contexts[k].newEntry .standby
        else v.releaseOpt v.contexts[k].newEntry).setLinkState v.contexts[k].link v.contexts[k].prior
    | .confirm => (v.releaseOpt v.contexts[k].oldEntry).setLinkState v.contexts[k].link .lost
    | .revert => (if v.contexts[k].reverted then v else v.releaseOpt v.contexts[k].oldEntry).setLinkState v.contexts[k].link .lost := by
  intro h
  rw [← h] <;> rfl

end

theorem State.setLinkState_spelled (u : State) (l : LinkId) (st : LinkState) :
    (if st = .idle then (u.modLink l fun r => { r with state := .idle }).releaseOpt u.links[l].standby
      else u.modLink l fun r => { r with state := st }) = u.setLinkState l st := by
  by_cases h : st = .idle
  · rw [if_pos h, h, State.setLinkState_idle]
  · rw [if_neg h, State.setLinkState_of_moved h]

/-! Reset rows -/

theorem exec_coldReset {s : State} {r : Request} (h : s.Takes r) (hcode : hasCode 0x5B r = true) : exec .coldReset s = .next s.coldResetDone := by
  have htaken := State.take_of_takes h (hasCode 0x5B) State.coldResetRequest hcode
  refine congrArg Host.Outcome.next (htaken ?_)
  show commonlyJudged s.coldResetDone.agent.requests = []
  rw [State.coldResetDone]
  split <;> rfl

theorem exec_warmReset {s : State} {r : Request} (h : s.Takes r) (hcode : hasCode 0x5A r = true) {u : State}
    (hu : s.warmDrop.warmSettled (List.finRange 4) = u) : exec .warmReset s = .next { u with
      contexts := Vector.replicate 4 {}, links := unfaded u.links, monitors := monitorsRestarted (unfaded u.links) u.monitors
      scan := u.scan.warm, tally := u.tally.warm, mixer := u.mixer.warm, dport := {}
      uport := { reply := [ownCell 9 r.src [r.tag, r.code, 0]] }
      agent := { u.agent with requests := [], ready := [], flags := {}, quiesce := .running } } := by
  have htaken := State.take_of_takes h (hasCode 0x5A) State.warmResetRequest hcode
  have hreset := s.warmReset_eq hu
  have hrequest : s.warmResetRequest r = { u with
      contexts := Vector.replicate 4 {}, links := unfaded u.links, monitors := monitorsRestarted (unfaded u.links) u.monitors
      scan := u.scan.warm, tally := u.tally.warm, mixer := u.mixer.warm, dport := {}
      uport := { reply := [ownCell 9 r.src [r.tag, r.code, 0]] }
      agent := { u.agent with requests := [], ready := [], flags := {}, quiesce := .running } } := by
    rw [State.warmResetRequest, hreset] <;> rfl
  rw [hrequest] at htaken
  exact congrArg Host.Outcome.next (htaken rfl)

/-- Settles O59. -/
theorem quiesceAndResets : Obligations.QuiesceAndResets := by
  intro s r h state drained
  have hdrained : s.drained = true ↔ drained := s.drained_iff
  refine ⟨fun hcode hq hd => ?_, fun hcode hq hd => ?_, fun hcode hq => ?_, fun hcode hq => ?_, fun hcode hq => ?_, fun hcode hreset => ?_,
    fun hcode hreset => ?_, fun hcode => ?_, fun v k => ?_⟩
  · have hrun : s.quiesceRequest r = ((state .quiesced).raise .quiesced 0 []).answer r .ok [] := by
      refine (if_pos hq).trans ?_
      have hdrain : (s.setQuiesce .quiescing).testDrain = (state .quiesced).raise .quiesced 0 [] := if_pos ⟨rfl, hdrained.mpr hd⟩
      rw [hdrain]
    refine exec_answer (f := State.quiesceRequest) h rfl (hasCode_of_args r 0x58 0 hcode (by decide) rfl (Nat.zero_le _)) hrun ?_
    rw [State.raise_eq]
  · have hrun : s.quiesceRequest r = (state .quiescing).answer r .ok [] := by
      refine (if_pos hq).trans ?_
      have hdrain : (s.setQuiesce .quiescing).testDrain = state .quiescing := if_neg fun hh => hd (hdrained.mp hh.2)
      rw [hdrain]
    exact exec_answer (f := State.quiesceRequest) h rfl (hasCode_of_args r 0x58 0 hcode (by decide) rfl (Nat.zero_le _)) hrun rfl
  · exact exec_answer (f := State.quiesceRequest) h rfl (hasCode_of_args r 0x58 0 hcode (by decide) rfl (Nat.zero_le _)) (if_neg hq) rfl
  · exact exec_answer (f := State.resume) h rfl (hasCode_of_args r 0x59 0 hcode (by decide) rfl (Nat.zero_le _)) (if_neg hq) rfl
  · exact exec_answer (f := State.resume) h rfl (hasCode_of_args r 0x59 0 hcode (by decide) rfl (Nat.zero_le _)) (if_pos hq) rfl
  · refine (exec_coldReset h (hasCode_of_args r 0x5B 0 hcode (by decide) rfl (Nat.zero_le _))).trans (congrArg _ ?_)
    exact if_neg (Bool.eq_false_iff.mp hreset)
  · refine (exec_coldReset h (hasCode_of_args r 0x5B 0 hcode (by decide) rfl (Nat.zero_le _))).trans (congrArg _ ?_)
    exact if_pos hreset
  · obtain ⟨u, hu⟩ : ∃ u, s.warmDrop.warmSettled (List.finRange 4) = u := ⟨_, rfl⟩
    have hmoved : u.EntriesMoved s.warmDrop := hu ▸ s.warmDrop.warmSettled_moved (List.finRange 4)
    have hparts := hmoved.parts
    have hqueue := hmoved.empty rfl
    refine ⟨_, exec_warmReset h (hasCode_of_args r 0x5A 0 hcode (by decide) rfl (Nat.zero_le _)) hu, rfl, rfl, ?_⟩
    have hagent : u.agent = s.agent := by rw [hparts] <;> rfl
    have hengine : u.engine = {} := by rw [hparts] <;> rfl
    have hunit : u.unit = { s.unit with slots := Vector.replicate 16 {}, waiting := [] } := by rw [hparts] <;> rfl
    have htiming : u.timing = s.timing := by rw [hparts] <;> rfl
    have hlead : u.switchLead = s.switchLead := by rw [hparts] <;> rfl
    have hwindow : u.confirmWindow = s.confirmWindow := by rw [hparts] <;> rfl
    have hprofiles : u.profiles = s.profiles := by rw [hparts] <;> rfl
    have hbands : u.plan.bands = s.plan.bands := by rw [hparts] <;> rfl
    have hsettings : u.plan.settings = s.plan.settings := by rw [hparts] <;> rfl
    have hsamples : u.samples = s.samples := by rw [hparts] <;> rfl
    have hscan : u.scan = s.scan := by rw [hparts] <;> rfl
    have htally : u.tally = s.tally := by rw [hparts] <;> rfl
    have hmixer : u.mixer = s.mixer := by rw [hparts] <;> rfl
    have hpins : u.pins = s.pins := by rw [hparts] <;> rfl
    have hblock : u.blockTimerRuns = s.blockTimerRuns := by rw [hparts] <;> rfl
    have hmonitors : u.monitors = s.monitors := by rw [hparts] <;> rfl
    have hlink (l : LinkId) : (unfaded u.links)[l] = if u.links[l].state = .faded then { u.links[l] with state := .up } else u.links[l] :=
      mapTable_get u.links _ l.val l.isLt
    dsimp only
    rw [hagent, hunit, hscan, htally, hmixer, Tally.warm, Mixer.warm, Scan.warm]
    dsimp only
    refine ⟨rfl, hengine, hqueue, rfl, rfl, rfl, fun i => Vector.getElem_replicate i.isLt, fun k => Vector.getElem_replicate k.isLt, htiming,
      hlead, hwindow, hprofiles, hbands, hsettings, hsamples, rfl, rfl, rfl, rfl, rfl, rfl, rfl, rfl, rfl, rfl, rfl, rfl, hpins, hblock,
      fun i => mapTable_get s.mixer.inputs _ i.val i.isLt, fun o => mapTable_get s.mixer.outputs _ o.val o.isLt, fun hfree => ?_,
      ⟨u, hu.symm, rfl, fun l => ⟨hlink l, ?_⟩⟩, fun l => mapTable_get s.tally.cameras _ l.val l.isLt⟩
    · have hsame : u = s.warmDrop := hu.symm.trans (State.warmSettled_of_free (s := s.warmDrop) hfree (List.finRange 4))
      refine ⟨congrArg State.plan (a₂ := s.warmDrop) hsame, fun l => (hlink l).trans ?_⟩
      rw [hsame] <;> rfl
    · rw [hmonitors]
      exact mapTable_get s.monitors _ l.val l.isLt
  · intro c enters back
    have hback (w : State) : w.setLinkState c.link c.prior = back w := (w.setLinkState_spelled c.link c.prior).symm
    have henters (w : State) (st : LinkState) (hst : st ≠ .idle) : w.setLinkState c.link st = enters w st := State.setLinkState_of_moved hst w c.link
    refine ⟨fun hstage => ?_, fun hstage => ?_, fun hstage => ?_, fun hstage hc hold => ?_, fun hstage hc hold => ?_, fun hstage => ?_,
      fun hstage hrev => ?_, fun hstage hrev => ?_⟩
    · rcases hstage with hstage | hstage <;> exact v.warmSettle_of_stage k hstage
    · rw [v.warmSettle_of_stage k hstage, ← hback]
    · rw [← hback]
      rcases hstage with hstage | ⟨hstage, hc⟩
      · exact v.warmSettle_of_stage k hstage
      · exact (v.warmSettle_of_stage k hstage).trans (if_neg (Bool.eq_false_iff.mp hc))
    · rw [← henters _ .lost (by decide)]
      refine (v.warmSettle_of_stage k hstage).trans ((if_pos hc).trans ?_)
      rw [if_neg hold]
    · intro u
      refine (v.warmSettle_of_stage k hstage).trans ((if_pos hc).trans ?_)
      rw [if_pos hold]
      exact State.setLinkState_idle _ _
    · rw [← henters _ .lost (by decide)]
      exact v.warmSettle_of_stage k hstage
    · rw [← henters _ .lost (by decide)]
      refine (v.warmSettle_of_stage k hstage).trans ?_
      dsimp only
      rw [if_neg (Bool.eq_false_iff.mp hrev)]
    · rw [← henters _ .lost (by decide)]
      refine (v.warmSettle_of_stage k hstage).trans ?_
      dsimp only
      rw [if_pos hrev]

end Sys2Proof.Machine
end

section

/-! ### Locked pairs at the D-port (R13 to R15, R116), and the statement of O18 -/

namespace Sys2Proof.Machine

/-! What a retune given back leaves of the D-port -/

/-- A retune given back closes its context in a state with the unit channel, the D-port and the contexts as they were. -/
theorem State.giveBack_closes (s : State) (k : ContextId) :
    ∃ u : State, s.giveBack k = u.closeEarly k ∧ u.unit = s.unit ∧ u.dport = s.dport ∧ u.contexts = s.contexts := by
  obtain ⟨stage, hstage⟩ : ∃ stage, s.contexts[k].stage.named = stage := ⟨_, rfl⟩
  obtain ⟨t, ht⟩ : ∃ t, s.settleEarly k .returned stage = t := ⟨_, rfl⟩
  have hparts : t.unit = s.unit ∧ t.dport = s.dport ∧ t.contexts = s.contexts := by
    rw [← ht, State.settleEarly_parts]
    exact ⟨rfl, rfl, rfl⟩
  by_cases hq : t.queued s.contexts[k].link = true
  · exact ⟨t, State.giveBack_of_merged hstage ht hq, hparts⟩
  · by_cases hroom : t.retuneQueue.length < 16
    · refine ⟨_, State.giveBack_of_returned hstage ht hq hroom, ?_⟩
      rw [State.raise_eq]
      exact hparts
    · refine ⟨_, State.giveBack_of_dropped hstage ht hq (Nat.not_lt.mp hroom), ?_⟩
      rw [State.raise_eq]
      exact hparts

theorem State.testDrain_dport (s : State) : s.testDrain.dport = s.dport ∧ s.testDrain.contexts = s.contexts := by
  unfold State.testDrain
  split
  · rw [State.raise_eq]
    exact ⟨rfl, rfl⟩
  · exact ⟨rfl, rfl⟩

/-- The closing before the commit withdraws cells of the context's slots, and leaves the context CLOSING or FREE. -/
theorem State.closeEarly_dport (s : State) (k : ContextId) :
    (s.closeEarly k).dport = { s.dport with
      urgent := s.dport.urgent.filter fun q => !(s.setContext k s.contexts[k].closed).leaving k q.slot
      command := s.dport.command.filter fun q => !(s.setContext k s.contexts[k].closed).leaving k q.slot }
    ∧ ((s.closeEarly k).contexts[k].stage = .closing ∨ (s.closeEarly k).contexts[k].stage = .free) := by
  have hcancelled : (s.cancelled k).dport = { s.dport with
      urgent := s.dport.urgent.filter fun q => !(s.setContext k s.contexts[k].closed).leaving k q.slot
      command := s.dport.command.filter fun q => !(s.setContext k s.contexts[k].closed).leaving k q.slot } := by
    rw [State.cancelled, State.askCancelOf_parts, State.askCancelOf_parts, State.closingEarly, State.withdrawContext_spelled]
    rfl
  rw [State.closeEarly_eq, ← hcancelled, State.freeIfDone]
  split
  · obtain ⟨hdport, hcontexts⟩ := ((s.cancelled k).setContext k {}).testDrain_dport
    refine ⟨hdport, .inr ?_⟩
    exact (congrArg (fun v : Vector Context 4 => v[k].stage) hcontexts).trans (congrArg Context.stage (put_eq _ _ _))
  · refine ⟨rfl, .inl ?_⟩
    rw [State.cancelled_context]
    rfl

/-- A retune given back takes cells out of the two queues of commands, and leaves its context CLOSING or FREE. -/
theorem State.giveBack_dport (s : State) (k : ContextId) :
    (s.giveBack k).dport = { s.dport with
      urgent := s.dport.urgent.filter fun q => !s.leaving k q.slot
      command := s.dport.command.filter fun q => !s.leaving k q.slot }
    ∧ ((s.giveBack k).contexts[k].stage = .closing ∨ (s.giveBack k).contexts[k].stage = .free) := by
  obtain ⟨u, hgive, hunit, hdport, -⟩ := s.giveBack_closes k
  have hleaving (i : SlotId) : (u.setContext k u.contexts[k].closed).leaving k i = s.leaving k i := by
    have hunit' : (u.setContext k u.contexts[k].closed).unit = s.unit := hunit
    have hdport' : (u.setContext k u.contexts[k].closed).dport = s.dport := hdport
    simp only [State.leaving, State.withdrawable, State.inTransmission, State.inCommittedPair, hunit', hdport']
  have hclosed := u.closeEarly_dport k
  simp only [hleaving, hdport] at hclosed
  rw [hgive]
  exact hclosed

/-! The arbiter's choice among uncommitted pairs (R14) -/

section
variable {s : State} {k : ContextId} {q : UnitCell} {rest : List UnitCell} (hslot : s.dport.frameSlot = none)
  (hurgent : s.dport.urgent = q :: rest) (hk : q.context = some k) (hno : q.committed = false)
include hslot hurgent hk hno

theorem State.chooseD_of_allowed (h : s.commitAllowed k q = true) (n : Nat) : State.chooseD (n + 1) s = s.commitPair k := by
  rw [State.chooseD, hslot, hurgent]
  simp only [hk, hno, h, if_true, Bool.false_eq_true, if_false]

theorem State.chooseD_of_refused (h : ¬ s.commitAllowed k q = true) (n : Nat) :
    State.chooseD (n + 1) s = State.chooseD n (s.liveChange k) := by
  rw [State.chooseD, hslot, hurgent]
  simp only [hk, hno, h, Bool.false_eq_true, if_false]

/-- Where a refusal gives nothing back, the choice is the same whatever the fuel. -/
theorem State.chooseD_of_stuck (h : s.liveChange k = s) (n m : Nat) : State.chooseD (n + 1) s = State.chooseD (m + 1) s := by
  by_cases hallowed : s.commitAllowed k q = true
  · rw [State.chooseD_of_allowed hslot hurgent hk hno hallowed, State.chooseD_of_allowed hslot hurgent hk hno hallowed]
  · have hsame (n : Nat) : State.chooseD n s = s := by
      induction n with
      | zero => rfl
      | succ n ih => rw [State.chooseD_of_refused hslot hurgent hk hno hallowed, h, ih]
    rw [hsame, hsame]

end

/-- A live change leaves the state, or fewer urgent cells, or the urgent queue with a context that a second one does not reach. -/
theorem State.liveChange_urgent (s : State) (k : ContextId) : s.liveChange k = s
    ∨ (s.liveChange k).dport.urgent.length < s.dport.urgent.length
    ∨ (s.liveChange k).dport.urgent = s.dport.urgent ∧ (s.liveChange k).liveChange k = s.liveChange k := by
  have hgive : s.liveChange k = s ∨ s.liveChange k = s.giveBack k := by
    unfold State.liveChange
    dsimp only
    split
    · exact .inr rfl
    · exact .inr rfl
    · split
      · exact .inl rfl
      · exact .inr rfl
    all_goals exact .inl rfl
  refine hgive.imp_right fun h => ?_
  obtain ⟨hdport, hstage⟩ := s.giveBack_dport k
  have hurgent : (s.giveBack k).dport.urgent = s.dport.urgent.filter fun q => !s.leaving k q.slot := congrArg DPort.urgent hdport
  have hsublist : (s.giveBack k).dport.urgent.Sublist s.dport.urgent := by
    rw [hurgent]
    exact List.filter_sublist
  rw [h]
  rcases Nat.lt_or_ge (s.giveBack k).dport.urgent.length s.dport.urgent.length with hlt | hge
  · exact .inl hlt
  · refine .inr ⟨hsublist.eq_of_length_le hge, State.liveChange_of_late ?_⟩
    exact hstage.elim (fun hc => .inr (.inr (.inr (.inl hc)))) .inl

/-- An uncommitted pair at the head of the urgent queue. -/
theorem DPort.pair_of_not_noPair {d : DPort} (h : ¬ d.noPair) :
    ∃ (q : UnitCell) (rest : List UnitCell) (k : ContextId), d.urgent = q :: rest ∧ q.context = some k ∧ q.committed = false := by
  cases hu : d.urgent with
  | nil =>
    refine absurd (fun q hq => ?_) h
    rw [hu] at hq
    cases hq
  | cons q rest =>
    have hq : ¬ (q.context = none ∨ q.committed = true) := fun hh => h fun x hx => by
      rw [hu] at hx
      cases hx
      exact hh
    obtain ⟨hcontext, hcommitted⟩ := not_or.mp hq
    obtain ⟨k, hk⟩ := Option.ne_none_iff_exists'.mp hcontext
    exact ⟨q, rest, k, rfl, hk, Bool.eq_false_iff.mpr hcommitted⟩

/-- As much fuel as there are urgent cells is enough for the arbiter. -/
theorem State.chooseD_fuel {s : State} {n m : Nat} (hn : s.dport.urgent.length ≤ n) (hm : s.dport.urgent.length ≤ m) :
    State.chooseD (n + 1) s = State.chooseD (m + 1) s := by
  induction hlen : s.dport.urgent.length using Nat.strong_induction_on generalizing s n m with
  | _ len ih =>
    cases hslot : s.dport.frameSlot with
    | some c => rw [State.chooseD_of_frame hslot, State.chooseD_of_frame hslot]
    | none =>
      by_cases hpair : s.dport.noPair
      · rw [State.chooseD_of_noPair hpair, State.chooseD_of_noPair hpair]
      · obtain ⟨q, rest, k, hurgent, hk, hno⟩ := DPort.pair_of_not_noPair hpair
        by_cases hallowed : s.commitAllowed k q = true
        · rw [State.chooseD_of_allowed hslot hurgent hk hno hallowed, State.chooseD_of_allowed hslot hurgent hk hno hallowed]
        · have hsome : s.dport.urgent.length = rest.length + 1 := by rw [hurgent, List.length_cons]
          obtain ⟨n', rfl⟩ : ∃ n', n = n' + 1 := ⟨n - 1, by omega⟩
          obtain ⟨m', rfl⟩ : ∃ m', m = m' + 1 := ⟨m - 1, by omega⟩
          rcases s.liveChange_urgent k with hsame | hshort | ⟨hurgent', hstuck⟩
          · exact State.chooseD_of_stuck hslot hurgent hk hno hsame _ _
          · rw [State.chooseD_of_refused hslot hurgent hk hno hallowed, State.chooseD_of_refused hslot hurgent hk hno hallowed]
            exact ih _ (hlen ▸ hshort) (by omega) (by omega) rfl
          · rw [State.chooseD_of_refused hslot hurgent hk hno hallowed, State.chooseD_of_refused hslot hurgent hk hno hallowed]
            exact State.chooseD_of_stuck ((State.liveChange_shell s k).2.1.trans hslot) (hurgent'.trans hurgent) hk hno hstuck _ _

/-- After a refusal the arbiter chooses again, as from the state that the refusal leaves. -/
theorem State.chooseD_again {s : State} {k : ContextId} {q : UnitCell} {rest : List UnitCell} (hslot : s.dport.frameSlot = none)
    (hurgent : s.dport.urgent = q :: rest) (hk : q.context = some k) (hno : q.committed = false) (hrefused : ¬ s.commitAllowed k q = true) :
    State.chooseD (s.dport.urgent.length + 1) s = State.chooseD ((s.liveChange k).dport.urgent.length + 1) (s.liveChange k) := by
  have hsome : s.dport.urgent.length = rest.length + 1 := by rw [hurgent, List.length_cons]
  rcases s.liveChange_urgent k with hsame | hshort | ⟨hurgent', hstuck⟩
  · rw [hsame]
  · rw [State.chooseD_of_refused hslot hurgent hk hno hrefused, hsome]
    exact State.chooseD_fuel (by omega) le_rfl
  · rw [State.chooseD_of_refused hslot hurgent hk hno hrefused, hsome]
    exact State.chooseD_of_stuck ((State.liveChange_shell s k).2.1.trans hslot) (hurgent'.trans hurgent) hk hno hstuck _ _

theorem State.exempt_iff (s : State) (k : ContextId) : s.exempt k = true ↔ s.contexts[k].force = true
    ∨ s.contexts[k].reason = .fade ∧ s.links[s.contexts[k].link].flags.switchWhenLive = true := by
  simp [State.exempt]

/-- Settles O18. -/
theorem lockedPairCommits : Obligations.LockedPairCommits := by
  refine ⟨fun s k q rest hdue hreset hbackoff hline hslot hurgent hk hno hallowed => ?_,
    fun s k q rest hdue hreset hbackoff hline hslot hurgent hk hno hswitch hlive hexempt hstage huncommitted => ?_, State.exempt_iff⟩
  · have hcommit : s.commitAllowed k q = true := by
      simp only [State.commitAllowed, Bool.or_eq_true, bne_iff_ne, Bool.not_eq_true', or_assoc]
      exact hallowed
    rw [exec_transmitStart_d hdue, State.startD_of_idle hreset hbackoff hline, State.chooseD_of_allowed hslot hurgent hk hno hcommit,
      State.commitPair]
    simp only [Bool.not_eq_true]
    rfl
  · intro t ofPair
    have hrefused : ¬ s.commitAllowed k q = true := by
      have hcode : (byteAt (cellData q.cell) 0 != cmdSwitch) = false := bne_eq_false_iff_eq.mpr hswitch
      rw [State.commitAllowed, hcode, hlive, hexempt]
      decide
    have hgive : s.liveChange k = t := State.liveChange_of_early (stage := .switch) (.inr (.inr ⟨hstage, huncommitted, rfl⟩))
    obtain ⟨⟨-, hpins, -, hdue', -⟩, hslot', hline'⟩ := State.liveChange_shell s k
    rw [hgive] at hpins hdue' hslot' hline'
    have hagain : exec (.transmitStart .d) s = exec (.transmitStart .d) t := by
      have hreset' : t.pins.reset = false := by rw [hpins]; exact hreset
      have hbackoff' : t.pins.backoff = false := by rw [hpins]; exact hbackoff
      rw [exec_transmitStart_d hdue, exec_transmitStart_d (hdue'.trans hdue), State.startD_of_idle hreset hbackoff hline,
        State.startD_of_idle hreset' hbackoff' (hline'.trans hline), State.chooseD_again hslot hurgent hk hno hrefused, hgive]
    refine ⟨hagain, fun hpair => ?_, fun hall => ?_⟩
    · have hreset' : t.pins.reset = false := by rw [hpins]; exact hreset
      have hbackoff' : t.pins.backoff = false := by rw [hpins]; exact hbackoff
      rw [hagain, exec_transmitStart_d (hdue'.trans hdue), State.startD_of_idle hreset' hbackoff' (hline'.trans hline),
        State.chooseD_of_noPair hpair]
    · obtain ⟨hdport, hclosed⟩ := s.giveBack_dport k
      have hleaving (i : SlotId) : s.leaving k i = s.unit.slots[i].ownedBy k := by
        rw [Bool.eq_iff_iff, State.leaving, Bool.and_eq_true]
        refine ⟨And.left, fun howned => ⟨howned, ?_⟩⟩
        obtain ⟨hqueued, hbegun, huncommitted⟩ := hall i howned
        have hfree : s.inTransmission i = false := by
          rw [Bool.eq_false_iff, Ne, State.inTransmission_iff, hline]
          rintro (⟨h, -⟩ | ⟨h, -⟩) <;> cases h
        have hpair : s.inCommittedPair i = false := by
          rw [Bool.eq_false_iff, Ne, State.inCommittedPair_iff]
          rintro ⟨x, hx, hi, hc⟩
          exact absurd ((huncommitted x hx hi).symm.trans hc) nofun
        rw [State.withdrawable, hqueued, hbegun, hfree, hpair]
        decide
      simp only [hleaving] at hdport
      exact ⟨hdport, hclosed⟩

end Sys2Proof.Machine
end

section

/-! ### The law of the queues, part by part (01 section 1.5, R45, R90, R146, R186, R192) -/

namespace Sys2Proof.Machine

/-- The retune queue holds at most 16 entries, and no link twice. -/
def RetuneFits (q : List QueueEntry) : Prop := q.length ≤ 16 ∧ (q.map (·.link)).Nodup

/-- A coordination request of another filer than the contexts. -/
def CoordRequest.ofOther (q : CoordRequest) : Bool := match q.filer with
  | .context _ => false
  | .management _ | .auto => true

/-- The context that filed a coordination request. -/
def CoordRequest.context? (q : CoordRequest) : Option ContextId := match q.filer with
  | .context k => some k
  | .management _ | .auto => none

/-- A context waits for its coordination request. -/
def Context.awaits (c : Context) : Prop := c.stage ≠ .free ∧ c.coordinating = true

/-- The coordination queue's law over the contexts' table. -/
structure CoordFits (queue : List CoordRequest) (contexts : Vector Context 4) : Prop where
  total : queue.length ≤ 8
  others : (queue.filter CoordRequest.ofOther).length ≤ 4
  once : (queue.filterMap CoordRequest.context?).Nodup
  awaited : ∀ q ∈ queue, ∀ k : ContextId, q.filer = .context k → contexts[k].awaits

/-- The foreign list holds at most 32 entries, in ascending frequency. -/
def ForeignFits (xs : List Foreign) : Prop := xs.length ≤ 32 ∧ (xs.map (·.freq)).Pairwise (· ≤ ·)

/-- Slots 12 to 15 are owned by tally alone. -/
def SlotsFit (slots : Vector Slot 16) : Prop :=
  ∀ i : SlotId, 12 ≤ i.val → slots[i].owner = none ∨ ∃ l, slots[i].owner = some (.tally l)

def UPort.Fits (u : UPort) : Prop := u.reply.length ≤ 8 ∧ u.report.length ≤ 32 ∧ u.audio.length ≤ 16 ∧ u.forward.length ≤ 16

def DPort.Fits (d : DPort) : Prop := d.urgent.length ≤ 8 ∧ d.command.length ≤ 16 ∧ d.audio.length ≤ 16 ∧ d.forward.length ≤ 16

def Agent.Fits (a : Agent) : Prop := a.requests.length ≤ 4 ∧ (a.ready.filter fun q => q.id.isNone).length ≤ 1

/-- The law of the queues, by the part of the state that each clause reads. -/
structure State.Lawful (s : State) : Prop where
  uport : s.uport.Fits
  dport : s.dport.Fits
  agent : s.agent.Fits
  retune : RetuneFits s.retuneQueue
  coord : CoordFits s.engine.queue s.contexts
  foreign : ForeignFits s.scan.foreign
  slots : SlotsFit s.unit.slots

theorem State.lawful_iff (s : State) : s.Lawful ↔ s.QueueLaw := by
  constructor
  · rintro ⟨⟨h1, h2, h3, h4⟩, ⟨h5, h6, h7, h8⟩, ⟨h9, h10⟩, hretune, ⟨htotal, hothers, honce, hawaited⟩, hforeign, hslots⟩
    exact ⟨⟨h1, h2, h3, h4, h5, h6, h7, h8, h9, h10⟩, hretune, ⟨htotal, hothers, honce, hawaited⟩, hforeign, hslots⟩
  · rintro ⟨⟨h1, h2, h3, h4, h5, h6, h7, h8, h9, h10⟩, hretune, ⟨htotal, hothers, honce, hawaited⟩, hforeign, hslots⟩
    exact ⟨⟨h1, h2, h3, h4⟩, ⟨h5, h6, h7, h8⟩, ⟨h9, h10⟩, hretune, ⟨htotal, hothers, honce, hawaited⟩, hforeign, hslots⟩

/-- A state with the parts of a lawful one that the law reads is lawful. -/
theorem State.Lawful.same {s t : State} (h : s.Lawful) (huport : t.uport = s.uport) (hdport : t.dport = s.dport) (hagent : t.agent = s.agent)
    (hretune : t.retuneQueue = s.retuneQueue) (hqueue : t.engine.queue = s.engine.queue) (hcontexts : t.contexts = s.contexts)
    (hforeign : t.scan.foreign = s.scan.foreign) (hslots : t.unit.slots = s.unit.slots) : t.Lawful := by
  refine ⟨?_, ?_, ?_, ?_, ?_, ?_, ?_⟩
  · rw [huport]; exact h.uport
  · rw [hdport]; exact h.dport
  · rw [hagent]; exact h.agent
  · rw [hretune]; exact h.retune
  · rw [hqueue, hcontexts]; exact h.coord
  · rw [hforeign]; exact h.foreign
  · rw [hslots]; exact h.slots

/-! The parts of the law under the changes that operations make to them -/

theorem RetuneFits.map {q : List QueueEntry} (h : RetuneFits q) {f : QueueEntry → QueueEntry} (hf : ∀ e, (f e).link = e.link) :
    RetuneFits (q.map f) := by
  obtain ⟨hlen, hnodup⟩ := h
  refine ⟨(List.length_map f).trans_le hlen, ?_⟩
  rw [List.map_map]
  have hsame : (fun e : QueueEntry => e.link) ∘ f = fun e => e.link := funext hf
  rw [hsame]
  exact hnodup

theorem RetuneFits.sublist {q p : List QueueEntry} (h : RetuneFits q) (hp : p.Sublist q) : RetuneFits p :=
  ⟨hp.length_le.trans h.1, h.2.sublist (hp.map _)⟩

theorem RetuneFits.set {q : List QueueEntry} (h : RetuneFits q) {n : Nat} {e : QueueEntry} (he : ∀ x ∈ q[n]?, x.link = e.link) :
    RetuneFits (q.set n e) := by
  obtain ⟨hlen, hnodup⟩ := h
  refine ⟨List.length_set.trans_le hlen, ?_⟩
  rw [List.map_set]
  rcases Nat.lt_or_ge n q.length with hn | hn
  · have hsame : (q.map (·.link))[n]'(by rw [List.length_map]; exact hn) = e.link := by
      rw [List.getElem_map]
      exact he q[n] (List.getElem?_eq_getElem hn)
    rw [← hsame, List.set_getElem_self]
    exact hnodup
  · rw [List.set_eq_of_length_le (by rw [List.length_map]; exact hn)]
    exact hnodup

theorem RetuneFits.append {q : List QueueEntry} (h : RetuneFits q) {e : QueueEntry} (hroom : q.length < 16)
    (he : ∀ x ∈ q, x.link ≠ e.link) : RetuneFits (q ++ [e]) := by
  obtain ⟨-, hnodup⟩ := h
  refine ⟨?_, ?_⟩
  · rw [List.length_append]
    exact hroom
  · rw [List.map_append]
    refine hnodup.append (List.nodup_singleton _) (List.disjoint_singleton.mpr fun hmem => ?_)
    obtain ⟨x, hx, hlink⟩ := List.mem_map.mp hmem
    exact he x hx hlink

theorem ForeignFits.of_freqs {xs ys : List Foreign} (h : ForeignFits xs) (hf : (ys.map (·.freq)).Sublist (xs.map (·.freq))) : ForeignFits ys := by
  refine ⟨?_, h.2.sublist hf⟩
  have hlen := hf.length_le
  rw [List.length_map, List.length_map] at hlen
  exact hlen.trans h.1

theorem SlotsFit.put {slots : Vector Slot 16} (h : SlotsFit slots) {i : SlotId} {x : Slot}
    (hx : 12 ≤ i.val → x.owner = none ∨ (∃ l, x.owner = some (.tally l)) ∨ x.owner = slots[i].owner) : SlotsFit (put slots i x) := by
  intro j hj
  by_cases hij : j = i
  · subst hij
    rw [put_eq]
    rcases hx hj with hnone | htally | hsame
    · exact .inl hnone
    · exact .inr htally
    · rw [hsame]
      exact h j hj
  · rw [put_ne slots x hij]
    exact h j hj

theorem CoordFits.contexts {queue : List CoordRequest} {contexts : Vector Context 4} (h : CoordFits queue contexts) {k : ContextId} {c : Context}
    (hc : ∀ q ∈ queue, q.filer = .context k → contexts[k].awaits → c.awaits) : CoordFits queue (put contexts k c) := by
  refine ⟨h.total, h.others, h.once, fun q hq j hj => ?_⟩
  by_cases hjk : j = k
  · subst hjk
    rw [put_eq]
    exact hc q hq hj (h.awaited q hq j hj)
  · rw [put_ne contexts c hjk]
    exact h.awaited q hq j hj

theorem CoordFits.sublist {queue sub : List CoordRequest} {contexts : Vector Context 4} (h : CoordFits queue contexts)
    (hs : sub.Sublist queue) : CoordFits sub contexts :=
  ⟨hs.length_le.trans h.total, (hs.filter _).length_le.trans h.others, h.once.sublist (hs.filterMap _),
    fun q hq => h.awaited q (hs.subset hq)⟩

/-- The requests of the contexts and of the others make up the coordination queue. -/
theorem coord_split (queue : List CoordRequest) :
    queue.length = (queue.filter CoordRequest.ofOther).length + (queue.filterMap CoordRequest.context?).length := by
  induction queue with
  | nil => rfl
  | cons q queue ih =>
    have hq : q.ofOther = false ∧ (∃ k, q.context? = some k) ∨ q.ofOther = true ∧ q.context? = none := by
      unfold CoordRequest.ofOther CoordRequest.context?
      cases q.filer with
      | context k => exact .inl ⟨rfl, k, rfl⟩
      | management id => exact .inr ⟨rfl, rfl⟩
      | auto => exact .inr ⟨rfl, rfl⟩
    rcases hq with ⟨ho, k, hk⟩ | ⟨ho, hk⟩
    · rw [List.filter_cons_of_neg (by rw [ho]; decide), List.filterMap_cons_some hk, List.length_cons, List.length_cons, ih]
      omega
    · rw [List.filter_cons_of_pos ho, List.filterMap_cons_none hk, List.length_cons, List.length_cons, ih]
      omega

theorem contexts_le {ks : List ContextId} (h : ks.Nodup) : ks.length ≤ 4 := by
  have hcard := h.length_le_card
  rwa [Fintype.card_fin] at hcard

/-- A request of another filer joins where there is a place (R45). -/
theorem CoordFits.other {queue : List CoordRequest} {contexts : Vector Context 4} (h : CoordFits queue contexts) {q : CoordRequest}
    (hq : q.ofOther = true) (hroom : queue.length < 8) (hothers : (queue.filter CoordRequest.ofOther).length < 4) :
    CoordFits (queue ++ [q]) contexts := by
  have hnone : q.context? = none := by
    unfold CoordRequest.context?
    unfold CoordRequest.ofOther at hq
    cases hfiler : q.filer with
    | context k => rw [hfiler] at hq; cases hq
    | management id => rfl
    | auto => rfl
  refine ⟨?_, ?_, ?_, fun p hp k hk => ?_⟩
  · rw [List.length_append]
    exact hroom
  · rw [List.filter_append, List.filter_cons_of_pos hq, List.length_append]
    exact hothers
  · rw [List.filterMap_append, List.filterMap_cons_none hnone, List.filterMap_nil, List.append_nil]
    exact h.once
  · rcases List.mem_append.mp hp with hp | hp
    · exact h.awaited p hp k hk
    · rw [List.mem_singleton] at hp
      subst hp
      unfold CoordRequest.ofOther at hq
      rw [hk] at hq
      cases hq

/-- The request of a context joins where it has none in the queue and the context waits for it (R107). -/
theorem CoordFits.context {queue : List CoordRequest} {contexts : Vector Context 4} (h : CoordFits queue contexts) {q : CoordRequest}
    {k : ContextId} (hq : q.filer = .context k) (hnew : ∀ p ∈ queue, p.filer ≠ .context k) (hk : contexts[k].awaits) :
    CoordFits (queue ++ [q]) contexts := by
  have hsome : q.context? = some k := by rw [CoordRequest.context?, hq]
  have hother : q.ofOther = false := by rw [CoordRequest.ofOther, hq]
  have honce : ((queue ++ [q]).filterMap CoordRequest.context?).Nodup := by
    rw [List.filterMap_append, List.filterMap_cons_some hsome, List.filterMap_nil]
    refine h.once.append (List.nodup_singleton _) (List.disjoint_singleton.mpr fun hmem => ?_)
    obtain ⟨p, hp, hpk⟩ := List.mem_filterMap.mp hmem
    refine hnew p hp ?_
    unfold CoordRequest.context? at hpk
    cases hfiler : p.filer with
    | context j => rw [hfiler] at hpk; exact congrArg Filer.context (Option.some.inj hpk)
    | management id => rw [hfiler] at hpk; cases hpk
    | auto => rw [hfiler] at hpk; cases hpk
  have hothers : ((queue ++ [q]).filter CoordRequest.ofOther).length ≤ 4 := by
    rw [List.filter_append, List.filter_cons_of_neg (by rw [hother]; decide), List.filter_nil, List.append_nil]
    exact h.others
  refine ⟨?_, hothers, honce, fun p hp j hj => ?_⟩
  · rw [coord_split]
    have := contexts_le honce
    omega
  · rcases List.mem_append.mp hp with hp | hp
    · exact h.awaited p hp j hj
    · rw [List.mem_singleton] at hp
      subst hp
      have hjk : j = k := Filer.context.inj (hj.symm.trans hq)
      subst hjk
      exact hk

/-! The law under a change of one part -/

namespace State.Lawful
variable {s : State} (h : s.Lawful)
include h

theorem withRetune {q : List QueueEntry} (hq : RetuneFits q) : State.Lawful { s with retuneQueue := q } :=
  ⟨h.uport, h.dport, h.agent, hq, h.coord, h.foreign, h.slots⟩

theorem withUport {u : UPort} (hu : u.Fits) : State.Lawful { s with uport := u } :=
  ⟨hu, h.dport, h.agent, h.retune, h.coord, h.foreign, h.slots⟩

theorem withDport {d : DPort} (hd : d.Fits) : State.Lawful { s with dport := d } :=
  ⟨h.uport, hd, h.agent, h.retune, h.coord, h.foreign, h.slots⟩

theorem withAgent {a : Agent} (ha : a.Fits) : State.Lawful { s with agent := a } :=
  ⟨h.uport, h.dport, ha, h.retune, h.coord, h.foreign, h.slots⟩

theorem withEngine {e : Engine} (he : CoordFits e.queue s.contexts) : State.Lawful { s with engine := e } :=
  ⟨h.uport, h.dport, h.agent, h.retune, he, h.foreign, h.slots⟩

theorem withScan {c : Scan} (hc : ForeignFits c.foreign) : State.Lawful { s with scan := c } :=
  ⟨h.uport, h.dport, h.agent, h.retune, h.coord, hc, h.slots⟩

theorem withUnit {u : UnitChannel} (hu : SlotsFit u.slots) : State.Lawful { s with unit := u } :=
  ⟨h.uport, h.dport, h.agent, h.retune, h.coord, h.foreign, hu⟩

theorem raise {n : Notice} {object : Byte} {detail : List Byte} : (s.raise n object detail).Lawful := by
  obtain ⟨hreply, hreport, haudio, hforward⟩ := h.uport
  rw [State.raise_eq]
  refine ⟨⟨hreply, ?_, haudio, hforward⟩, h.dport, h.agent, h.retune, h.coord, h.foreign, h.slots⟩
  rw [Agent.reportsAfter]
  split
  next hroom => rw [List.length_append]; exact hroom.2
  next => exact hreport

theorem raiseReference {n : Notice} : (s.raiseReference n).Lawful := by
  unfold State.raiseReference
  split
  · exact h
  · exact h.raise.withAgent h.raise.agent

theorem foldl {α : Type} {f : State → α → State} (hf : ∀ (t : State) (a : α), t.Lawful → (f t a).Lawful) (xs : List α) : (xs.foldl f s).Lawful := by
  induction xs generalizing s with
  | nil => exact h
  | cons x xs ih => exact ih (hf s x h)

end State.Lawful

end Sys2Proof.Machine
end

section

/-! ### The law under the operations on carriers, links, requests and slots -/

namespace Sys2Proof.Machine

theorem findIdx?_link_spec {q : List QueueEntry} {l : LinkId} :
    (∀ n, q.findIdx? (fun e => decide (e.link = l)) = some n → ∀ x ∈ q[n]?, x.link = l)
    ∧ (q.findIdx? (fun e => decide (e.link = l)) = none → ∀ x ∈ q, x.link ≠ l) := by
  refine ⟨fun n hn x hx => ?_, fun hn x hx => ?_⟩
  · obtain ⟨hlt, hlink, -⟩ := List.findIdx?_eq_some_iff_getElem.mp hn
    have hget : q[n]? = some q[n] := List.getElem?_eq_getElem hlt
    rw [hget] at hx
    cases hx
    exact of_decide_eq_true hlink
  · have hall := List.findIdx?_eq_none_iff.mp hn x hx
    exact of_decide_eq_false hall

namespace State.Lawful
variable {s : State} (h : s.Lawful)
include h

/-! Carriers, links and monitors (03, 05, 07) -/

theorem modLink {l : LinkId} {f : Link → Link} : (s.modLink l f).Lawful := h.same rfl rfl rfl rfl rfl rfl rfl rfl

theorem setCarrier {e : EntryId} {c : Carrier} : (s.setCarrier e c).Lawful := h.same rfl rfl rfl rfl rfl rfl rfl rfl

theorem bumpGen : s.bumpGen.Lawful := h.same rfl rfl rfl rfl rfl rfl rfl rfl

theorem setMonitor {l : LinkId} {m : Monitor} : (s.setMonitor l m).Lawful := h.same rfl rfl rfl rfl rfl rfl rfl rfl

theorem setCamera {l : LinkId} {c : Camera} : (s.setCamera l c).Lawful := h.same rfl rfl rfl rfl rfl rfl rfl rfl

theorem restartMonitor {l : LinkId} : (s.restartMonitor l).Lawful := h.setMonitor

theorem setSuspect {e : EntryId} : (s.setSuspect e).Lawful := h.setCarrier

theorem retargetBackup {l : LinkId} : (s.retargetBackup l).Lawful := h.withRetune (h.retune.map fun e => by split <;> rfl)

theorem reevaluate {l : LinkId} : (s.reevaluate l).Lawful := h.withRetune (h.retune.map fun e => by split <;> rfl)

theorem removeFade {l : LinkId} : (s.removeFade l).Lawful := h.withRetune (h.retune.sublist List.filter_sublist)

theorem removeEntry {l : LinkId} : (s.removeEntry l).Lawful := h.withRetune (h.retune.sublist List.filter_sublist)

theorem releaseEntry {e : EntryId} : (s.releaseEntry e).Lawful := by
  unfold State.releaseEntry
  dsimp only
  split
  · exact h
  · split
    · exact h.setCarrier.bumpGen
    · split
      · exact h.setCarrier.bumpGen.modLink.retargetBackup
      · exact h.setCarrier.bumpGen.modLink

theorem releaseOpt {e : Option EntryId} : (s.releaseOpt e).Lawful := by
  cases e with
  | none => exact h
  | some e => exact h.releaseEntry

theorem noteEntered {e : EntryId} {l : LinkId} {st : CarrierState} : (s.noteEntered e l st).Lawful := by
  unfold State.noteEntered
  split
  · exact h.modLink
  · split
    · exact h.modLink
    · exact h.releaseEntry
  all_goals exact h

theorem changeEntry {e : EntryId} {st : CarrierState} : (s.changeEntry e st).Lawful := by
  unfold State.changeEntry
  dsimp only
  split
  · exact h.setCarrier
  · exact h.setCarrier.modLink.noteEntered

theorem changeOpt {e : Option EntryId} {st : CarrierState} : (s.changeOpt e st).Lawful := by
  cases e with
  | none => exact h
  | some e => exact h.changeEntry

theorem setLinkState {l : LinkId} {st : LinkState} : (s.setLinkState l st).Lawful := by
  unfold State.setLinkState
  dsimp only
  split
  · exact h.modLink.releaseOpt
  · exact h.modLink

/-! Filings of retunes (R86 to R89) -/

theorem raiseDropped {l : LinkId} {target : Target} {reason : Reason} : (s.raiseDropped l target reason).Lawful := h.raise

theorem fileRetune {l : LinkId} {target : Target} {reason : Reason} {force : Bool} : (s.fileRetune l target reason force).1.Lawful := by
  unfold State.fileRetune
  dsimp only
  split
  next n hn => exact h.withRetune (h.retune.set (findIdx?_link_spec.1 n hn))
  next hn =>
    split
    next hroom => exact h.withRetune (h.retune.append hroom (findIdx?_link_spec.2 hn))
    next => exact h

theorem autoFile {l : LinkId} {target : Target} {reason : Reason} : (s.autoFile l target reason).1.Lawful := by
  unfold State.autoFile
  split
  · exact h
  · have hfiled : (s.fileRetune l target reason false).1.Lawful := h.fileRetune
    generalize s.fileRetune l target reason false = filed at hfiled
    obtain ⟨t, f⟩ := filed
    cases f with
    | full => exact hfiled.raiseDropped
    | added held p => exact hfiled
    | replaced held p => exact hfiled

theorem returnRetune {l : LinkId} {target : Target} {reason : Reason} {force : Bool} : (s.returnRetune l target reason force).1.Lawful := by
  unfold State.returnRetune
  split
  next => exact h
  next hnot =>
    split
    next hroom =>
      refine h.withRetune (h.retune.append hroom fun x hx hlink => hnot ?_)
      exact List.any_eq_true.mpr ⟨x, hx, decide_eq_true hlink⟩
    next => exact h

/-! Requests and the drain condition (R187, R188, R193) -/

theorem testDrain : s.testDrain.Lawful := by
  unfold State.testDrain
  split
  · exact (h.withAgent (a := { s.agent with quiesce := .quiesced }) h.agent).raise
  · exact h

theorem setPhase {id : Nat} {p : Phase} : (s.setPhase id p).Lawful :=
  h.withAgent ⟨(List.length_map _).trans_le h.agent.1, h.agent.2⟩

theorem answer {r : Request} {result : Result} {data : List Byte} : (s.answer r result data).Lawful := by
  refine h.setPhase.withAgent ⟨h.setPhase.agent.1, ?_⟩
  rw [List.filter_append, List.filter_cons_of_neg Bool.false_ne_true, List.filter_nil, List.append_nil]
  exact h.setPhase.agent.2

theorem defer {r : Request} : (s.defer r).Lawful := h.setPhase

theorem answerId {id : Nat} {result : Result} {data : List Byte} : (s.answerId id result data).Lawful := by
  unfold State.answerId
  split
  · exact h.answer
  · exact h

theorem judgeCommon : s.judgeCommon.Lawful := h.foldl (fun _ _ ht => ht.answer) _

theorem take {row : Request → Bool} {f : State → Request → State} (hf : ∀ (t : State) (r : Request), t.Lawful → (f t r).Lawful) :
    (s.take row f).Lawful := by
  unfold State.take
  split
  · split
    · exact (hf _ _ h).judgeCommon
    · exact h
  · exact h

/-! Filings of coordination requests (R45, R48) -/

theorem raiseBackupLost {l : LinkId} {entry : Option EntryId} {cause result : Nat} : (s.raiseBackupLost l entry cause result).Lawful := h.raise

theorem placeOther {q : CoordRequest} (hq : q.ofOther = true) {f : Filer} (hf : f = .auto ∨ ∃ id, f = .management id) (hplace : s.coordPlace f = true) :
    (s.placeCoord q).Lawful := by
  have hroom : s.engine.queue.length < 8 ∧ (s.engine.queue.filter CoordRequest.ofOther).length < 4 := by
    rcases hf with rfl | ⟨id, rfl⟩
    · exact (Bool.and_eq_true _ _ ▸ hplace : _ ∧ _).imp of_decide_eq_true of_decide_eq_true
    · exact (Bool.and_eq_true _ _ ▸ hplace : _ ∧ _).imp of_decide_eq_true of_decide_eq_true
  exact h.withEngine (h.coord.other hq hroom.1 hroom.2)

theorem autoPick {l : LinkId} {raised : Bool} : (s.autoPick l raised).Lawful := by
  unfold State.autoPick
  split
  · exact h
  · split
    next hplace => exact h.placeOther rfl (.inl rfl) hplace
    next =>
      split
      · exact h
      · exact h.raiseBackupLost

/-! Slots (R94, R95, R103) -/

theorem setSlot {i : SlotId} {x : Slot} (hx : 12 ≤ i.val → x.owner = none ∨ (∃ l, x.owner = some (.tally l)) ∨ x.owner = s.unit.slots[i].owner) :
    (s.setSlot i x).Lawful := h.withUnit (h.slots.put hx)

/-- A slot that keeps its owner. -/
theorem keepSlot {i : SlotId} {x : Slot} (hx : x.owner = s.unit.slots[i].owner) : (s.setSlot i x).Lawful := h.setSlot fun _ => .inr (.inr hx)

theorem freeSlot {i : SlotId} : (s.setSlot i {}).Lawful := h.setSlot fun _ => .inl rfl

theorem setToggle {u : Byte} {b : Bool} : (s.setToggle u b).Lawful := h.same rfl rfl rfl rfl rfl rfl rfl rfl

theorem flipToggle {u : Byte} : (s.flipToggle u).Lawful := h.setToggle

end State.Lawful

end Sys2Proof.Machine
end

section

/-! ### The law under the operations on slots and contexts (06) -/

namespace Sys2Proof.Machine

/-- Slots 12 to 15 are found for tally alone (R94). -/
theorem State.slotFor_general {s : State} {o : Owner} {i : SlotId} (h : s.slotFor o = some i) (hi : 12 ≤ i.val) : ∃ l, o = .tally l := by
  have hgeneral (hfound : (((List.finRange 16).filter fun i => decide (i.val < 12)).find? fun i => s.unit.slots[i].state == .free) = some i) : False := by
    have hmem := List.mem_of_find?_eq_some hfound
    have hlt := of_decide_eq_true (List.mem_filter.mp hmem).2
    omega
  cases o with
  | tally l => exact ⟨l, rfl⟩
  | context k side => exact (hgeneral h).elim
  | scan rc => exact (hgeneral h).elim
  | relay id => exact (hgeneral h).elim

/-- A change that keeps a context waiting where it waits. -/
def Context.KeepsWaiting (f : Context → Context) : Prop := ∀ c : Context, c.awaits → (f c).awaits

namespace State.Lawful
variable {s : State} (h : s.Lawful)
include h

/-! Allocation and offers -/

theorem allocate {i : SlotId} {q : SlotRequest} (hi : s.slotFor q.owner = some i) : (s.allocate i q).Lawful := by
  have hgiven : (s.setSlot i { state := .waiting, owner := some q.owner, unit := q.unit, command := q.command, single := q.single
                               pair := q.pair, mate := if q.pair then s.mateOf i q.owner else none, serial := s.unit.serial }).Lawful := by
    refine h.setSlot fun h12 => .inr (.inl ?_)
    obtain ⟨l, hl⟩ := State.slotFor_general hi h12
    exact ⟨l, congrArg some hl⟩
  unfold State.allocate
  dsimp only
  have hnext := hgiven.withUnit (u := { (s.setSlot i { state := .waiting, owner := some q.owner, unit := q.unit, command := q.command
                                                       single := q.single, pair := q.pair
                                                       mate := if q.pair then s.mateOf i q.owner else none
                                                       serial := s.unit.serial }).unit with serial := s.unit.serial + 1 }) hgiven.slots
  split
  · exact hnext.keepSlot rfl
  · exact hnext

theorem grantOne : s.grantOne.Lawful := by
  have hfound (q : SlotRequest) (i : SlotId) (qs : List SlotRequest) (hq : s.grantable qs = some (q, i)) : s.slotFor q.owner = some i := by
    induction qs with
    | nil => cases hq
    | cons p qs ih =>
      unfold State.grantable at hq
      split at hq
      next j hj =>
        cases hq
        exact hj
      next => exact ih hq
  unfold State.grantOne
  split
  next q i hq =>
    have hwaiting : State.Lawful { s with unit := { s.unit with waiting := s.unit.waiting.erase q } } := h.withUnit h.slots
    exact hwaiting.allocate (hfound q i _ hq)
  next => exact h

theorem grantAll {n : Nat} : (State.grantAll n s).Lawful := by
  induction n generalizing s with
  | zero => exact h
  | succ n ih => exact ih h.grantOne

theorem askSlot {q : SlotRequest} : (s.askSlot q).Lawful := by
  have hwaiting : State.Lawful { s with unit := { s.unit with waiting := s.unit.waiting ++ [q] } } := h.withUnit h.slots
  exact hwaiting.grantAll

theorem offerSlot {i : SlotId} : (s.offerSlot i).Lawful := by
  have hslot : (s.setSlot i (s.offered i)).Lawful := h.keepSlot rfl
  obtain ⟨hurgent, hcommand, haudio, hforward⟩ := h.dport
  unfold State.offerSlot
  dsimp only
  split
  · split
    · split
      next hroom =>
        refine hslot.withDport ⟨?_, hcommand, haudio, hforward⟩
        rw [List.length_append]
        exact hroom.1
      next => exact h
    · split
      next hroom =>
        refine hslot.withDport ⟨hurgent, ?_, haudio, hforward⟩
        rw [List.length_append]
        exact hroom.1
      next => exact h
  · exact h

theorem submitPair {k : ContextId} : (s.submitPair k).Lawful := by
  obtain ⟨-, hcommand, haudio, hforward⟩ := h.dport
  unfold State.submitPair
  split
  next i j _ =>
    split
    next hroom =>
      have hslots : ((s.setSlot i (s.offered i)).setSlot j (s.offered j)).Lawful := by
        have hfirst : (s.setSlot i (s.offered i)).Lawful := h.keepSlot rfl
        refine hfirst.keepSlot ?_
        by_cases hij : j = i
        · subst hij
          exact (congrArg Slot.owner (put_eq _ _ _)).symm
        · exact (congrArg Slot.owner (put_ne s.unit.slots (s.offered i) hij)).symm
      refine hslots.withDport ⟨?_, hcommand, haudio, hforward⟩
      rw [List.length_append]
      exact hroom.2.1
    next => exact h
  next => exact h

theorem withdrawSlot {i : SlotId} : (s.withdrawSlot i).Lawful := by
  obtain ⟨hurgent, hcommand, haudio, hforward⟩ := h.dport
  have hqueues : State.Lawful { s with dport := { s.dport with urgent := s.dport.urgent.filter fun q => q.slot ≠ i
                                                               command := s.dport.command.filter fun q => q.slot ≠ i } } :=
    h.withDport ⟨(List.length_filter_le _ _).trans hurgent, (List.length_filter_le _ _).trans hcommand, haudio, hforward⟩
  exact hqueues.freeSlot

theorem withdrawContext {k : ContextId} : (s.withdrawContext k).Lawful := by
  have hwaiting : State.Lawful { s with unit := { s.unit with waiting := s.unit.waiting.filter fun q => !q.owner.ofContext k } } :=
    h.withUnit h.slots
  refine hwaiting.foldl (fun t i ht => ?_) _
  split
  · exact ht.withdrawSlot
  · exact ht

/-! Contexts (R90, R106 to R118) -/

theorem setContext {k : ContextId} {c : Context}
    (hc : ∀ q ∈ s.engine.queue, q.filer = .context k → s.contexts[k].awaits → c.awaits) : (s.setContext k c).Lawful :=
  ⟨h.uport, h.dport, h.agent, h.retune, h.coord.contexts hc, h.foreign, h.slots⟩

theorem modContext {k : ContextId} {f : Context → Context} (hf : Context.KeepsWaiting f) : (s.modContext k f).Lawful :=
  h.setContext fun _ _ _ => hf _

theorem askContext {k : ContextId} {side : Side} {command : List Byte} {pair : Bool} : (s.askContext k side command pair).Lawful := h.askSlot

theorem freeIfDone {k : ContextId} : (s.freeIfDone k).Lawful := by
  unfold State.freeIfDone
  split
  next hdone => exact (h.setContext fun _ _ _ hwaits => absurd hwaits.2 hdone.2.2).testDrain
  next => exact h

theorem close {k : ContextId} : (s.close k).Lawful :=
  (h.modContext (f := fun c => { c with stage := .closing }) fun _ hc => ⟨nofun, hc.2⟩).freeIfDone

theorem writeResult {k : ContextId} {ending : Ending} {stage : RetuneStage} : (s.writeResult k ending stage).Lawful := by
  rw [State.writeResult_eq]
  exact h.modLink

theorem raiseFailed {k : ContextId} {stage : RetuneStage} {cause : FailCause} : (s.raiseFailed k stage cause).Lawful := h.raise

theorem settleEarly {k : ContextId} {ending : Ending} {stage : RetuneStage} : (s.settleEarly k ending stage).Lawful := by
  unfold State.settleEarly
  dsimp only
  split
  · exact h.changeOpt.setLinkState.writeResult
  · exact h.releaseOpt.setLinkState.writeResult

theorem askCancelOf {k : ContextId} {side : Side} {unit : Option Byte} : (s.askCancelOf k side unit).Lawful := by
  cases unit with
  | none => exact h
  | some u => exact h.askSlot

theorem closeEarly {k : ContextId} : (s.closeEarly k).Lawful := by
  have hclosing : (s.setContext k s.contexts[k].closed).Lawful := h.setContext fun _ _ _ hwaits => ⟨nofun, hwaits.2⟩
  exact hclosing.withdrawContext.askCancelOf.askCancelOf.freeIfDone

theorem failPrepare {k : ContextId} : (s.failPrepare k).Lawful := h.settleEarly.raiseFailed.closeEarly

theorem giveBack {k : ContextId} : (s.giveBack k).Lawful := by
  have hreturned : (State.returnRetune (s.settleEarly k .returned s.contexts[k].stage.named) s.contexts[k].link s.contexts[k].target
      s.contexts[k].reason s.contexts[k].force).1.Lawful := h.settleEarly.returnRetune
  unfold State.giveBack
  dsimp only
  generalize State.returnRetune (s.settleEarly k .returned s.contexts[k].stage.named) s.contexts[k].link s.contexts[k].target
    s.contexts[k].reason s.contexts[k].force = back at hreturned ⊢
  obtain ⟨t, r⟩ := back
  cases r with
  | returned => exact hreturned.raise.closeEarly
  | merged => exact hreturned.closeEarly
  | dropped => exact hreturned.raise.closeEarly

theorem liveChange {k : ContextId} : (s.liveChange k).Lawful := by
  unfold State.liveChange
  dsimp only
  split
  · exact h.giveBack
  · exact h.giveBack
  · split
    · exact h
    · exact h.giveBack
  all_goals exact h

theorem enterPrepare {k : ContextId} {e : EntryId} : (s.enterPrepare k e).Lawful := by
  have hstage := h.modContext (k := k) (f := fun c => { c with stage := .prepare, newEntry := some e, newFreq := s.plan.carriers[e].freq })
    fun _ hc => ⟨nofun, hc.2⟩
  exact hstage.askContext.askContext

theorem enterSwitch {k : ContextId} : (s.enterSwitch k).Lawful := by
  have hstage := h.modContext (k := k) (f := fun c => { c with stage := .switch, completions := 0 }) fun _ hc => ⟨nofun, hc.2⟩
  exact hstage.askContext.askContext

theorem askRevert {k : ContextId} : (s.askRevert k).Lawful := by
  unfold State.askRevert
  split
  · have hasked := h.modContext (k := k) (f := fun c => { c with asked := true, completions := 0 }) fun _ hc => hc
    exact hasked.askContext.askContext
  · exact h

theorem enterRevert {k : ContextId} {cause : RevertCause} : (s.enterRevert k cause).Lawful := by
  have hstage := h.modContext (k := k) (f := fun c => { c with stage := .revert, cause, committed := false, frame := none, deadline := none
                                                               asked := false, reverted := false }) fun _ hc => ⟨nofun, hc.2⟩
  exact hstage.askRevert

theorem endFailed {k : ContextId} {st : LinkState} {stage : RetuneStage} {cause : FailCause} : (s.endFailed k st stage cause).Lawful :=
  h.setLinkState.writeResult.raiseFailed.close

theorem endLost {k : ContextId} {stage : RetuneStage} {cause : FailCause} : (s.endLost k stage cause).Lawful := h.releaseOpt.endFailed

theorem confirmMove {k : ContextId} : (s.confirmMove k).Lawful := by
  unfold State.confirmMove
  dsimp only
  split
  · exact h.releaseOpt.setLinkState.writeResult.raise.autoPick.close
  · exact h.releaseOpt.setLinkState.writeResult.raise.close

theorem confirm {k : ContextId} : (s.confirm k).Lawful := by
  unfold State.confirm
  split
  · exact h.confirmMove
  · exact h.endFailed

theorem mistune {k : ContextId} : (s.mistune k).Lawful := by
  unfold State.mistune
  split
  · exact h.endLost
  · exact h.endFailed

theorem profilelessConfirm {k : ContextId} : (s.profilelessConfirm k).Lawful := by
  unfold State.profilelessConfirm
  dsimp only
  split
  · exact h.confirm
  · exact h

theorem contextSlotEnded {k : ContextId} {side : Side} {unit command : Byte} {cond : Condition} :
    (s.contextSlotEnded k side unit command cond).Lawful := by
  have hnoted : (s.modContext k fun c => c.noted side cond).Lawful := by
    refine h.modContext fun c hc => ?_
    cases side <;> exact hc
  rw [State.contextSlotEnded_eq]
  dsimp only
  generalize (s.modContext k fun c => c.noted side cond) = t at hnoted ⊢
  have hready : (t.modContext k fun c => c.preloaded side unit).Lawful := by
    refine hnoted.modContext fun c hc => ?_
    cases side <;> exact hc
  generalize (t.modContext k fun c => c.preloaded side unit) = u at hready ⊢
  split
  · split
    · split
      · split
        · exact hready.enterSwitch
        · exact hready
      · exact hnoted.failPrepare
    · exact hnoted
  · exact hnoted.askRevert
  · split
    · exact State.Lawful.freeIfDone (askCancelOf hnoted (unit := some unit))
    · exact hnoted.freeIfDone
  all_goals exact hnoted

/-- The end of a context's coordination request, once it has left the queue (R107). -/
theorem coordEnded {k : ContextId} (hk : ∀ q ∈ s.engine.queue, q.filer ≠ .context k) {result : Result} {entry : Option EntryId} {m : CoordSummary} :
    (s.coordEnded k result entry m).Lawful := by
  have hended : (s.modContext k fun c => { c with coordinating := false }).Lawful := h.setContext fun q hq hfiler => absurd hfiler (hk q hq)
  unfold State.coordEnded
  dsimp only
  generalize (s.modContext k fun c => { c with coordinating := false }) = t at hended ⊢
  have hnoted := hended.modContext (k := k) (f := fun c => { c with summary := some m }) fun _ hc => hc
  split
  · split
    · exact hnoted.enterPrepare
    · exact hnoted.settleEarly.raise.closeEarly
  · exact hended.releaseOpt.freeIfDone

theorem abortContext {l : LinkId} {removed : Bool} : (s.abortContext l removed).1.Lawful := by
  unfold State.abortContext
  dsimp only
  split
  · exact h
  · split
    · exact h.settleEarly.raise.closeEarly
    · exact h.settleEarly.raise.closeEarly
    · split
      · exact h
      · exact h.settleEarly.raise.closeEarly
    all_goals exact h

theorem takeEntry {k : ContextId} (hk : s.contexts[k].stage = .free) {e : QueueEntry} : (s.takeEntry k e).Lawful := by
  have hnone : ∀ q ∈ s.engine.queue, q.filer ≠ .context k := fun q hq hfiler => (h.coord.awaited q hq k hfiler).1 hk
  have htaking (target : Target) : (s.taking k e target).Lawful :=
    ⟨h.uport, h.dport, h.agent, h.retune.sublist List.erase_sublist, h.coord.contexts fun q hq hfiler => absurd hfiler (hnone q hq), h.foreign,
      h.slots⟩
  have hfiled (target : Target) (q : CoordRequest) (hq : q.filer = .context k) :
      (((s.taking k e target).modContext k fun c => { c with coordinating := true }).placeCoord q).Lawful := by
    have hwaits : ((s.taking k e target).modContext k fun c => { c with coordinating := true }).Lawful :=
      (htaking target).modContext fun _ hc => ⟨hc.1, rfl⟩
    refine hwaits.withEngine (hwaits.coord.context hq hnone ?_)
    have hget : ((s.taking k e target).modContext k fun c => { c with coordinating := true }).contexts[k]
        = { s.takenContext e .coordinate target with coordinating := true } := by
      refine (put_eq _ _ _).trans ?_
      exact congrArg (fun c : Context => { c with coordinating := true }) (put_eq _ _ _)
    rw [hget]
    exact ⟨Stage.noConfusion, rfl⟩
  rw [State.takeEntry_eq rfl]
  unfold State.begun
  split
  · exact (htaking _).changeEntry.enterPrepare
  · exact hfiled _ _ rfl

theorem contextTake : s.contextTake.Lawful := by
  have hfree (k : ContextId) (hk : s.freeContext = some k) : s.contexts[k].stage = .free := by
    have hbeq : (s.contexts[k].stage == .free) = true := List.find?_some (p := fun k : ContextId => s.contexts[k].stage == Stage.free) hk
    exact beq_iff_eq.mp hbeq
  unfold State.contextTake
  split
  · split
    next k e hk _ => exact h.takeEntry (hfree k hk)
    next => exact h
  · exact h

theorem switchFrame {k : ContextId} : (s.switchFrame k).Lawful := by
  have hmoved (l : LinkId) : (((s.changeOpt s.contexts[k].newEntry .active).changeOpt s.contexts[k].oldEntry .retiring).restartMonitor l).Lawful :=
    h.changeOpt.changeOpt.restartMonitor
  unfold State.switchFrame
  dsimp only
  split
  · split
    · exact (hmoved _).modContext fun _ hc => ⟨nofun, hc.2⟩
    · split
      · exact (hmoved _).endLost
      · exact (hmoved _).enterRevert
  · exact h

theorem confirmDeadline {k : ContextId} : (s.confirmDeadline k).Lawful := by
  unfold State.confirmDeadline
  dsimp only
  split
  · split
    · exact h.endLost
    · exact h.enterRevert
  · exact h

theorem revertFrame {k : ContextId} : (s.revertFrame k).Lawful := by
  unfold State.revertFrame
  dsimp only
  split
  · split
    · exact (h.releaseOpt.changeOpt.restartMonitor).modContext fun _ hc => hc
    · exact h.releaseOpt.changeOpt.restartMonitor.endFailed
  · exact h

theorem revertExpiry {k : ContextId} : (s.revertExpiry k).Lawful := by
  unfold State.revertExpiry
  dsimp only
  split
  · exact h.endFailed
  · exact h

end State.Lawful

end Sys2Proof.Machine
end

section

/-! ### The law under the coordination engine (03 section 3.6, 04) -/

namespace Sys2Proof.Machine

/-- A context's request stands in front of the queue alone (R90). -/
theorem CoordFits.front_once {q : CoordRequest} {rest : List CoordRequest} {contexts : Vector Context 4} (h : CoordFits (q :: rest) contexts)
    {k : ContextId} (hq : q.filer = .context k) : ∀ p ∈ rest, p.filer ≠ .context k := by
  intro p hp hpk
  have hctx (x : CoordRequest) (hx : x.filer = .context k) : x.context? = some k := by rw [CoordRequest.context?, hx]
  have honce := h.once
  rw [List.filterMap_cons_some (hctx q hq)] at honce
  exact (List.nodup_cons.mp honce).1 (List.mem_filterMap.mpr ⟨p, hp, hctx p hpk⟩)

namespace State.Lawful
variable {s : State} (h : s.Lawful)
include h

theorem endRequest {q : CoordRequest} {rest : List CoordRequest} (hq : s.engine.queue = q :: rest) {result : Result} {entry : Option EntryId}
    {last : Option TryRecord} {tries : Nat} : (s.endRequest q result entry last tries).Lawful := by
  have hended : State.Lawful { s with engine := { queue := s.engine.queue.tail, run := none } } :=
    h.withEngine (h.coord.sublist (List.tail_sublist _))
  have honce (k : ContextId) (hk : q.filer = .context k) : ∀ p ∈ s.engine.queue.tail, p.filer ≠ .context k := by
    have hcoord := h.coord
    rw [hq] at hcoord ⊢
    exact hcoord.front_once hk
  unfold State.endRequest
  dsimp only
  split
  next k hk => exact hended.coordEnded (honce k hk)
  next => exact hended.answerId
  next =>
    split
    · exact hended.raiseBackupLost
    · exact hended

theorem setRun {r : Run} : (s.setRun r).Lawful := h.withEngine h.coord

theorem searchOn {q : CoordRequest} {rest : List CoordRequest} (hq : s.engine.queue = q :: rest) {cls : CarrierClass} {list visits : List Nat}
    {tries : Nat} {last : Option TryRecord} : (s.searchOn q cls list visits tries last).Lawful := by
  unfold State.searchOn
  split
  · exact h.endRequest hq
  · exact h.setRun

theorem startRequest : s.startRequest.Lawful := by
  unfold State.startRequest
  split
  next q rest _ hq =>
    split
    · exact h.endRequest hq
    · split
      · exact h.endRequest hq
      · dsimp only
        split
        · exact h.setRun
        all_goals exact h.searchOn hq
  next => exact h

theorem admitCarrier {q : CoordRequest} {e : EntryId} {cls : CarrierClass} {o : RawOutcome} : (s.admitCarrier q e cls o).Lawful := by
  unfold State.admitCarrier
  dsimp only
  split
  · exact h.setCarrier.bumpGen.modLink.releaseOpt
  · exact h.setCarrier.bumpGen

theorem tryFailed {q : CoordRequest} {rest : List CoordRequest} (hq : s.engine.queue = q :: rest) {r : Run} {tr : TryRecord} :
    (s.tryFailed q r tr).Lawful := by
  unfold State.tryFailed
  split
  · exact h.endRequest hq
  all_goals exact h.searchOn hq

theorem tryPassed {q : CoordRequest} {rest : List CoordRequest} (hq : s.engine.queue = q :: rest) {r : Run} : (s.tryPassed q r).Lawful := by
  have hadmitted (e : EntryId) (o : RawOutcome) : (s.admitCarrier q e r.cls o).engine.queue = q :: rest := by
    unfold State.admitCarrier
    dsimp only
    split
    · rw [State.releaseOpt_parts]
      exact hq
    · exact hq
  unfold State.tryPassed
  dsimp only
  split
  · exact h.endRequest hq
  · split
    · exact h.endRequest hq
    · split
      · exact h.endRequest hq
      · exact h.admitCarrier.endRequest (hadmitted _ _)

theorem completeAttempt : s.completeAttempt.Lawful := by
  unfold State.completeAttempt
  split
  next r q rest _ hq =>
    dsimp only
    split
    · split
      · exact h.setRun
      · exact h.tryFailed hq
    · split
      · exact h.tryPassed hq
      · exact h.tryFailed hq
  next => exact h

theorem markStale : s.markStale.Lawful := h.withEngine h.coord

end State.Lawful

end Sys2Proof.Machine
end

section

/-! ### The law under the scan engine (08) -/

namespace Sys2Proof.Machine

/-- A foreign entry keeps its place in a list by its frequency (R146). -/
theorem ForeignFits.insert {xs : List Foreign} (h : ForeignFits xs) (hroom : xs.length < 32) (x : Foreign) :
    ForeignFits (xs.insertIdx (xs.filter (·.freq < x.freq)).length x) := by
  refine ⟨List.length_insertIdx_le_succ.trans hroom, ?_⟩
  have hsorted := h.2
  clear h hroom
  induction xs with
  | nil => exact List.pairwise_singleton _ _
  | cons y ys ih =>
    rw [List.map_cons, List.pairwise_cons] at hsorted
    obtain ⟨hy, hys⟩ := hsorted
    by_cases hlt : y.freq < x.freq
    · rw [List.filter_cons_of_pos (p := fun z : Foreign => decide (z.freq < x.freq)) (decide_eq_true hlt), List.length_cons, List.insertIdx_succ_cons, List.map_cons, List.pairwise_cons]
      refine ⟨fun f hf => ?_, ih hys⟩
      obtain ⟨z, hz, rfl⟩ := List.mem_map.mp hf
      rcases List.eq_or_mem_of_mem_insertIdx hz with rfl | hz
      · exact hlt.le
      · exact hy _ (List.mem_map_of_mem hz)
    · have habove : ∀ z ∈ y :: ys, x.freq ≤ z.freq := by
        intro z hz
        rcases List.mem_cons.mp hz with rfl | hz
        · exact Nat.le_of_not_lt hlt
        · exact (Nat.le_of_not_lt hlt).trans (hy _ (List.mem_map_of_mem hz))
      have hnone : (y :: ys).filter (·.freq < x.freq) = [] :=
        List.filter_eq_nil_iff.mpr fun z hz hz' => absurd (of_decide_eq_true hz') (Nat.not_lt.mpr (habove z hz))
      rw [hnone, List.length_nil, List.insertIdx_zero, List.map_cons, List.pairwise_cons]
      refine ⟨fun f hf => ?_, by rw [List.map_cons]; exact List.pairwise_cons.mpr ⟨hy, hys⟩⟩
      obtain ⟨z, hz, rfl⟩ := List.mem_map.mp hf
      exact habove z hz

theorem ForeignFits.erase {xs : List Foreign} (h : ForeignFits xs) (p : Nat) : ForeignFits (xs.eraseIdx p) :=
  h.of_freqs ((List.eraseIdx_sublist _ _).map _)

theorem ForeignFits.set {xs : List Foreign} (h : ForeignFits xs) {p : Nat} {x y : Foreign} (hx : xs[p]? = some x) (hy : y.freq = x.freq) :
    ForeignFits (xs.set p y) := by
  obtain ⟨hp, hget⟩ := List.getElem?_eq_some_iff.mp hx
  have hsame : (xs.set p y).map (·.freq) = xs.map (·.freq) := by
    have hat : (xs.map (·.freq))[p]'(by rw [List.length_map]; exact hp) = y.freq := by rw [List.getElem_map, hget, hy]
    rw [List.map_set, ← hat, List.set_getElem_self]
  refine h.of_freqs ?_
  rw [hsame]

namespace State.Lawful
variable {s : State} (h : s.Lawful)
include h

theorem setSweeper {r : Receiver} {x : Sweeper} : (s.setSweeper r x).Lawful := by
  cases r <;> exact h.withScan h.foreign

theorem startSegment {r : Receiver} : (s.startSegment r).Lawful := by
  unfold State.startSegment
  split
  · exact h.setSweeper
  · exact h.setSweeper.askSlot

theorem beginScan : s.beginScan.Lawful := by
  unfold State.beginScan
  dsimp only
  refine State.Lawful.startSegment (State.Lawful.startSegment (h.withScan ?_))
  exact h.foreign

theorem raiseStartIgnored {source : Nat} : (s.raiseStartIgnored source).Lawful := h.raise

theorem scanTrigger : s.scanTrigger.Lawful := by
  unfold State.scanTrigger
  split
  · split
    · exact h.beginScan
    · exact h
  · exact h.raiseStartIgnored
  · exact h

theorem takePoint {r : Receiver} {g : Segment} {n : Nat} {level : Int} : (s.takePoint r g n level).Lawful := by
  unfold State.takePoint
  dsimp only
  split
  · exact h
  · exact h.setSweeper

theorem takeSweep {r : Receiver} {data : List Byte} : (s.takeSweep r data).Lawful := by
  unfold State.takeSweep
  split
  · split
    · exact h.foldl (fun _ _ ht => ht.takePoint) _
    · exact h
  · exact h

theorem setAside {r : Receiver} : (s.setAside r).Lawful := h.setSweeper

/-! The foreign list (R146, R148, R149) -/

theorem setForeign {xs : List Foreign} (hxs : ForeignFits xs) : (s.setForeign xs).Lawful := h.withScan hxs

theorem conflictWith {x : Foreign} {update : Bool} {e : EntryId} : (s.conflictWith x update e).Lawful := by
  unfold State.conflictWith
  dsimp only
  split
  · split
    · split
      · exact h.releaseEntry.raiseBackupLost.autoPick
      · exact h.releaseEntry.raiseBackupLost
    · exact h.releaseEntry
  · split
    · exact h
    · have hraised : ((s.setSuspect e).raiseOnCarrier e x).Lawful := h.setSuspect.raise
      split
      · split
        · exact hraised.autoFile
        · exact hraised
      · exact hraised
  · split
    · exact h
    · exact h.raise
  · split
    · exact h
    · exact h.raise
  all_goals exact h

theorem foreignConflict {x : Foreign} {update : Bool} : (s.foreignConflict x update).Lawful := h.foldl (fun _ _ ht => ht.conflictWith) _

theorem insertForeign (hroom : s.scan.foreign.length < 32) {d : Detection} : (s.insertForeign d).Lawful := by
  have hlist : ForeignFits (s.scan.foreign.insertIdx (s.scan.foreign.filter (·.freq < d.freq)).length
      { freq := d.freq, peak := d.level, lastSeen := s.scan.number, misses := 0 }) := h.foreign.insert hroom _
  exact ((h.setForeign hlist).bumpGen.withScan hlist).raise.foreignConflict

theorem removeForeign {p : Nat} {x : Foreign} {cause : Nat} : (s.removeForeign p x cause).Lawful :=
  ((h.setForeign (h.foreign.erase p)).bumpGen.withScan (h.foreign.erase p)).raise

theorem applyDetection {d : Detection} : (s.applyDetection d).Lawful := by
  unfold State.applyDetection
  split
  · exact h
  · split
    · split
      next x hx =>
        refine State.Lawful.foreignConflict (h.setForeign (h.foreign.set hx ?_))
        rfl
      next => exact h
    · split
      next hroom => exact h.insertForeign hroom
      next =>
        split
        next p _ =>
          split
          next x hx =>
            have hroom : (s.removeForeign p x 2).scan.foreign.length < 32 := by
              obtain ⟨hp, -⟩ := List.getElem?_eq_some_iff.mp hx
              have hlen := h.foreign.1
              have herased : (s.removeForeign p x 2).scan.foreign = s.scan.foreign.eraseIdx p := by
                unfold State.removeForeign State.raiseGone
                rw [State.raise_eq] <;> rfl
              rw [herased, List.length_eraseIdx_of_lt hp]
              omega
            split
            · exact h.removeForeign.insertForeign hroom
            · exact h
          next => exact h
        next => exact h

theorem removeAged {p : Nat} {xs : List Foreign} : (s.removeAged p xs).Lawful := by
  induction xs generalizing s p with
  | nil => exact h
  | cons x xs ih =>
    unfold State.removeAged
    split
    · exact ih h.removeForeign
    · exact ih h

theorem ageForeign : s.ageForeign.Lawful := by
  have hfreqs : s.scan.aged.map (·.freq) = s.scan.foreign.map (·.freq) := by
    unfold Scan.aged
    rw [List.map_map]
    refine List.map_congr_left fun x _ => ?_
    rw [Function.comp_apply]
    split <;> rfl
  refine State.Lawful.removeAged (h.setForeign (h.foreign.of_freqs ?_))
  rw [hfreqs]

theorem afterScan : s.afterScan.Lawful := by
  unfold State.afterScan
  dsimp only
  split
  · exact (h.withScan (c := { s.scan with state := .idle }) h.foreign).beginScan
  · exact (h.withScan (c := { s.scan with state := .idle }) h.foreign).testDrain

theorem endScan : s.endScan.Lawful := State.Lawful.afterScan (State.Lawful.raise h.ageForeign)

theorem segmentDone {r : Receiver} : (s.segmentDone r).Lawful := by
  have hset : (((sortDetections (s.sweeper r).results).foldl State.applyDetection s).setAside r).Lawful :=
    State.Lawful.setAside (h.foldl (fun _ _ ht => ht.applyDetection) _)
  exact hset.withScan hset.foreign

theorem segmentFailed {r : Receiver} {i : Fin 16} {cond : Condition} : (s.segmentFailed r i cond).Lawful :=
  have hraised : ((s.setAside r).raise .scanSegmentFailed (byteAt (u8 i.val) 0) (u8 r.code ++ u8 cond.code ++ half s.scan.number)).Lawful :=
    h.setAside.raise
  hraised.withScan hraised.foreign

theorem segmentEnded {r : Receiver} {cond : Condition} : (s.segmentEnded r cond).Lawful := by
  unfold State.segmentEnded
  split
  next i _ =>
    have hclosed : (if cond = .done then s.segmentDone r else s.segmentFailed r i cond).Lawful := by
      split
      · exact h.segmentDone
      · exact h.segmentFailed
    dsimp only
    generalize (if cond = .done then s.segmentDone r else s.segmentFailed r i cond) = t at hclosed ⊢
    split
    · exact hclosed.startSegment.endScan
    · exact hclosed.startSegment
  next => exact h

theorem stopScan : s.stopScan.Lawful := by
  unfold State.stopScan
  dsimp only
  split
  · refine State.Lawful.testDrain ⟨h.uport, h.dport, h.agent, h.retune, h.coord, h.foreign, fun i hi => ?_⟩
    have hslot := h.slots i hi
    dsimp only [Fin.getElem_fin] at hslot ⊢
    rw [mapTable_get]
    split
    · exact hslot
    · exact hslot
  · exact h.withScan h.foreign

end State.Lawful

end Sys2Proof.Machine
end

section

/-! ### The law under the tally processor and the link monitor (07, 09) -/

namespace Sys2Proof.Machine

namespace State.Lawful
variable {s : State} (h : s.Lawful)
include h

theorem withTally {t : Tally} : State.Lawful { s with tally := t } := h.same rfl rfl rfl rfl rfl rfl rfl rfl

/-! Camera displays (09 section 9.4) -/

theorem startTally {l : LinkId} {d : Display} : (s.startTally l d).Lawful := h.setCamera.askSlot

theorem setWanted {l : LinkId} {d : Display} : (s.setWanted l d).Lawful := by
  unfold State.setWanted
  dsimp only
  split
  · exact h.setCamera
  · split
    · exact h.setCamera
    · exact h.setCamera.startTally

theorem tallySlotEnded {l : LinkId} {unit : Byte} {cond : Condition} : (s.tallySlotEnded l unit cond).Lawful := by
  unfold State.tallySlotEnded
  dsimp only
  split
  · exact h.setCamera
  · split
    · split
      · exact h.setCamera.startTally
      · exact h.setCamera
    · split
      · split
        · split
          · exact h.setCamera
          · exact h.setCamera.startTally
        · split
          · exact h.setCamera.raise
          · exact State.Lawful.startTally h.setCamera.raise
      · split
        · exact h.setCamera
        · exact h.setCamera.raise

theorem tallyUnitStart {unit : Byte} : (s.tallyUnitStart unit).Lawful := by
  refine h.foldl (fun t l ht => ?_) _
  dsimp only
  split
  · split
    · exact ht.startTally
    · exact ht
  · exact ht

/-! Applications and TALLY cells (R153 to R165) -/

theorem setLamps {level : Fin 16 → Bool} : (s.setLamps level).Lawful := h.withTally

theorem setDisplays {d : LinkId → Display} : (s.setDisplays d).Lawful := by
  refine h.foldl (fun t l ht => ?_) _
  split
  · exact ht.setWanted
  · exact ht

theorem workLive {l : LinkId} : (s.workLive l).Lawful := by
  unfold State.workLive
  dsimp only
  split
  · exact h
  · split
    · split
      · exact h.modLink.reevaluate.liveChange
      · exact h.modLink.reevaluate
    · exact h.modLink.reevaluate

theorem adopt : s.adopt.Lawful := by
  unfold State.adopt
  exact ⟨h.uport, h.dport, h.agent, h.retune, h.coord, h.foreign, h.slots⟩

theorem applyTally : s.applyTally.Lawful := by
  have hlive : ((List.finRange 80).foldl State.workLive s.adopt).Lawful := h.adopt.foldl (fun _ _ ht => ht.workLive) _
  exact hlive.setLamps.setDisplays

theorem staleAction : s.staleAction.Lawful := by
  unfold State.staleAction
  split <;> exact h.setLamps.setDisplays

theorem tallyFrame : s.tallyFrame.Lawful := by
  unfold State.tallyFrame
  dsimp only
  split
  · exact h.withTally.withTally.staleAction
  · split
    · exact h.withTally
    · exact h.withTally.applyTally

theorem tallyTimeout : s.tallyTimeout.Lawful := by
  unfold State.tallyTimeout
  dsimp only
  split
  · exact h.withTally.raise.staleAction
  · exact h

theorem takeTally {data : List Byte} : (s.takeTally data).Lawful := by
  unfold State.takeTally
  dsimp only
  split
  · exact h.withTally.withTally.raise
  · exact h.withTally

/-! Samples and their events (R126 to R138) -/

theorem withSamples {v : Vector Sample 80} : State.Lawful { s with samples := v } := h.same rfl rfl rfl rfl rfl rfl rfl rfl

theorem storeSample {l : LinkId} {x : Sample} : (s.storeSample l x).Lawful := h.withSamples.setMonitor

theorem lockTest {l : LinkId} {p : Profile} {x : Sample} : (s.lockTest l p x).Lawful := by
  unfold State.lockTest
  dsimp only
  split
  · exact h.setMonitor.raise
  · exact h.setMonitor

theorem batteryTest {l : LinkId} {p : Profile} {x : Sample} : (s.batteryTest l p x).Lawful := by
  unfold State.batteryTest
  dsimp only
  split
  · exact h
  · split
    · split
      · exact h
      · exact h.setMonitor.raise
    · exact h.setMonitor

theorem batteryTestOf {l : LinkId} {x : Sample} : (s.batteryTestOf l x).Lawful := by
  unfold State.batteryTestOf
  split
  · exact h.batteryTest
  · exact h

theorem crossLow {l : LinkId} {p : Profile} {x : Sample} {rising : Bool} : (s.crossLow l p x rising).Lawful := by
  unfold State.crossLow
  dsimp only
  split
  · exact h.setMonitor.raise
  · exact h.setMonitor

theorem crossHigh {l : LinkId} {p : Profile} {x : Sample} {rising : Bool} : (s.crossHigh l p x rising).Lawful := by
  unfold State.crossHigh
  dsimp only
  split
  · exact h.setMonitor.raise
  · exact h.setMonitor

theorem overload {l : LinkId} {x : Sample} : (s.overload l x).Lawful := h.raise

theorem crossings {l : LinkId} {p : Profile} {x : Sample} {before after : LevelSide} : (s.crossings l p x before after).Lawful := by
  unfold State.crossings
  split
  · exact h.crossLow
  · exact h.crossLow
  · exact h.crossHigh.overload
  · exact h.crossHigh
  · exact h.crossLow.crossHigh.overload
  · exact h.crossHigh.crossLow
  all_goals exact h

theorem interference {l : LinkId} {x : Sample} : (s.interference l x).Lawful := by
  unfold State.interference
  dsimp only
  split
  · split
    · exact h.setSuspect.raise.autoFile
    · exact h.setSuspect.raise
  · split
    · exact h.raise.autoFile
    · exact h.raise

theorem fade {l : LinkId} {x : Sample} : (s.fade l x).Lawful := by
  have hfaded (cause : Nat) : ((s.setLinkState l .faded).raise .fade (linkByte l) (u8 cause ++ s8 x.corrected ++ u8 x.quality)).Lawful :=
    h.setLinkState.raise
  unfold State.fade
  dsimp only
  generalize ((if s.monitors[l].side = .low then 1 else 0) + if s.monitors[l].lockLost = true then 2 else 0) = cause
  have hraised := hfaded cause
  generalize (s.setLinkState l .faded).raise .fade (linkByte l) (u8 cause ++ s8 x.corrected ++ u8 x.quality) = t at hraised ⊢
  have hfiled : (t.autoFile l .backup .fade).1.Lawful := hraised.autoFile
  generalize t.autoFile l .backup .fade = filed at hfiled ⊢
  obtain ⟨u, f⟩ := filed
  split
  · cases f with
    | none => exact hfiled
    | some f =>
      dsimp only
      split
      · exact hfiled.raise
      · exact hfiled
  · exact hraised

theorem recover {l : LinkId} {x : Sample} {cause : Nat} : (s.recover l x cause).Lawful := h.setLinkState.raise.removeFade

theorem fadeOrRecover {l : LinkId} {x : Sample} : (s.fadeOrRecover l x).Lawful := by
  unfold State.fadeOrRecover
  dsimp only
  split
  · exact h.fade
  · split
    · exact h.recover
    · exact h

theorem filterSample {l : LinkId} {p : Profile} {x : Sample} : (s.filterSample l p x).Lawful := by
  have hfiltered (m m' : Monitor) (before after : LevelSide) :
      ((((((s.setMonitor l m).lockTest l p x).setMonitor l m').batteryTest l p x).crossings l p x before after)).Lawful :=
    h.setMonitor.lockTest.setMonitor.batteryTest.crossings
  unfold State.filterSample
  dsimp only
  split
  · exact (State.Lawful.interference (hfiltered _ _ _ _)).fadeOrRecover
  · exact (hfiltered _ _ _ _).fadeOrRecover

theorem raiseMistuned {l : LinkId} {tuned wanted : Nat} : (s.raiseMistuned l tuned wanted).Lawful := h.raise

theorem sampleUp {l : LinkId} {x : Sample} : (s.sampleUp l x).Lawful := by
  unfold State.sampleUp
  split
  · exact h.raiseMistuned.setLinkState.batteryTestOf
  · split
    · exact h.filterSample
    · split
      · exact h.recover
      · exact h

theorem sampleLost {l : LinkId} {x : Sample} : (s.sampleLost l x).Lawful := by
  unfold State.sampleLost
  dsimp only
  split
  · split
    · exact h.restartMonitor.recover.filterSample
    · exact h.restartMonitor.recover
  · exact h.batteryTestOf

theorem sampleConfirm {l : LinkId} {k : ContextId} {x : Sample} : (s.sampleConfirm l k x).Lawful := by
  unfold State.sampleConfirm
  obtain ⟨wanted, other⟩ := s.confirmFreqs k
  dsimp only
  split
  · split
    · exact h.confirm
    · exact h
  · split
    · exact h
    · exact h.raiseMistuned.mistune

theorem sampleMoving {l : LinkId} {x : Sample} : (s.sampleMoving l x).Lawful := by
  unfold State.sampleMoving
  dsimp only
  split
  · split
    · exact h.batteryTestOf.sampleConfirm
    · exact h.batteryTestOf
  · exact h.batteryTestOf

theorem handleSample {l : LinkId} {x : Sample} : (s.handleSample l x).Lawful := by
  unfold State.handleSample
  split
  · exact h.sampleUp
  · exact h.sampleUp
  · exact h.sampleLost
  · exact h.sampleMoving
  · exact h.sampleMoving
  all_goals exact h.batteryTestOf

theorem offerForward {port : Port} {c : Cell} : (s.offerForward port c).Lawful := by
  unfold State.offerForward
  split
  · split
    next hroom =>
      obtain ⟨hreply, hreport, haudio, -⟩ := h.uport
      refine h.withUport ⟨hreply, hreport, haudio, ?_⟩
      rw [List.length_append]
      exact hroom
    next => exact h.raise
  · split
    next hroom =>
      obtain ⟨hurgent, hcommand, haudio, -⟩ := h.dport
      refine h.withDport ⟨hurgent, hcommand, haudio, ?_⟩
      rw [List.length_append]
      exact hroom
    next => exact h.raise

theorem offerAudio {port : Port} {c : Cell} : (s.offerAudio port c).Lawful := by
  unfold State.offerAudio
  split
  · split
    next hroom =>
      obtain ⟨hreply, hreport, -, hforward⟩ := h.uport
      refine h.withUport ⟨hreply, hreport, ?_, hforward⟩
      rw [List.length_append]
      exact hroom
    next => exact h.raise
  · split
    next hroom =>
      obtain ⟨hurgent, hcommand, -, hforward⟩ := h.dport
      refine h.withDport ⟨hurgent, hcommand, ?_, hforward⟩
      rw [List.length_append]
      exact hroom
    next => exact h.raise

theorem takeTelemetry {c : Cell} : (s.takeTelemetry c).Lawful := by
  unfold State.takeTelemetry
  dsimp only
  split
  · exact h.offerForward
  · split
    · exact h.storeSample.handleSample.offerForward
    · exact h.storeSample.handleSample

theorem countSilence : s.countSilence.Lawful := by
  unfold State.countSilence
  exact ⟨h.uport, h.dport, h.agent, h.retune, h.coord, h.foreign, h.slots⟩

theorem telemetryTimeout {l : LinkId} : (s.telemetryTimeout l).Lawful := by
  unfold State.telemetryTimeout
  split
  · exact h.setLinkState.raise
  · exact h

end State.Lawful

end Sys2Proof.Machine
end

section

/-! ### The law under answers, endings and the transmitters (01 sections 1.5 to 1.7, 06 section 6.2) -/

namespace Sys2Proof.Machine

theorem tail_le {α : Type} {xs : List α} {n : Nat} (hxs : xs.length ≤ n) : xs.tail.length ≤ n := by
  rw [List.length_tail]
  omega

namespace State.Lawful
variable {s : State} (h : s.Lawful)
include h

/-! Answers and endings (R98 to R103) -/

/-- A slot is written with the owner that it has in a lawful state. -/
theorem putBack {t : State} (ht : t.Lawful) {i : SlotId} {x : Slot} (hx : x.owner = s.unit.slots[i].owner) : (t.setSlot i x).Lawful := by
  refine ht.setSlot fun h12 => ?_
  rw [hx]
  exact (h.slots i h12).imp_right .inl

theorem handOver {x : Slot} {cond : Condition} {data : List Byte} : (s.handOver x cond data).Lawful := by
  unfold State.handOver
  split
  · exact h.contextSlotEnded
  · exact h.tallySlotEnded
  · split
    · exact h
    · exact h.segmentEnded
  · exact h.answerId.testDrain
  · exact h

theorem endSlot {i : SlotId} {cond : Condition} {data : List Byte} : (s.endSlot i cond data).Lawful := by
  have hended : (s.setSlot i { s.unit.slots[i] with state := .ended, condition := some cond, turn := false }).Lawful := h.keepSlot rfl
  exact hended.freeSlot.handOver

theorem noteResend {x : Slot} : (s.noteResend x).Lawful := by
  unfold State.noteResend
  split
  · split
    · exact h
    · exact h.setAside
  · exact h

theorem retrySlot {i : SlotId} : (s.retrySlot i).Lawful := by
  have hwaiting : (s.setSlot i { s.unit.slots[i] with state := .waiting, deadline := none }).Lawful := h.keepSlot rfl
  unfold State.retrySlot
  dsimp only
  split
  · exact h.endSlot
  · exact hwaiting.noteResend

theorem stray {c : Cell} : (s.stray c).Lawful := h.raise

theorem rewriteCell {i : SlotId} {x : Slot} : (s.rewriteCell i x).Lawful := by
  obtain ⟨hurgent, hcommand, haudio, hforward⟩ := h.dport
  exact h.withDport ⟨(List.length_map _).trans_le hurgent, (List.length_map _).trans_le hcommand, haudio, hforward⟩

theorem startEffect {t : State} (ht : t.Lawful) {i : SlotId} : ((s.startEffect i).2 t).Lawful := by
  have hback (x : Slot) (hx : x.owner = s.unit.slots[i].owner) : (t.setSlot i x).Lawful := h.putBack ht hx
  unfold State.startEffect
  dsimp only
  split
  · exact hback _ rfl
  · split
    · exact ht
    · split
      · exact hback _ rfl
      · refine State.Lawful.rewriteCell (hback _ ?_)
        rfl
  · split
    · exact ht.endSlot
    · refine State.Lawful.noteResend (hback _ ?_)
      rfl
  all_goals exact ht

theorem takeStart {c : Cell} : (s.takeStart c).Lawful := by
  unfold State.takeStart
  split
  · split
    next detail effect heffect =>
      have hraised : ((s.setToggle c.src false).raise .unitStart c.src (u8 detail)).Lawful := h.setToggle.raise
      have hdone (t : State) (ht : t.Lawful) : (effect t).Lawful := by
        split at heffect
        next i _ =>
          have hstart := h.startEffect (i := i) ht
          rw [heffect] at hstart
          exact hstart
        next =>
          cases heffect
          exact ht
      exact (hdone _ hraised).tallyUnitStart
  · exact h.stray

theorem takeAnswer {c : Cell} : (s.takeAnswer c).Lawful := by
  unfold State.takeAnswer
  dsimp only
  split
  · exact h.takeStart
  · split
    · exact h.stray
    · split
      · exact h.stray
      · split
        · exact h.endSlot
        · split
          · exact h.retrySlot
          · split
            · exact h.flipToggle.endSlot
            · split
              · exact h.endSlot
              · exact h.retrySlot

theorem takeSweepCell {c : Cell} : (s.takeSweepCell c).Lawful := by
  unfold State.takeSweepCell
  split
  · exact h.stray
  next i _ =>
    dsimp only
    split
    · exact h.stray
    · split
      · exact h.retrySlot
      · have hset (t : State) (ht : t.Lawful) (d : Half) : (t.setSlot i { s.unit.slots[i] with deadline := some d }).Lawful := h.putBack ht rfl
        split
        · split
          · split
            · exact (hset s h _).flipToggle.endSlot
            · exact (hset _ h.takeSweep _).flipToggle.endSlot
          · exact (hset s h _).flipToggle.endSlot
        · split
          · split
            · exact hset s h _
            · exact hset _ h.takeSweep _
          · exact hset s h _

theorem answerDeadline {i : SlotId} : (s.answerDeadline i).Lawful := by
  unfold State.answerDeadline
  split
  · exact h.retrySlot
  · exact h

/-! The transmitters (R9, R10, R15, R18, R188) -/

theorem setDLine {l : DLine} : (s.setDLine l).Lawful := h.withDport h.dport

theorem setULine {l : ULine} : (s.setULine l).Lawful := h.withUport h.uport

theorem commitPair {k : ContextId} : (s.commitPair k).Lawful := by
  obtain ⟨hurgent, hcommand, haudio, hforward⟩ := h.dport
  have hstamped (f : UnitCell → UnitCell) : State.Lawful { s with dport := { s.dport with line := .urgent, urgent := s.dport.urgent.map f } } :=
    h.withDport ⟨(List.length_map _).trans_le hurgent, hcommand, haudio, hforward⟩
  unfold State.commitPair
  dsimp only
  refine State.Lawful.modContext (hstamped _) ?_
  exact fun _ hc => hc

theorem chooseD {n : Nat} : (State.chooseD n s).Lawful := by
  induction n generalizing s with
  | zero => exact h
  | succ n ih =>
    unfold State.chooseD
    split
    · exact h.withDport h.dport
    · split
      · split
        · exact h.setDLine
        · split
          · exact h.commitPair
          · exact ih h.liveChange
      · exact h.setDLine
    · exact h.setDLine
    · exact h.setDLine
    · exact h.setDLine
    · exact h

theorem startD : s.startD.Lawful := by
  unfold State.startD
  split
  · exact h.chooseD
  · exact h

theorem startU : s.startU.Lawful := by
  unfold State.startU
  split
  · split
    · exact h.setULine
    · exact h.setULine
    · exact h.setULine
    · exact h.setULine
    · exact h
  · exact h

theorem slotSent {i : SlotId} : (s.slotSent i).Lawful := by
  have hkept (x : Slot) (hx : x.owner = s.unit.slots[i].owner) : (s.setSlot i x).Lawful := h.keepSlot hx
  unfold State.slotSent
  dsimp only
  split
  · refine State.Lawful.noteResend (hkept _ ?_)
    rfl
  · exact hkept _ rfl

theorem cellSent {q : UnitCell} : (s.cellSent q).Lawful := by
  unfold State.cellSent
  dsimp only
  split
  · exact h.slotSent.modContext fun _ hc => hc
  · exact h.slotSent

theorem completeD : s.completeD.Lawful := by
  obtain ⟨hurgent, hcommand, haudio, hforward⟩ := h.dport
  unfold State.completeD
  split
  · exact h
  · exact h.setDLine
  · have hsent : State.Lawful { s with dport := { s.dport with line := .idle, urgent := s.dport.urgent.tail } } :=
      h.withDport ⟨tail_le hurgent, hcommand, haudio, hforward⟩
    dsimp only
    split
    · exact hsent.cellSent
    · exact hsent
  · have hsent : State.Lawful { s with dport := { s.dport with line := .idle, command := s.dport.command.tail } } :=
      h.withDport ⟨hurgent, tail_le hcommand, haudio, hforward⟩
    dsimp only
    split
    · exact hsent.cellSent
    · exact hsent
  · exact h.withDport ⟨hurgent, hcommand, tail_le haudio, hforward⟩
  · exact h.withDport ⟨hurgent, hcommand, haudio, tail_le hforward⟩

theorem completeU : s.completeU.Lawful := by
  obtain ⟨hreply, hreport, haudio, hforward⟩ := h.uport
  unfold State.completeU
  split
  · exact h
  · exact h.withUport ⟨tail_le hreply, hreport, haudio, hforward⟩
  · exact h.withUport ⟨hreply, tail_le hreport, haudio, hforward⟩
  · exact h.withUport ⟨hreply, hreport, tail_le haudio, hforward⟩
  · exact h.withUport ⟨hreply, hreport, haudio, tail_le hforward⟩

theorem withPins {p : Pins} : State.Lawful { s with pins := p } := h.same rfl rfl rfl rfl rfl rfl rfl rfl

theorem assertBackoff : s.assertBackoff.Lawful := h.withPins.withDport h.dport

theorem releaseBackoff : s.releaseBackoff.Lawful := h.withPins.startD

theorem offerReply : s.offerReply.Lawful := by
  obtain ⟨-, hreport, haudio, hforward⟩ := h.uport
  obtain ⟨hrequests, hbusy⟩ := h.agent
  unfold State.offerReply
  split
  next q rest hready =>
    split
    next hroom =>
      rw [hready] at hbusy
      have hleft : (rest.filter fun q => q.id.isNone).length ≤ 1 := ((List.sublist_cons_self q rest).filter _).length_le.trans hbusy
      refine ⟨⟨?_, hreport, haudio, hforward⟩, h.dport, ⟨(List.length_filter_le _ _).trans hrequests, hleft⟩, h.retune, h.coord, h.foreign,
        h.slots⟩
      rw [List.length_append]
      exact hroom
    next => exact h
  next => exact h

end State.Lawful

end Sys2Proof.Machine
end

section

/-! ### The law under the talkback mixer, the frame events and the reference monitor (02, 10) -/

namespace Sys2Proof.Machine

namespace State.Lawful
variable {s : State} (h : s.Lawful)
include h

/-! Blocks (R172 to R182) -/

theorem setInput {i : Fin 32} {x : Input} : (s.setInput i x).Lawful := h.same rfl rfl rfl rfl rfl rfl rfl rfl

theorem setOutput {o : Fin 32} {x : Output} : (s.setOutput o x).Lawful := h.same rfl rfl rfl rfl rfl rfl rfl rfl

theorem setUnderrun {i : Fin 32} : (s.setUnderrun i).Lawful := by
  unfold State.setUnderrun
  dsimp only
  split
  · exact h
  · exact h.setInput.raise

theorem setOverflow {i : Fin 32} : (s.setOverflow i).Lawful := by
  unfold State.setOverflow
  dsimp only
  split
  · exact h
  · exact h.setInput.raise

theorem setSeqGap {i : Fin 32} {expected received : Byte} : (s.setSeqGap i expected received).Lawful := by
  unfold State.setSeqGap
  dsimp only
  split
  · exact h
  · exact h.setInput.raise

theorem setClip {o : Fin 32} {n : Nat} : (s.setClip o n).Lawful := by
  unfold State.setClip
  dsimp only
  split
  · exact h
  · exact h.setOutput.raise

theorem checkSequence {i : Fin 32} {seq : Byte} : (s.checkSequence i seq).Lawful := by
  unfold State.checkSequence
  dsimp only
  split
  · split
    · exact h.setInput
    · exact h.setSeqGap.setInput
  · exact h.setInput

theorem appendBlock {i : Fin 32} {b : Block} : (s.appendBlock i b).Lawful := by
  unfold State.appendBlock
  dsimp only
  split
  · exact h.setInput
  · exact h.setInput.setOverflow.setInput

theorem takeAudio {p : Port} {c : Cell} : (s.takeAudio p c).Lawful := by
  unfold State.takeAudio
  dsimp only
  split
  · exact h
  · exact h.checkSequence.appendBlock.setInput

theorem expireInput {i : Fin 32} : (s.expireInput i).Lawful := by
  unfold State.expireInput
  dsimp only
  split
  · split
    · exact h.setInput.setUnderrun
    · exact h.setInput
  · exact h

theorem sendOutput {given : Vector Block 32} {o : Fin 32} : (s.sendOutput given o).Lawful := by
  unfold State.sendOutput
  dsimp only
  split
  · split
    · exact h.offerAudio.setOutput
    · exact h.setClip.offerAudio.setOutput
  · exact h

theorem expireBlock : s.expireBlock.Lawful := by
  unfold State.expireBlock
  dsimp only
  split
  · exact State.Lawful.foldl (h.foldl (fun _ _ ht => ht.expireInput) _) (fun _ _ ht => ht.sendOutput) _
  · exact h

/-! Frame events (R21) -/

theorem setTiming {t : Timing} : (s.setTiming t).Lawful := h.same rfl rfl rfl rfl rfl rfl rfl rfl

theorem withDue {due : List DueStep} : State.Lawful { s with due } := h.same rfl rfl rfl rfl rfl rfl rfl rfl

theorem actDue {d : DueStep} : (s.actDue d).Lawful := by
  cases d with
  | answerDeadline i => exact h.answerDeadline
  | switchFrame k => exact h.switchFrame
  | confirmDeadline k => exact h.confirmDeadline
  | revertFrame k => exact h.revertFrame
  | revertConfirmExpiry k => exact h.revertExpiry
  | telemetryTimeout l => exact h.telemetryTimeout
  | tallyTimeout => exact h.tallyTimeout
  | scanTrigger => exact h.scanTrigger

theorem dueStep {d : DueStep} : (s.dueStep d).Lawful := by
  unfold State.dueStep
  split
  · exact h.withDue.actDue
  · exact h

theorem finishFrame : s.finishFrame.Lawful := h.foldl (fun _ _ ht => ht.dueStep) _

theorem placeFrame : s.placeFrame.Lawful := h.withDport h.dport

theorem advanceFrame : s.advanceFrame.Lawful := by
  unfold State.advanceFrame
  dsimp only
  split
  · exact h.setTiming.raise
  · exact h.setTiming

theorem profilelessConfirms : s.profilelessConfirms.Lawful := h.foldl (fun _ _ ht => ht.profilelessConfirm) _

theorem frameEvent : s.frameEvent.Lawful := State.Lawful.withDue h.advanceFrame.placeFrame.tallyFrame.profilelessConfirms.countSilence

/-! Timers and markers (R22 to R27) -/

theorem passTo {t : Nat} : (s.passTo t).Lawful := h.setTiming

theorem flywheelExpiry : s.flywheelExpiry.Lawful := by
  unfold State.flywheelExpiry
  dsimp only
  split
  · split
    · exact h.passTo.setTiming.frameEvent.raiseReference
    · exact h.passTo.setTiming.frameEvent
  · exact h

theorem timerExpiry : s.timerExpiry.Lawful := by
  unfold State.timerExpiry
  split
  · split
    · exact h
    · exact h.passTo.setTiming.frameEvent
  · exact h

theorem relockTimeout : s.relockTimeout.Lawful := by
  unfold State.relockTimeout
  dsimp only
  split
  · exact h.passTo.setTiming
  · exact h

theorem lockedMarker {t : Nat} : (s.lockedMarker t).Lawful := by
  unfold State.lockedMarker
  dsimp only
  split
  · exact h.setTiming.raise
  · exact h.setTiming.setTiming.frameEvent

theorem completeRelock {t : Nat} : (s.completeRelock t).Lawful := by
  have hevent : (if s.relockIsFrame t then
      (s.setTiming { s.timing with ref := .locked, flywheel := 0, good := 0, armed := false, nextExpiry := none, windowOrigin := t }).frameEvent
    else s.setTiming { s.timing with ref := .locked, flywheel := 0, good := 0, armed := false, nextExpiry := none, windowOrigin := t }).Lawful := by
    split
    · exact h.setTiming.frameEvent
    · exact h.setTiming
  unfold State.completeRelock
  dsimp only
  generalize (if s.relockIsFrame t then
      (s.setTiming { s.timing with ref := .locked, flywheel := 0, good := 0, armed := false, nextExpiry := none, windowOrigin := t }).frameEvent
    else s.setTiming { s.timing with ref := .locked, flywheel := 0, good := 0, armed := false, nextExpiry := none, windowOrigin := t })
    = u at hevent ⊢
  split <;> exact hevent.raiseReference

theorem relockMarker {t : Nat} : (s.relockMarker t).Lawful := by
  unfold State.relockMarker
  dsimp only
  split
  · split
    · exact h.setTiming.completeRelock
    · split
      · exact h.setTiming.raise
      · exact h.setTiming
  · exact h.setTiming

theorem judgeMarker : s.judgeMarker.Lawful := by
  unfold State.judgeMarker
  dsimp only
  split
  · exact h.lockedMarker
  · exact h.setTiming
  · exact h.setTiming
  · exact h.relockMarker

end State.Lawful

end Sys2Proof.Machine
end

section

/-! ### The law under arriving cells and the resets (01 sections 1.3, 1.4 and 1.8, 11) -/

namespace Sys2Proof.Machine

namespace State.Lawful
variable {s : State} (h : s.Lawful)
include h

/-! Arrivals (R1 to R8, R186) -/

theorem receive {p : Port} {c : Cell} {ofRow : Bool} {act : State → State} (hact : ∀ t : State, t.Lawful → (act t).Lawful) :
    (s.receive p c ofRow act).Lawful := by
  unfold State.receive
  split
  · exact h
  · split
    · exact h.raise
    · split
      · exact hact s h
      · exact h

theorem checkFormat {p : Port} {ok : Bool} {act : State → State} (hact : ∀ t : State, t.Lawful → (act t).Lawful) :
    (s.checkFormat p ok act).Lawful := by
  unfold State.checkFormat
  split
  · exact hact s h
  · exact h.raise

theorem offerRefusal {c : Cell} : (s.offerRefusal c).Lawful := by
  obtain ⟨-, hreport, haudio, hforward⟩ := h.uport
  unfold State.offerRefusal
  split
  next hroom =>
    refine h.withUport ⟨?_, hreport, haudio, hforward⟩
    rw [List.length_append]
    exact hroom
  next => exact h

theorem guard {c : Cell} : (s.guard c).Lawful := by
  unfold State.guard
  split
  · exact h.offerRefusal.raise
  · exact h.offerForward

theorem takeMgmt {c : Cell} : (s.takeMgmt c).Lawful := by
  obtain ⟨hrequests, hready⟩ := h.agent
  unfold State.takeMgmt
  split
  · exact h.raise
  · split
    next hroom =>
      refine State.Lawful.judgeCommon (h.withAgent ⟨?_, hready⟩)
      rw [List.length_append]
      exact hroom
    next =>
      split
      next => exact h
      next hbusy =>
        have hnone : (s.agent.ready.filter fun q => q.id.isNone) = [] := by
          refine List.filter_eq_nil_iff.mpr fun q hq hid => hbusy ?_
          exact List.any_eq_true.mpr ⟨q, hq, hid⟩
        refine h.withAgent ⟨hrequests, ?_⟩
        rw [List.filter_append, hnone, List.nil_append]
        exact List.length_filter_le _ _

/-! Resets (R19, R194, R195) -/

omit h in
theorem reset : State.reset.Lawful := (State.lawful_iff _).mpr State.reset_queues

omit h in
theorem coldReset (s : State) : s.coldReset.Lawful := reset.same rfl rfl rfl rfl rfl rfl rfl rfl

theorem stopTimers : s.stopTimers.Lawful := h.same rfl rfl rfl rfl rfl rfl rfl rfl

theorem startTimers : s.startTimers.Lawful := h.same rfl rfl rfl rfl rfl rfl rfl rfl

omit h in
theorem coldResetDone (s : State) : s.coldResetDone.Lawful := by
  unfold State.coldResetDone
  split
  · exact (coldReset s).stopTimers
  · exact coldReset s

theorem warmReset : s.warmReset.Lawful := by
  have hmoved := State.warmSettled_moved s.warmDrop (List.finRange 4)
  generalize hu : s.warmDrop.warmSettled (List.finRange 4) = u at hmoved
  have hslots : u.unit.slots = Vector.replicate 16 {} := by rw [hmoved.parts] <;> rfl
  have hqueue : u.engine.queue = [] := by rw [hmoved.parts] <;> rfl
  have hforeign : u.scan.foreign = s.scan.foreign := by rw [hmoved.parts] <;> rfl
  have hretune : u.retuneQueue = [] := hmoved.empty rfl
  rw [s.warmReset_eq hu]
  refine ⟨⟨?_, ?_, ?_, ?_⟩, ⟨?_, ?_, ?_, ?_⟩, ⟨?_, ?_⟩, ?_, ?_, ?_, ?_⟩
  iterate 10 exact Nat.zero_le _
  · exact (congrArg RetuneFits hretune).mpr ⟨Nat.zero_le _, List.nodup_nil⟩
  · exact (congrArg (CoordFits · (Vector.replicate 4 {})) hqueue).mpr ⟨Nat.zero_le _, Nat.zero_le _, List.nodup_nil, nofun⟩
  · exact (congrArg ForeignFits hforeign).mpr h.foreign
  · refine (congrArg SlotsFit hslots).mpr fun i _ => .inl ?_
    dsimp only [Fin.getElem_fin]
    rw [Vector.getElem_replicate]

theorem warmResetRequest {r : Request} : (s.warmResetRequest r).Lawful := by
  have hwarm := h.warmReset
  obtain ⟨-, hreport, haudio, hforward⟩ := hwarm.uport
  refine hwarm.withUport ⟨?_, hreport, haudio, hforward⟩
  exact Nat.le_of_ble_eq_true rfl

end State.Lawful

end Sys2Proof.Machine
end

section

/-! ### The law under the requests of management (11) -/

namespace Sys2Proof.Machine

namespace State.Lawful
variable {s : State} (h : s.Lawful) {r : Request}
include h

/-! Requests of the carrier plan (R33, R39, R44, R45, R27) -/

theorem withPlan {p : Plan} : State.Lawful { s with plan := p } := h.same rfl rfl rfl rfl rfl rfl rfl rfl

theorem bandRead : (s.bandRead r).Lawful := by
  unfold State.bandRead
  split <;> exact h.answer

theorem bandWrite : (s.bandWrite r).Lawful := by
  unfold State.bandWrite
  dsimp only
  split
  · exact h.answer
  · split
    · exact h.answer
    · split
      · exact h.answer
      · split
        · exact h.answer
        · exact h.withPlan.markStale.answer

theorem carrierRead : (s.carrierRead r).Lawful := by
  unfold State.carrierRead
  split <;> exact h.answer

theorem unblock : (s.unblock r).Lawful := by
  unfold State.unblock
  split
  · exact h.answer
  · split
    · exact h.releaseEntry.answer
    · exact h.answer

theorem fileCoord {q : CoordRequest} (hq : ∃ id, q.filer = .management id) : (s.fileCoord r q).Lawful := by
  obtain ⟨id, hid⟩ := hq
  have hother : q.ofOther = true := by rw [CoordRequest.ofOther, hid]
  unfold State.fileCoord
  split
  next hplace => exact (h.placeOther hother (.inr ⟨id, hid⟩) hplace).defer
  next => exact h.answer

theorem block : (s.block r).Lawful := by
  unfold State.block
  dsimp only
  split
  · exact h.answer
  · split
    · exact h.fileCoord ⟨_, rfl⟩
    · exact h.answer

theorem checkBlocked : (s.checkBlocked r).Lawful := by
  unfold State.checkBlocked
  split
  · split
    · exact h.fileCoord ⟨_, rfl⟩
    · exact h.answer
  · exact h.answer

theorem checkLink {l : LinkId} : (s.checkLink r l).Lawful := by
  unfold State.checkLink
  split
  · split
    · exact h.answer
    · split
      · exact h.answer
      · exact h.fileCoord ⟨_, rfl⟩
  · exact h.answer

theorem check : (s.check r).Lawful := by
  unfold State.check
  split
  · exact h.checkBlocked
  · split
    · exact h.answer
    · exact h.checkLink

theorem relock : (s.relock r).Lawful := by
  unfold State.relock
  split
  · split
    · exact h.setTiming.answer
    · exact h.answer
  · exact h.answer

/-! Requests of the link table and the retune queue (R72 to R84, R117) -/

theorem linkRead : (s.linkRead r).Lawful := by
  unfold State.linkRead
  split <;> exact h.answer

theorem setLink {l : LinkId} {x : Link} : (s.setLink l x).Lawful := h.same rfl rfl rfl rfl rfl rfl rfl rfl

theorem linkWritten {l : LinkId} {old : Link} : (s.linkWritten l old).Lawful := by
  unfold State.linkWritten
  dsimp only
  split
  · split
    · exact h.restartMonitor.setCamera
    · exact h.setCamera
  · split
    · exact h.restartMonitor
    · exact h

theorem storeLink {l : LinkId} {w : Link} : (s.storeLink l w).Lawful := by
  unfold State.storeLink
  dsimp only
  split
  · exact h.setLink.setLinkState.linkWritten.reevaluate
  · exact h.setLink.linkWritten.reevaluate

theorem linkWrite : (s.linkWrite r).Lawful := by
  unfold State.linkWrite
  dsimp only
  split
  · exact h.answer
  · split
    · exact h.answer
    · split
      · exact h.answer
      · split
        · exact h.answer
        · split
          · exact h.answer
          · exact h.storeLink.answer

theorem candidatesRead : (s.candidatesRead r).Lawful := by
  unfold State.candidatesRead
  split <;> exact h.answer

theorem candidatesWrite : (s.candidatesWrite r).Lawful := by
  unfold State.candidatesWrite
  dsimp only
  split
  · exact h.answer
  · split
    · exact h.answer
    · exact h.modLink.answer

theorem fileFor {l : LinkId} {t : Target} {reason : Reason} {force : Bool} : (s.fileFor r l t reason force).Lawful := by
  have hfiled : (s.fileRetune l t reason force).1.Lawful := h.fileRetune
  unfold State.fileFor
  generalize s.fileRetune l t reason force = filed at hfiled ⊢
  obtain ⟨u, f⟩ := filed
  cases f <;> exact hfiled.answer

theorem assign : (s.assign r).Lawful := by
  unfold State.assign
  split
  · exact h.answer
  · exact h.answer
  · split
    · exact h.answer
    · split
      · exact h.answer
      · exact h.fileFor

theorem retuneRequest : (s.retune r).Lawful := by
  unfold State.retune
  split
  · exact h.answer
  · exact h.answer
  · split
    · exact h.answer
    · split
      · exact h.answer
      · split
        · exact h.answer
        · exact h.fileFor

theorem abortRetune : (s.abortRetune r).Lawful := by
  unfold State.abortRetune
  split
  · exact h.answer
  next l _ =>
    have haborted : ((s.removeEntry l).abortContext l (s.queued l)).1.Lawful := h.removeEntry.abortContext
    exact haborted.answer

theorem setBackup : (s.setBackup r).Lawful := by
  unfold State.setBackup
  split
  · exact h.answer
  · exact h.answer
  · split
    · exact h.answer
    · split
      · exact h.answer
      · exact h.fileCoord ⟨_, rfl⟩

theorem releaseLink : (s.releaseLink r).Lawful := by
  unfold State.releaseLink
  dsimp only
  split
  · exact h.answer
  · split
    · exact h.answer
    · split
      · exact h.answer
      · split
        · exact h.answer
        · split
          · exact h.answer
          · exact h.releaseOpt.releaseOpt.setLinkState.answer

theorem undefine : (s.undefine r).Lawful := by
  unfold State.undefine
  split
  · exact h.answer
  · split
    · exact h.answer
    · split
      · exact h.answer
      · exact h.setLinkState.answer

/-! Requests of the monitor, the scan engine and the tally processor (R120 to R125, R140 to R155) -/

theorem profileRead : (s.profileRead r).Lawful := by
  unfold State.profileRead
  split <;> exact h.answer

theorem withProfiles {v : Vector Profile 8} : State.Lawful { s with profiles := v } := h.same rfl rfl rfl rfl rfl rfl rfl rfl

theorem profileWrite : (s.profileWrite r).Lawful := by
  unfold State.profileWrite
  split
  · exact h.answer
  · exact h.answer
  · exact h.withProfiles.answer

theorem readMonitor : (s.readMonitor r).Lawful := by
  unfold State.readMonitor
  dsimp only
  split
  · exact h.answer
  · exact State.Lawful.answer h.setMonitor.withSamples

theorem scanListRead : (s.scanListRead r).Lawful := by
  unfold State.scanListRead
  split <;> exact h.answer

theorem scanListWrite : (s.scanListWrite r).Lawful := by
  unfold State.scanListWrite
  dsimp only
  split
  · exact h.answer
  · split
    · exact h.answer
    · split
      · exact h.answer
      · refine State.Lawful.answer (h.withScan ?_)
        exact h.foreign

theorem scanStart : (s.scanStart r).Lawful := by
  unfold State.scanStart
  split
  · split
    · exact h.beginScan.answer
    · exact h.answer
  · exact h.raiseStartIgnored.answer

theorem scanStop : (s.scanStop r).Lawful := h.stopScan.answer

theorem scanRelease : (s.scanRelease r).Lawful := by
  unfold State.scanRelease
  split
  · refine State.Lawful.answer (h.withScan ?_)
    exact h.foreign
  · exact h.answer

theorem tallyMapRead : (s.tallyMapRead r).Lawful := by
  unfold State.tallyMapRead
  split <;> exact h.answer

theorem tallyMapWrite : (s.tallyMapWrite r).Lawful := by
  unfold State.tallyMapWrite
  split
  · exact h.answer
  · exact h.answer
  · exact h.withTally.answer

theorem lampLineRead : (s.lampLineRead r).Lawful := by
  unfold State.lampLineRead
  split <;> exact h.answer

theorem lampLineWrite : (s.lampLineWrite r).Lawful := by
  unfold State.lampLineWrite
  split
  · exact h.answer
  · exact h.answer
  · exact h.withTally.answer

/-! Requests of the mixer (R170 to R178) -/

theorem inputRead : (s.inputRead r).Lawful := by
  unfold State.inputRead
  split
  · exact h.answer
  · exact h.setInput.answer

theorem inputWrite : (s.inputWrite r).Lawful := by
  unfold State.inputWrite
  dsimp only
  split
  · exact h.answer
  · exact h.answer
  · split
    · exact h.answer
    · split
      · exact h.answer
      · split
        · exact h.answer
        · exact h.setInput.answer

theorem outputRead : (s.outputRead r).Lawful := by
  unfold State.outputRead
  split
  · exact h.answer
  · exact h.setOutput.answer

theorem outputWrite : (s.outputWrite r).Lawful := by
  unfold State.outputWrite
  split
  · exact h.answer
  · exact h.answer
  · exact h.setOutput.answer

theorem crosspointRead : (s.crosspointRead r).Lawful := by
  unfold State.crosspointRead
  split <;> exact h.answer

theorem setCrosspoint {i o : Fin 32} {x : Crosspoint} : (s.setCrosspoint i o x).Lawful := h.same rfl rfl rfl rfl rfl rfl rfl rfl

theorem crosspointWrite : (s.crosspointWrite r).Lawful := by
  unfold State.crosspointWrite
  split
  · exact h.answer
  · exact h.answer
  · exact h.setCrosspoint.answer

/-! Requests of the agent and the unit channel (R104, R189 to R196) -/

theorem storeFrameRate {v : List Byte} : (s.storeFrameRate v).Lawful := by
  unfold State.storeFrameRate
  split
  · exact h.setTiming
  · exact h

theorem storeScanMode {v : List Byte} : (s.storeScanMode v).Lawful := by
  unfold State.storeScanMode
  split
  · refine h.withScan ?_
    exact h.foreign
  · exact h

theorem storeStaleAction {v : List Byte} : (s.storeStaleAction v).Lawful := by
  unfold State.storeStaleAction
  split
  · exact h.withTally
  · exact h

theorem storeItem {x : ConfigItem} : (s.storeItem x).Lawful := by
  unfold State.storeItem
  split
  case h_1 => exact h.storeFrameRate
  case h_14 => exact h.storeScanMode
  case h_22 => exact h.storeStaleAction
  all_goals exact ⟨h.uport, h.dport, h.agent, h.retune, h.coord, h.foreign, h.slots⟩

theorem storeItems {items : List ConfigItem} : (s.storeItems items).Lawful := by
  have hstored : (items.foldl State.storeItem s).Lawful := h.foldl (fun _ _ ht => ht.storeItem) _
  unfold State.storeItems
  dsimp only
  split
  · exact hstored.markStale
  · exact hstored

theorem configWrite : (s.configWrite r).Lawful := by
  unfold State.configWrite
  dsimp only
  split
  · exact h.answer
  · split
    · exact h.answer
    · exact h.storeItems.answer

theorem configRead : (s.configRead r).Lawful := by
  unfold State.configRead
  split <;> exact h.answer

theorem readStatus : (s.readStatus r).Lawful := by
  unfold State.readStatus
  split <;> exact h.answer

theorem clearStatus : (s.clearStatus r).Lawful := by
  unfold State.clearStatus
  dsimp only
  split
  · exact h.answer
  · split
    · exact h.answer
    · refine State.Lawful.answer (h.withAgent ?_)
      exact h.agent

theorem reportEnable : (s.reportEnable r).Lawful := by
  refine State.Lawful.answer (h.withAgent ?_)
  exact h.agent

theorem unitCommand : (s.unitCommand r).Lawful := by
  have hgranted : (State.grantAll s.unit.waiting.length s).Lawful := h.grantAll
  unfold State.unitCommand
  dsimp only
  generalize State.grantAll s.unit.waiting.length s = t at hgranted ⊢
  split
  · exact hgranted.answer
  · split
    · exact hgranted.answer
    · split
      · exact hgranted.answer
      · split
        · exact hgranted.answer
        next i hi => exact State.Lawful.defer (hgranted.allocate hi)

theorem setQuiesce {q : Quiesce} : (s.setQuiesce q).Lawful := by
  refine h.withAgent ?_
  exact h.agent

theorem quiesceRequest : (s.quiesceRequest r).Lawful := by
  unfold State.quiesceRequest
  split
  · exact h.setQuiesce.testDrain.answer
  · exact h.answer

theorem resume : (s.resume r).Lawful := by
  unfold State.resume
  split
  · exact h.answer
  · exact h.setQuiesce.answer

theorem identify : (s.identify r).Lawful := h.answer

end State.Lawful

end Sys2Proof.Machine
end

section

/-! ### The law under every command -/

namespace Sys2Proof.Machine

/-- Every command keeps the law: an arriving cell, an event and a request by the operation of its row, after the rest of the frame event. -/
theorem exec_lawful (c : Instr) {s : State} (h : s.Lawful) : ∃ t, exec c s = .next t ∧ t.Lawful := by
  have hf := h.finishFrame
  cases c
  case mgmtCell c => exact ⟨_, rfl, hf.receive fun _ ht => ht.takeMgmt⟩
  case dPortMgmtCell => exact ⟨_, rfl, hf.receive fun _ ht => ht.raise⟩
  case forwardedCell p c => exact ⟨_, rfl, hf.receive fun _ ht => ht.offerForward⟩
  case commandAtGuard c => exact ⟨_, rfl, hf.receive fun _ ht => ht.guard⟩
  case marker c elapsed => exact ⟨_, rfl, hf.passTo.receive fun _ ht => ht.judgeMarker⟩
  case answerCell c => exact ⟨_, rfl, hf.receive fun _ ht => ht.takeAnswer⟩
  case sweepCell c => exact ⟨_, rfl, hf.receive fun _ ht => ht.checkFormat fun _ hu => hu.takeSweepCell⟩
  case telemetryCell c => exact ⟨_, rfl, hf.receive fun _ ht => ht.checkFormat fun _ hu => hu.takeTelemetry⟩
  case tallyCell c => exact ⟨_, rfl, hf.receive fun _ ht => ht.checkFormat fun _ hu => hu.takeTally⟩
  case audioCell p c => exact ⟨_, rfl, hf.receive fun _ ht => ht.checkFormat fun _ hu => hu.takeAudio⟩
  case transmitStart p =>
    cases p
    · exact ⟨_, rfl, hf.startU⟩
    · exact ⟨_, rfl, hf.startD⟩
  case transmitComplete p =>
    cases p
    · exact ⟨_, rfl, hf.completeU⟩
    · exact ⟨_, rfl, hf.completeD⟩
  case backoffAssert => exact ⟨_, rfl, hf.assertBackoff⟩
  case backoffRelease => exact ⟨_, rfl, hf.releaseBackoff⟩
  case resetAssert =>
    refine ⟨_, rfl, ?_⟩
    split
    · exact h
    · exact (State.Lawful.coldReset _).stopTimers
  case resetRelease =>
    refine ⟨_, rfl, ?_⟩
    split
    · exact h.withPins.startTimers
    · exact h
  case powerUp => exact ⟨_, rfl, State.Lawful.coldResetDone s⟩
  case flywheelExpiry => exact ⟨_, rfl, hf.flywheelExpiry⟩
  case frameTimerExpiry => exact ⟨_, rfl, hf.timerExpiry⟩
  case relockTimeout => exact ⟨_, rfl, hf.relockTimeout⟩
  case blockTimerExpiry => exact ⟨_, rfl, hf.expireBlock⟩
  case coordRequestStart => exact ⟨_, rfl, hf.startRequest⟩
  case attemptComplete => exact ⟨_, rfl, hf.completeAttempt⟩
  case slotGrant => exact ⟨_, rfl, hf.grantOne⟩
  case slotOffer i => exact ⟨_, rfl, hf.offerSlot⟩
  case pairSubmit k => exact ⟨_, rfl, hf.submitPair⟩
  case contextTake => exact ⟨_, rfl, hf.contextTake⟩
  case replyOffer => exact ⟨_, rfl, hf.offerReply⟩
  case answerDeadline | switchFrame | confirmDeadline | revertFrame | revertConfirmExpiry | telemetryTimeout | scanTrigger
    | tallyTimeout => exact ⟨_, rfl, h.dueStep⟩
  case bandRead => exact ⟨_, rfl, hf.take fun _ _ ht => ht.bandRead⟩
  case bandWrite => exact ⟨_, rfl, hf.take fun _ _ ht => ht.bandWrite⟩
  case carrierRead => exact ⟨_, rfl, hf.take fun _ _ ht => ht.carrierRead⟩
  case block => exact ⟨_, rfl, hf.take fun _ _ ht => ht.block⟩
  case unblock => exact ⟨_, rfl, hf.take fun _ _ ht => ht.unblock⟩
  case linkRead => exact ⟨_, rfl, hf.take fun _ _ ht => ht.linkRead⟩
  case linkWrite => exact ⟨_, rfl, hf.take fun _ _ ht => ht.linkWrite⟩
  case candidatesRead => exact ⟨_, rfl, hf.take fun _ _ ht => ht.candidatesRead⟩
  case candidatesWrite => exact ⟨_, rfl, hf.take fun _ _ ht => ht.candidatesWrite⟩
  case profileRead => exact ⟨_, rfl, hf.take fun _ _ ht => ht.profileRead⟩
  case profileWrite => exact ⟨_, rfl, hf.take fun _ _ ht => ht.profileWrite⟩
  case scanListRead => exact ⟨_, rfl, hf.take fun _ _ ht => ht.scanListRead⟩
  case scanListWrite => exact ⟨_, rfl, hf.take fun _ _ ht => ht.scanListWrite⟩
  case tallyMapRead => exact ⟨_, rfl, hf.take fun _ _ ht => ht.tallyMapRead⟩
  case tallyMapWrite => exact ⟨_, rfl, hf.take fun _ _ ht => ht.tallyMapWrite⟩
  case lampLineRead => exact ⟨_, rfl, hf.take fun _ _ ht => ht.lampLineRead⟩
  case lampLineWrite => exact ⟨_, rfl, hf.take fun _ _ ht => ht.lampLineWrite⟩
  case inputRead => exact ⟨_, rfl, hf.take fun _ _ ht => ht.inputRead⟩
  case inputWrite => exact ⟨_, rfl, hf.take fun _ _ ht => ht.inputWrite⟩
  case outputRead => exact ⟨_, rfl, hf.take fun _ _ ht => ht.outputRead⟩
  case outputWrite => exact ⟨_, rfl, hf.take fun _ _ ht => ht.outputWrite⟩
  case crosspointRead => exact ⟨_, rfl, hf.take fun _ _ ht => ht.crosspointRead⟩
  case crosspointWrite => exact ⟨_, rfl, hf.take fun _ _ ht => ht.crosspointWrite⟩
  case configRead => exact ⟨_, rfl, hf.take fun _ _ ht => ht.configRead⟩
  case assign => exact ⟨_, rfl, hf.take fun _ _ ht => ht.assign⟩
  case retune => exact ⟨_, rfl, hf.take fun _ _ ht => ht.retuneRequest⟩
  case abortRetune => exact ⟨_, rfl, hf.take fun _ _ ht => ht.abortRetune⟩
  case setBackup => exact ⟨_, rfl, hf.take fun _ _ ht => ht.setBackup⟩
  case release => exact ⟨_, rfl, hf.take fun _ _ ht => ht.releaseLink⟩
  case undefine => exact ⟨_, rfl, hf.take fun _ _ ht => ht.undefine⟩
  case check => exact ⟨_, rfl, hf.take fun _ _ ht => ht.check⟩
  case relock => exact ⟨_, rfl, hf.take fun _ _ ht => ht.relock⟩
  case scanStart => exact ⟨_, rfl, hf.take fun _ _ ht => ht.scanStart⟩
  case scanStop => exact ⟨_, rfl, hf.take fun _ _ ht => ht.scanStop⟩
  case scanRelease => exact ⟨_, rfl, hf.take fun _ _ ht => ht.scanRelease⟩
  case readMonitor => exact ⟨_, rfl, hf.take fun _ _ ht => ht.readMonitor⟩
  case readStatus => exact ⟨_, rfl, hf.take fun _ _ ht => ht.readStatus⟩
  case clearStatus => exact ⟨_, rfl, hf.take fun _ _ ht => ht.clearStatus⟩
  case reportEnable => exact ⟨_, rfl, hf.take fun _ _ ht => ht.reportEnable⟩
  case unitCommand => exact ⟨_, rfl, hf.take fun _ _ ht => ht.unitCommand⟩
  case quiesce => exact ⟨_, rfl, hf.take fun _ _ ht => ht.quiesceRequest⟩
  case resume => exact ⟨_, rfl, hf.take fun _ _ ht => ht.resume⟩
  case warmReset => exact ⟨_, rfl, hf.take fun _ _ ht => ht.warmResetRequest⟩
  case coldReset => exact ⟨_, rfl, hf.take fun t _ _ => State.Lawful.coldResetDone t⟩
  case identify => exact ⟨_, rfl, hf.take fun _ _ ht => ht.identify⟩
  case configFrameRate | configAutoRelock | configSwitchLead | configGNN | configGWW | configGNW | configW | configW3 | configGF
    | configAnswerTimeout | configConfirmWindow | configSweepReceiverA | configSweepReceiverB | configScanMode | configTriggerPeriod
    | configScanLayout | configSegmentTimeout | configOccupancyThreshold | configMergeWidth | configAgeLimit | configTallyTimeout
    | configStaleAction => exact ⟨_, rfl, hf.take fun _ _ ht => ht.configWrite⟩

/-- Settles O7: the law is kept by every operation, and so by every command. -/
theorem queueLawKept : Obligations.QueueLawKept := by
  intro s t hs hstep
  refine step_keeps (Law := State.QueueLaw) (fun u rest hu => ?_) (fun c u v hexec hu => ?_) hs hstep
  · exact (State.lawful_iff _).mp (((State.lawful_iff u).mpr hu).same rfl rfl rfl rfl rfl rfl rfl rfl)
  · obtain ⟨w, hw, hlawful⟩ := exec_lawful c ((State.lawful_iff u).mpr hu)
    rw [hexec] at hw
    cases hw
    exact (State.lawful_iff _).mp hlawful

end Sys2Proof.Machine
end
